-- ==== Sys2Proof/Word.lean ====
section
/-! DEFINITION. The part's word types and the plain arithmetic of 00_scope.md, "Arithmetic". -/

namespace Sys2Proof

/-- A byte of the service link. -/
abbrev Byte := BitVec 8

/-- A two-byte field of a service-link frame. -/
abbrev Half := BitVec 16

/-- clamp(value, low, high) on unsigned quantities. -/
def clampN (x lo hi : Nat) : Nat := min (max x lo) hi

/-- clamp(value, low, high) on signed quantities. -/
def clampI (x lo hi : Int) : Int := min (max x lo) hi

/-- A signed division: it truncates toward zero. -/
def quot (a b : Int) : Int := Int.tdiv a b

end Sys2Proof
end

