-- ==== Sys2Proof/Syntax.lean ====
section
/-! DEFINITION. The commands of the part: one constructor of `Instr` per row of spec/opcode_table.json, in the table's
order. A row the host sends carries the request's TAG and the fields of its payload (11, "Requests and replies"); a row of
another source carries what the manual says that occurrence brings (a converted code, a received byte, a node's frame). -/

namespace Sys2Proof

/-- An air stream; it also names the stream's fan channel and its filter (FS is `supply`, FE is `extract`). -/
inductive Stream where
  | supply
  | extract
deriving DecidableEq, Repr

/-- A request that the catalogue lists (11, "Requests and replies"), with its payload fields as they are carried. A
SET_TABLE whose table id is above 2 has no row of its own: the link refuses it while it dispatches the frame (R167, R173). -/
inductive Request where
  | ping
  | getStatus (page : Byte)
  | getEvents
  | setEventMask (mask : BitVec 32)
  | setDemand (source key : Byte) (level expiry : Half) (exempt : Byte)
  | clearDemand (source key : Byte)
  | getDemands (first : Byte)
  | getFlows
  | fanRecover (stream : Byte)
  | getFrost
  | forceDefrost
  | frostRelease
  | learnExchanger
  | getFilter (filter : Byte)
  | filterReset (filter : Byte)
  | getNodes (first : Byte)
  | nodePin (address room kind : Byte)
  | nodeUnpin (address : Byte)
  | nodeForget (address : Byte)
  | discover
  | getRooms (room : Byte)
  | getSessions (first : Byte)
  | boostCancel (room : Byte)
  | setMode (mode : Byte)
  | getParam (id : Byte)
  | setParam (id : Byte) (value : Half)
  | setTableTemperature (points : List Half)
  | setTableFeedforward (stream : Stream) (points : List (Half × Half))
  | saveSettings
  | restoreDefaults
  | resetPart
deriving DecidableEq, Repr

/-- The commands: one constructor per row of spec/opcode_table.json. -/
inductive Instr where
  /-- R170: power is applied or returns. -/
  | powerOn
  /-- R170: the reset input is asserted. -/
  | resetLineAssert
  /-- R170: the reset input is released. -/
  | resetLineRelease
  /-- R1: a scan begins. -/
  | scanStart
  /-- R2: the channel in turn is converted, with this code 0..4095. -/
  | conversion (raw : Nat)
  /-- R14: the recovery count reaches 10. -/
  | supplyLowRecovery
  /-- R18: a PWM period of this fan starts. -/
  | pwmPeriod (st : Stream)
  /-- R19: a tach pulse, this many microseconds after the pulse before it. -/
  | tachPulse (st : Stream) (interval : Nat)
  /-- R20: the absence timer reaches 2000 ms. -/
  | tachAbsence (st : Stream)
  /-- R21: a fan channel's control step. -/
  | controlStep (st : Stream)
  /-- R29: the control step at which a normal start fails. -/
  | startAttemptFailed (st : Stream)
  /-- R30: the control step that enters STEADY. -/
  | steadyEntry (st : Stream)
  /-- R30: the control step at which the STEADY timer reaches 60. -/
  | retryCountClear (st : Stream)
  /-- R33: the control step that begins a spin test. -/
  | spinTestStart (st : Stream)
  /-- R34: the control step at which a spin test fails. -/
  | spinTestFailed (st : Stream)
  /-- R36: the control step at which the saturation count reaches 60. -/
  | fanSaturation (st : Stream)
  /-- R35: host request. -/
  | fanRecover (tag stream : Byte)
  /-- R41: host request. -/
  | getFlows (tag : Byte)
  /-- R45: host request. -/
  | setDemand (tag source key : Byte) (level expiry : Half) (exempt : Byte)
  /-- R48: host request. -/
  | clearDemand (tag source key : Byte)
  /-- R50: host request. -/
  | getDemands (tag first : Byte)
  /-- R49: the HOST_TIMED entry of this slot, 1..4, expires. -/
  | demandExpiry (slot : Nat)
  /-- R70: the frost evaluation that brings the watch-exit count to 300. -/
  | watchExit
  /-- R71: the frost evaluation that is a shed event. -/
  | shedEvent
  /-- R66: the frost evaluation that brings the icing-sign count to 4. -/
  | icingSignDefrost
  /-- R73: the frost evaluation that brings the deep-cold count to 900. -/
  | deepColdDefrost
  /-- R72: the frost evaluation that enters RECOVER from SHED. -/
  | recoverEntry
  /-- R72: the frost evaluation at which recovery grows. -/
  | recoveryGrowth
  /-- R74: the frost evaluation that enters HOLD. -/
  | holdEntry
  /-- R75: the frost evaluation that makes a hold check. -/
  | holdCheck
  /-- R76: the frost evaluation that brings the release count to 600. -/
  | lockRelease
  /-- R81: the frost evaluation that begins the timed defrost. -/
  | degradedTimedDefrost
  /-- R81: the frost evaluation that ends the timed defrost. -/
  | degradedDefrostEnd
  /-- R67: the frost evaluation that completes a learn. -/
  | exchangerLearnComplete
  /-- R85: the frost evaluation that ends the overtemperature block. -/
  | overtempBlockEnd
  /-- R83: a preheater window begins. -/
  | preheatWindow
  /-- R83: the on time of the running preheater window ends. -/
  | preheatOnTimeEnd
  /-- R77: host request. -/
  | forceDefrost (tag : Byte)
  /-- R78: host request. -/
  | frostRelease (tag : Byte)
  /-- R68: host request. -/
  | learnExchanger (tag : Byte)
  /-- R88: host request. -/
  | getFrost (tag : Byte)
  /-- R89: a filter's sample. -/
  | filterSample (st : Stream)
  /-- R93: the sample that completes a filter's learn. -/
  | filterLearnComplete (st : Stream)
  /-- R95: a filter record's accumulation step. -/
  | accumulationStep (st : Stream)
  /-- R95: the accumulation step at which the dose rises. -/
  | doseUnit (st : Stream)
  /-- R96: the accumulation step at which the hours rise. -/
  | filterHour (st : Stream)
  /-- R100: host request. -/
  | filterReset (tag filter : Byte)
  /-- R105: host request. -/
  | getFilter (tag filter : Byte)
  /-- R110: a poll cycle falls due. -/
  | pollCycleDue
  /-- R109: the idle line starts the waiting job. -/
  | jobStart
  /-- R106: the controller sends the POLL that is due; `heldLow` is the line's level at that moment, low where a node holds
  it, and free where nothing is said. -/
  | poll (heldLow : Bool := false)
  /-- R106: a node's READING arrives; `checkGood` says whether its check is good, as it is where nothing is said. -/
  | reading (address rh : Nat) (temp : Int) (kind : Nat) (sensorError call : Bool) (checkGood : Bool := true)
  /-- R107: a node's WAIT arrives; `checkGood` says whether its check is good, as it is where nothing is said. -/
  | wait (address : Nat) (checkGood : Bool := true)
  /-- R106: the reply window closes with no accepted reply. -/
  | replyWindowClose
  /-- R107: 50 ms have passed since the window of an accepted wait closed. -/
  | waitGapEnd
  /-- R108: the POLL being sent is read back wrong. -/
  | lineConflict
  /-- R108: a node has held the line low for 1000 ms, or for a further 1000 ms. -/
  | lineHeldLowTimeout
  /-- R108: the 100 ms conflict rest ends. -/
  | conflictRestEnd
  /-- R117: the suspension remaining reaches 0. -/
  | suspensionEnd
  /-- R115: a node has held the line low for 50 ms. -/
  | callPulse
  /-- R113: the discovery timer reaches 86 400. -/
  | discoveryTimerExpiry
  /-- R118: the line switch reports an overcurrent. -/
  | overcurrent
  /-- R118: the restart remaining reaches 0. -/
  | lineRestart
  /-- R118: the settling time ends. -/
  | lineSettleEnd
  /-- R114: host request. -/
  | discover (tag : Byte)
  /-- R119: host request. -/
  | nodePin (tag address room kind : Byte)
  /-- R120: host request. -/
  | nodeUnpin (tag address : Byte)
  /-- R121: host request. -/
  | nodeForget (tag address : Byte)
  /-- R124: host request. -/
  | getNodes (tag first : Byte)
  /-- R127: room 0's sample. -/
  | room0Sample
  /-- R134: the session step. -/
  | sessionStep
  /-- R139: the session step at which this room's session reaches the age of 7200. -/
  | sessionTimeout (room : Nat)
  /-- R134: the session step at which this room's call time runs out. -/
  | callTimeEnd (room : Nat)
  /-- R139: the session step at which this room's overrun runs out. -/
  | overrunEnd (room : Nat)
  /-- R134: the session step at which this room's OPENING session reaches the age of 120. -/
  | openingTimeout (room : Nat)
  /-- R138: the session step at which this room's short counter reaches 60. -/
  | boostShort (room : Nat)
  /-- R141: host request. -/
  | boostCancel (tag room : Byte)
  /-- R143: host request. -/
  | getRooms (tag room : Byte)
  /-- R143: host request. -/
  | getSessions (tag first : Byte)
  /-- R146: host request. -/
  | setMode (tag mode : Byte)
  /-- R145: the mode step. -/
  | modeStep
  /-- R147: the mode step that begins STANDBY. -/
  | standbyBegin
  /-- R148: the mode step that starts an airing burst. -/
  | airingBurstStart
  /-- R149: the mode step that ends an airing burst. -/
  | airingBurstEnd
  /-- R150: the mode step that reaches the standby limit. -/
  | standbyLimit
  /-- R152: the mode step that begins probing. -/
  | probingStart
  /-- R175: the mode step that sends a further ALIVE notice. -/
  | alive
  /-- R153: the mode step that declares the host lost. -/
  | hostLost
  /-- R159: the check byte arrives and the frame is good. -/
  | goodFrame (check : Byte)
  /-- R157: the check byte arrives and the frame is not good. -/
  | badCheckFrame (check : Byte)
  /-- R157: the length byte arrives and is outside 2..48. -/
  | lengthError (byte : Byte)
  /-- R158: 10 ms pass without a byte inside a frame. -/
  | interByteGap
  /-- R158: a byte with a framing error arrives. -/
  | lineErrorByte
  /-- R162: the last byte of the outgoing frame leaves the line. -/
  | frameSent
  /-- R163: host request. -/
  | getEvents (tag : Byte)
  /-- R164: host request. -/
  | setEventMask (tag : Byte) (mask : BitVec 32)
  /-- R165: host request. -/
  | ping (tag : Byte)
  /-- R174: host request. -/
  | getStatus (tag page : Byte)
  /-- R167: host request. -/
  | getParam (tag id : Byte)
  /-- R167: host request. -/
  | setParam (tag id : Byte) (value : Half)
  /-- R10: host request, SET_TABLE of the temperature table. -/
  | setTableTemperature (tag : Byte) (points : List Half)
  /-- R25: host request, SET_TABLE of a fan's feedforward table. -/
  | setTableFeedforward (tag : Byte) (st : Stream) (points : List (Half × Half))
  /-- R168: a store write completes. -/
  | saveWriteComplete
  /-- R168: the fan-running count reaches 3600 s. -/
  | fanRunningHour
  /-- R169: host request. -/
  | saveSettings (tag : Byte)
  /-- R169: host request. -/
  | restoreDefaults (tag : Byte)
  /-- R169: host request. -/
  | resetPart (tag : Byte)
  /-- R157: a byte arrives that neither completes nor abandons a frame. -/
  | byteReceived (byte : Byte)
  /-- R170: power fails. -/
  | powerFail
deriving DecidableEq, Repr

/-- The table row a host request stands for, with the request's tag. -/
def Request.toInstr (tag : Byte) : Request → Instr
  | .ping => .ping tag
  | .getStatus page => .getStatus tag page
  | .getEvents => .getEvents tag
  | .setEventMask mask => .setEventMask tag mask
  | .setDemand source key level expiry exempt => .setDemand tag source key level expiry exempt
  | .clearDemand source key => .clearDemand tag source key
  | .getDemands first => .getDemands tag first
  | .getFlows => .getFlows tag
  | .fanRecover stream => .fanRecover tag stream
  | .getFrost => .getFrost tag
  | .forceDefrost => .forceDefrost tag
  | .frostRelease => .frostRelease tag
  | .learnExchanger => .learnExchanger tag
  | .getFilter filter => .getFilter tag filter
  | .filterReset filter => .filterReset tag filter
  | .getNodes first => .getNodes tag first
  | .nodePin address room kind => .nodePin tag address room kind
  | .nodeUnpin address => .nodeUnpin tag address
  | .nodeForget address => .nodeForget tag address
  | .discover => .discover tag
  | .getRooms room => .getRooms tag room
  | .getSessions first => .getSessions tag first
  | .boostCancel room => .boostCancel tag room
  | .setMode mode => .setMode tag mode
  | .getParam id => .getParam tag id
  | .setParam id value => .setParam tag id value
  | .setTableTemperature points => .setTableTemperature tag points
  | .setTableFeedforward st points => .setTableFeedforward tag st points
  | .saveSettings => .saveSettings tag
  | .restoreDefaults => .restoreDefaults tag
  | .resetPart => .resetPart tag

end Sys2Proof
end

