-- ==== Sys2Proof/Decode.lean ====
section
/-! DEFINITION. No row of spec/opcode_table.json gives bits (its "fields" are empty throughout), so no word spells a
command. A request's own bytes are read in Machine/Operands.lean (`decodeRequest`), by the catalogue of 11. -/

namespace Sys2Proof

/-- The command a table word spells: none, since no row of the table gives bits. -/
def decodeTableWord (_nbits _w : Nat) : Option Instr := none

end Sys2Proof
end

