-- ==== Sys2Proof/Config.lean ====
section
/-! DEFINITION. The fixed figures of the part, and the values its manual does not state (free values: constants without
a body, so that no proof can see what they are). -/

namespace Sys2Proof.Config

/-- q_fan_min, the lowest flow a fan is run at; fixed (02, "The fan record"; parameter 17). -/
def qFanMin : Nat := 60

/-- V_SUPPLY below this starts SUPPLY_LOW (R13). -/
def railLow : Int := 204

/-- V_SUPPLY at or above this counts toward the end of SUPPLY_LOW (R14). -/
def railRecovered : Int := 216

/-- V_SUPPLY below this resets the part (R15). -/
def railBrownout : Int := 168

/-- The part number PING carries (11, "Requests and replies"). -/
def partNumber : Nat := 412

/-- The revision PING carries (11, "Requests and replies"). -/
def revision : Nat := 1

/-- FREE VALUE (assumption 2): the speed R19 gives for tach intervals whose span is 0 us; the manual states none. -/
opaque speedOfZeroSpan : Nat → Nat

/-- FREE VALUE (assumption 3): what the uptime reads after its last stated value, 4 294 967 295 s; the manual states none. -/
opaque uptimePastEnd : Nat → Nat

end Sys2Proof.Config
end

