-- ==== Sys2Proof/Machine/State.lean ====
section
/-! DEFINITION. Everything the manual says the part keeps, block by block, and the state right after reset. -/

namespace Sys2Proof.Machine

/-- A command never ends in a fault: the manual names no occurrence that stops the part for good (assumption 1). -/
inductive Fault where
deriving DecidableEq, Repr

/-- Why a command has no outcome. -/
inductive Refusal where
  /-- Raised by a refused arm of `exec` for a row without a meaning; no arm does so. Safe: the machine stops. -/
  | notModelled (mnemonic : String)
deriving DecidableEq, Repr

/-! ### Values of the two streams and of the eleven channels -/

/-- One value for each air stream. -/
structure PerStream (α : Type) where
  supply : α
  extract : α
deriving DecidableEq, Repr

/-- The value of a stream. -/
def PerStream.get {α : Type} (p : PerStream α) : Stream → α
  | .supply => p.supply
  | .extract => p.extract

/-- The value of one stream replaced. -/
def PerStream.set {α : Type} (p : PerStream α) : Stream → α → PerStream α
  | .supply, a => { p with supply := a }
  | .extract, a => { p with extract := a }

/-- The analog channels, in scan order (01, "Channels"). -/
inductive Channel where
  | tOut | tPre | tSup | tExt | tExh | rhExt | dpFs | dpFe | dpXs | dpXe | vSupply
deriving DecidableEq, Repr

/-- One value for each channel. -/
structure PerChannel (α : Type) where
  tOut : α
  tPre : α
  tSup : α
  tExt : α
  tExh : α
  rhExt : α
  dpFs : α
  dpFe : α
  dpXs : α
  dpXe : α
  vSupply : α
deriving DecidableEq, Repr

/-- The value of a channel. -/
def PerChannel.get {α : Type} (p : PerChannel α) : Channel → α
  | .tOut => p.tOut
  | .tPre => p.tPre
  | .tSup => p.tSup
  | .tExt => p.tExt
  | .tExh => p.tExh
  | .rhExt => p.rhExt
  | .dpFs => p.dpFs
  | .dpFe => p.dpFe
  | .dpXs => p.dpXs
  | .dpXe => p.dpXe
  | .vSupply => p.vSupply

/-- The value of one channel replaced. -/
def PerChannel.set {α : Type} (p : PerChannel α) : Channel → α → PerChannel α
  | .tOut, a => { p with tOut := a }
  | .tPre, a => { p with tPre := a }
  | .tSup, a => { p with tSup := a }
  | .tExt, a => { p with tExt := a }
  | .tExh, a => { p with tExh := a }
  | .rhExt, a => { p with rhExt := a }
  | .dpFs, a => { p with dpFs := a }
  | .dpFe, a => { p with dpFe := a }
  | .dpXs, a => { p with dpXs := a }
  | .dpXe, a => { p with dpXe := a }
  | .vSupply, a => { p with vSupply := a }

/-- The channels as a list, in scan order. -/
def PerChannel.toList {α : Type} (p : PerChannel α) : List α :=
  [p.tOut, p.tPre, p.tSup, p.tExt, p.tExh, p.rhExt, p.dpFs, p.dpFe, p.dpXs, p.dpXe, p.vSupply]

/-! ### Measurement sequencer (01) -/

/-- How far a channel's value can be trusted (01, "Channels"). -/
inductive Validity where
  | valid | held | invalid
deriving DecidableEq, Repr

/-- The kind of a channel's latest faulty conversion (01, "Channels"). -/
inductive FaultKind where
  | noFault | openFault | shortFault
deriving DecidableEq, Repr

/-- The record of one analog channel (01, "Channels"). -/
structure ChannelRecord where
  raw : Nat
  engineering : Option Int
  filtered : Option Int
  validity : Validity
  faultKind : FaultKind
  faultCount : Nat
deriving DecidableEq, Repr

/-- A channel record after reset (R16). -/
def ChannelRecord.reset : ChannelRecord :=
  { raw := 0, engineering := none, filtered := none, validity := .invalid, faultKind := .noFault, faultCount := 0 }

/-- The linear calibration of one channel: gain 0..65535 and offset -1000..+1000 (R4). -/
structure LinCal where
  gain : Nat
  offset : Int
deriving DecidableEq, Repr

/-- The calibration: the temperature table t0..t16 and the six linear calibrations (R3, R4, R9). -/
structure Calibration where
  temps : List Int
  rhExt : LinCal
  dpFs : LinCal
  dpFe : LinCal
  dpXs : LinCal
  dpXe : LinCal
  vSupply : LinCal
deriving DecidableEq, Repr

/-- The default calibration (01, "Conversion"). -/
def Calibration.default : Calibration :=
  { temps := [800, 640, 510, 410, 330, 260, 200, 145, 95, 50, 5, -40, -90, -145, -210, -290, -400]
    rhExt := ⟨1000, 0⟩, dpFs := ⟨5000, 0⟩, dpFe := ⟨5000, 0⟩, dpXs := ⟨5000, 0⟩, dpXe := ⟨5000, 0⟩
    vSupply := ⟨400, 0⟩ }

/-- The measurement sequencer. It is SCANNING while `next` names the channel to convert and WAITING otherwise (R1). A
pending calibration change (R9) is a difference between the settings in force and `cal`. -/
structure Sequencer where
  published : PerChannel ChannelRecord
  working : PerChannel ChannelRecord
  next : Option Channel
  cal : Calibration
  faultRaised : Bool
  restoredRaised : Bool
  supplyLow : Bool
  recovery : Nat
deriving DecidableEq, Repr

/-- One value at every channel. -/
def PerChannel.replicate {α : Type} (a : α) : PerChannel α := ⟨a, a, a, a, a, a, a, a, a, a, a⟩

/-- The sequencer after reset, with the calibration loaded (R16). A reset loses the working copy (R12, R16) and the manual
gives it no contents then; the model fills it with reset records, which the next scan's start overwrites (DESIGN CHOICE:
assumption 33). -/
def Sequencer.reset (cal : Calibration) : Sequencer :=
  { published := .replicate .reset, working := .replicate .reset, next := none, cal := cal, faultRaised := false
    restoredRaised := false, supplyLow := false, recovery := 0 }

/-! ### Settings (10) -/

/-- A fan's feedforward table: points of flow and duty (R25). -/
abbrev Feedforward := List (Nat × Nat)

/-- The default feedforward table of both fans (R25). -/
def Feedforward.default : Feedforward :=
  [(0, 0), (150, 180), (300, 300), (450, 420), (600, 540), (750, 670), (900, 800), (1200, 1000)]

/-- The parameters, less the fixed q_fan_min, and the three tables (10, "Parameters"). -/
structure Settings where
  cal : Calibration
  fanKn : Nat
  fanKp : Nat
  fanKi : Nat
  dutyMin : Nat
  dutyStart : Nat
  qRated : Nat
  qMinRun : Nat
  qQuiet : Nat
  demandBase : Nat
  preheatFitted : Bool
  tPs : Int
  aNormal : Nat
  aShed : Nat
  aDefrost : Nat
  doseLimit : Nat
  hoursLimit : Nat
  airingInterval : Nat
  qAiring : Nat
  supervisionInterval : Nat
  qFallback : Nat
  feedforward : PerStream Feedforward
deriving DecidableEq, Repr

/-- The default of every parameter and table (10, "Parameters"). -/
def Settings.default : Settings :=
  { cal := .default, fanKn := 40, fanKp := 6, fanKi := 4, dutyMin := 120, dutyStart := 300, qRated := 900
    qMinRun := 150, qQuiet := 350, demandBase := 300, preheatFitted := false, tPs := -30, aNormal := 100
    aShed := 200, aDefrost := 250, doseLimit := 45000, hoursLimit := 4380, airingInterval := 3600, qAiring := 250
    supervisionInterval := 300, qFallback := 300, feedforward := ⟨.default, .default⟩ }

/-! ### Fan channels (02) -/

/-- The states of a fan (02, "The fan record"). -/
inductive FanState where
  | off | starting | ramping | steady | stalled | failed
deriving DecidableEq, Repr

/-- The purpose of a STARTING state (02, "The fan record"). -/
inductive StartKind where
  | normal | spinTest
deriving DecidableEq, Repr

/-- Whether the flow estimate has both its pressures (R24). -/
inductive LoopMode where
  | closed | openLoop
deriving DecidableEq, Repr

/-- The fan record (02, "The fan record"), with the tach input's absence timer (R20) and its interval measurement (R19).
`duty` is the pending duty and `applied` the applied one (R18); `saturated` is read from `satCap`, which is present exactly
while the flag is set. -/
structure FanRecord where
  state : FanState
  startKind : StartKind
  qTarget : Nat
  qCmd : Nat
  qMeas : Nat
  n : Nat
  duty : Nat
  applied : Nat
  trim : Int
  retry : Nat
  satCap : Option Nat
  steadyCount : Nat
  satCount : Nat
  timer : Nat
  loop : LoopMode
  /-- The absence timer in milliseconds; absent while it is stopped (R20). -/
  absence : Option Nat
  /-- Whether a pulse has come since reset, so that the next one ends an interval (R19). -/
  tachSeen : Bool
  /-- The intervals that ended since the last control step (R19). -/
  tachCount : Nat
  /-- Their span in microseconds (R19). -/
  tachSpan : Nat
deriving DecidableEq, Repr

/-- The fan record after reset (R40). An interval that a pulse before the reset began is dropped with it, so the first
pulse after a reset ends none (DESIGN CHOICE: assumption 34). -/
def FanRecord.reset : FanRecord :=
  { state := .off, startKind := .normal, qTarget := 0, qCmd := 0, qMeas := 0, n := 0, duty := 0, applied := 0
    trim := 0, retry := 0, satCap := none, steadyCount := 0, satCount := 0, timer := 0, loop := .closed
    absence := none, tachSeen := false, tachCount := 0, tachSpan := 0 }

/-- The saturated flag (02, "The fan record"). -/
def FanRecord.saturated (f : FanRecord) : Bool := f.satCap.isSome

/-- RAMPING or STEADY. -/
def FanRecord.running (f : FanRecord) : Bool := f.state == .ramping || f.state == .steady

/-! ### Demand table and resolution record (03) -/

/-- The sources of demand entries, in table order (03, "The demand table"). -/
inductive Source where
  | hostBase | hostTimed | boost | airing | fallback
deriving DecidableEq, Repr

/-- A demand entry (R43); its source and key are its place in the table. `ms` is the part of the second its expiry has
counted (R49). -/
structure DemandEntry where
  level : Nat
  expiry : Option Nat
  exempt : Bool
  createdAt : Nat
  ms : Nat
deriving DecidableEq, Repr

/-- The demand table: a place for every source and key, so no two entries share both and every insertion finds room
(R42). -/
structure DemandTable where
  hostBase : DemandEntry
  /-- HOST_TIMED slots 1..4. -/
  timed : Vector (Option DemandEntry) 4
  /-- BOOST rooms 0..6. -/
  boost : Vector (Option DemandEntry) 7
  airing : Option DemandEntry
  fallback : Option DemandEntry
  changeCount : Nat
deriving DecidableEq, Repr

/-- The HOST_BASE entry at a level (R43, R51). -/
def DemandEntry.base (level : Nat) : DemandEntry := ⟨level, none, false, 0, 0⟩

/-- The table after reset: HOST_BASE alone (R51). -/
def DemandTable.reset (level : Nat) : DemandTable :=
  { hostBase := .base level, timed := .replicate 4 none, boost := .replicate 7 none, airing := none, fallback := none
    changeCount := 0 }

/-- The limiting reasons (03, "The resolution record"). -/
inductive Reason where
  | demand | quiet | ceiling | saturation | window | allowance | fanMin | fanFault | frostLock | standby
deriving DecidableEq, Repr

/-- The resolution record (R60). -/
structure Resolution where
  extTarget : Nat
  supTarget : Nat
  extReason : Reason
  supReason : Reason
  allowance : Nat
  window : Nat
  governing : Option (Source × Nat)
  count : Nat
deriving DecidableEq, Repr

/-- The resolution record after reset (R61). -/
def Resolution.reset (aNormal : Nat) : Resolution :=
  { extTarget := 0, supTarget := 0, extReason := .demand, supReason := .demand, allowance := aNormal, window := 16
    governing := none, count := 0 }

/-! ### Frost controller (04) -/

/-- The frost stages (04, "The frost record"). -/
inductive FrostStage where
  | idle | watch | shed | defrost | hold | lock | recover
deriving DecidableEq, Repr

/-- The frost modes (04, "The frost record"). -/
inductive FrostMode where
  | normal | degraded
deriving DecidableEq, Repr

/-- The frost record (04, "The frost record"), the allowance in use (R79) and the preheater output (R83). -/
structure FrostRecord where
  stage : FrostStage
  mode : FrostMode
  w : Nat
  s : Nat
  wEntry : Nat
  tg : Int
  icing : Nat
  rx0 : Option Nat
  ratio : Option Nat
  learnActive : Bool
  learnCount : Nat
  learnSum : Nat
  holdInterval : Nat
  holdChecks : Nat
  duty : Nat
  block : Nat
  timer : Nat
  watchExit : Nat
  cold : Nat
  deepCold : Nat
  warm : Nat
  release : Nat
  allowance : Nat
  /-- The preheater output: on or off (R83). -/
  output : Bool
  /-- Milliseconds since the running 10 s window began (R83). -/
  windowMs : Nat
deriving DecidableEq, Repr

/-- The frost record after reset, with the loaded reference (R87). -/
def FrostRecord.reset (rx0 : Option Nat) (aNormal : Nat) : FrostRecord :=
  { stage := .idle, mode := .normal, w := 16, s := 16, wEntry := 16, tg := 30, icing := 0, rx0 := rx0, ratio := none
    learnActive := rx0.isNone, learnCount := 0, learnSum := 0, holdInterval := 60, holdChecks := 0, duty := 0
    block := 0, timer := 0, watchExit := 0, cold := 0, deepCold := 0, warm := 0, release := 0, allowance := aNormal
    output := false, windowMs := 0 }

/-! ### Filter monitor (05) -/

/-- The filter states, in the order in which a filter ages (05, "The filter record"). -/
inductive FilterState where
  | unknown | learning | clean | loaded | due | blocked
deriving DecidableEq, Repr

/-- How the most recent sample was judged (R90). -/
inductive SampleOutcome where
  | noSample | valid | fanNotSteady | openLoop | lowFlow | channelNotValid | frost | zeroResistance
deriving DecidableEq, Repr

/-- The filter record (05, "The filter record"). -/
structure FilterRecord where
  state : FilterState
  rf0 : Option Nat
  rAvg : Option Nat
  loading : Option Nat
  learnCount : Nat
  learnSum : Nat
  lastResistance : Option Nat
  lastOutcome : SampleOutcome
  dose : Nat
  doseAcc : Nat
  hours : Nat
  runSeconds : Nat
  ceiling : Nat
deriving DecidableEq, Repr

/-- The default record of R102, with a ceiling. -/
def FilterRecord.default (ceiling : Nat) : FilterRecord :=
  { state := .unknown, rf0 := none, rAvg := none, loading := none, learnCount := 0, learnSum := 0
    lastResistance := none, lastOutcome := .noSample, dose := 0, doseAcc := 0, hours := 0, runSeconds := 0
    ceiling := ceiling }

/-! ### Room line controller (06) -/

/-- The line states (06, "The line record and its jobs"). -/
inductive LineState where
  | active | fault | off
deriving DecidableEq, Repr

/-- The line's jobs (06, "The line record and its jobs"). -/
inductive Job where
  | noJob | pollCycle | callSweep | discovery
deriving DecidableEq, Repr

/-- Where a poll transaction stands: its next POLL is due, an exchange is open (the POLL and its reply window), the 50 ms
after a wait run, or the 100 ms conflict rest runs (R106 to R108). -/
inductive TxnPhase where
  | due | exchange | gap | rest
deriving DecidableEq, Repr

/-- A poll transaction in progress (R107). -/
structure Txn where
  address : Nat
  bit : Bool
  /-- The attempt, 1 or 2. -/
  attempt : Nat
  /-- Waits accepted in this attempt, 0..3. -/
  waits : Nat
  phase : TxnPhase
  /-- Milliseconds spent in the phase. -/
  ms : Nat
deriving DecidableEq, Repr

/-- The line record (06, "The line record and its jobs"), whether the line is powered (R118), whether a node holds it low
(R106), and the transaction in progress. -/
structure LineRecord where
  state : LineState
  powered : Bool
  /-- A node has held the line low for 50 ms or more and has not released it yet (R106, R115; assumption 22). -/
  heldLow : Bool
  job : Job
  pos : Option Nat
  sweep : Option Nat
  conflicts : Nat
  interval : Nat
  suspension : Nat
  restart : Nat
  cycleDue : Bool
  callPending : Bool
  discPending : Bool
  discTimer : Nat
  ignored : Nat
  changeCount : Nat
  txn : Option Txn
  /-- The part of the second counted by the suspension, the restart or the settling time, in milliseconds. -/
  lineMs : Nat
  /-- The part of the second counted by the discovery timer, in milliseconds. -/
  discMs : Nat
deriving DecidableEq, Repr

/-- The line record after reset (R123); start-up sets discovery pending as its last step (R171). -/
def LineRecord.reset : LineRecord :=
  { state := .active, powered := true, heldLow := false, job := .noJob, pos := none, sweep := none, conflicts := 0, interval := 60
    suspension := 0, restart := 0, cycleDue := false, callPending := false, discPending := false
    discTimer := 0, ignored := 0, changeCount := 0, txn := none, lineMs := 0, discMs := 0 }

/-- The room kinds; HOUSE is room 0's (11, "Codes"). -/
inductive RoomKind where
  | kitchen | bath | shower | utility | wc | other | house
deriving DecidableEq, Repr

/-- Whether a row was learned by discovery or pinned by the host (06, "The node table"). -/
inductive Origin where
  | learned | pinned
deriving DecidableEq, Repr

/-- Whether a row's node is heard (06, "The node table"). -/
inductive Presence where
  | present | silent | lost
deriving DecidableEq, Repr

/-- A row of the node table (06, "The node table"). -/
structure NodeRow where
  address : Nat
  room : Nat
  kind : RoomKind
  origin : Origin
  presence : Presence
  missed : Nat
  lastRh : Option Nat
  lastT : Option Int
  age : Option Nat
  sensorError : Bool
  seqBit : Bool
  /-- The part of the second counted by the reading age, in milliseconds. -/
  ageMs : Nat
deriving DecidableEq, Repr

/-- A row not heard yet: as NODE_PIN creates it (R119) and as a stored row is loaded (R123). -/
def NodeRow.unheard (address room : Nat) (kind : RoomKind) : NodeRow :=
  { address := address, room := room, kind := kind, origin := .pinned, presence := .silent, missed := 0
    lastRh := none, lastT := none, age := none, sensorError := false, seqBit := false, ageMs := 0 }

/-- The node table: positions 1..6 (06, "The node table"); position p stands at index p - 1. -/
abbrev NodeTable := Vector (Option NodeRow) 6

/-! ### Humidity monitor (07) -/

/-- The close reasons of a session (07, "Boost sessions"). -/
inductive CloseReason where
  | released | timeout | cancelled
deriving DecidableEq, Repr

/-- A room record (07, "Rooms"). -/
structure RoomRecord where
  bound : Bool
  kind : Option RoomKind
  limit : Nat
  rh : Option Nat
  temp : Option Int
  sensorError : Bool
  ring : List Nat
  rise : Option Int
  cooldown : Nat
  lastClose : Option CloseReason
deriving DecidableEq, Repr

/-- The limit of a room kind (R125). -/
def RoomKind.limit : RoomKind → Nat
  | .kitchen => 750
  | .bath => 700
  | .shower => 700
  | .utility => 700
  | .wc => 750
  | .other => 800
  | .house => 700

/-- A room bound to a kind, with nothing heard yet (R126, R144). -/
def RoomRecord.ofKind (k : RoomKind) : RoomRecord :=
  { bound := true, kind := some k, limit := k.limit, rh := none, temp := none, sensorError := false, ring := []
    rise := none, cooldown := 0, lastClose := none }

/-- An unbound room after reset (R144). Its limit is the model's choice, 700 (assumption 4). -/
def RoomRecord.unbound : RoomRecord :=
  { bound := false, kind := none, limit := 700, rh := none, temp := none, sensorError := false, ring := []
    rise := none, cooldown := 0, lastClose := none }

/-- The triggers of a session (07, "Triggers"). -/
inductive Trigger where
  | rise | limit | call
deriving DecidableEq, Repr

/-- The urgency of a session (07, "Boost sessions"). -/
inductive Urgency where
  | normal | high
deriving DecidableEq, Repr

/-- OPENING, ACTIVE or RELEASING: a session's state, or its held-from while it is HELD. -/
inductive Phase where
  | opening | active | releasing
deriving DecidableEq, Repr

/-- A boost session (07, "Boost sessions"). Its state is HELD while `held` is set, with `phase` as its held-from, and
`phase` otherwise. A CLOSED session has left the list (R139), so the list holds none. -/
structure Session where
  room : Nat
  trigger : Trigger
  urgency : Urgency
  phase : Phase
  held : Bool
  level : Nat
  rhStart : Option Nat
  rhPeak : Option Nat
  age : Nat
  overrun : Option Nat
  callTime : Option Nat
  sensingLost : Bool
  servedShort : Bool
  shortCount : Nat
  /-- Set once the row the session was opened under is gone: a return of another row clears no loss of sensing (R137). -/
  rowGone : Bool
deriving DecidableEq, Repr

/-! ### Mode controller (08) -/

/-- The operating modes (08, "The mode record"). -/
inductive Mode where
  | run | quiet | standby | standbyEntry
deriving DecidableEq, Repr

/-- The mode record (08, "The mode record"). -/
structure ModeRecord where
  mode : Mode
  elapsed : Nat
  nextAiring : Option Nat
  airing : Nat
deriving DecidableEq, Repr

/-- The mode record after reset (R155). -/
def ModeRecord.reset : ModeRecord := ⟨.run, 0, none, 0⟩

/-- STANDBY_ENTRY or STANDBY. -/
def Mode.inStandby : Mode → Bool
  | .standby => true
  | .standbyEntry => true
  | .run => false
  | .quiet => false

/-- The states of supervision (08, "Supervision of the host"). -/
inductive SupervState where
  | ok | probing | lost | off
deriving DecidableEq, Repr

/-- The supervision record (08, "Supervision of the host"). -/
structure Supervision where
  state : SupervState
  silence : Nat
  probes : Nat
deriving DecidableEq, Repr

/-- The supervision record after reset, for a supervision_interval (R155). -/
def Supervision.reset (interval : Nat) : Supervision := ⟨if interval = 0 then .off else .ok, 0, 0⟩

/-! ### Service link (09) -/

/-- The receiver's states (09, "Frames"). -/
inductive RxState where
  | hunting | length | body | check
deriving DecidableEq, Repr

/-- How far the request in the slot has come: checked by the link and waiting for its owner (R161), waiting for its save
(R169), or answered, with its reply in the transmit queue (R162). -/
inductive SlotPhase where
  | waiting | saving | replied
deriving DecidableEq, Repr

/-- The request slot's content (R159). A request the link itself refused is kept by its kind alone. -/
structure Slot where
  tag : Byte
  kind : Byte
  request : Option Request
  phase : SlotPhase
deriving DecidableEq, Repr

/-- What an outgoing frame is: the slot's reply, a BUSY or WAKING reply, or an ALIVE notice (R162). -/
inductive TxClass where
  | slotReply | answer | notice
deriving DecidableEq, Repr

/-- An outgoing frame: its class and its body, KIND first (11, "Frame"). -/
structure TxFrame where
  cls : TxClass
  body : List Byte
deriving DecidableEq, Repr

/-- The eight link counters (09, "Frames"). -/
structure LinkCounters where
  good : Nat
  checkErrors : Nat
  gapAbandons : Nat
  lengthErrors : Nat
  lineErrors : Nat
  busy : Nat
  waking : Nat
  repliesLost : Nat
deriving DecidableEq, Repr

/-- The service link: receiver, request slot, transmit queue and counters (09). -/
structure Link where
  rx : RxState
  /-- The length byte kept in BODY and CHECK (R157). -/
  len : Nat
  /-- The body bytes kept so far (R157). -/
  body : List Byte
  /-- Milliseconds since the last byte of any kind, up to 1000 (R158, R160). -/
  silence : Nat
  /-- Whether the start byte of the frame being received came after 1000 ms of silence (R160). -/
  afterSilence : Bool
  slot : Option Slot
  /-- The transmit queue; its first frame is on the line (R162). -/
  tx : List TxFrame
  /-- Milliseconds the first frame of the queue has been on the line. -/
  txMs : Nat
  counters : LinkCounters
deriving DecidableEq, Repr

/-- The link after reset (R165). -/
def Link.reset : Link :=
  { rx := .hunting, len := 0, body := [], silence := 0, afterSilence := false, slot := none, tx := [], txMs := 0
    counters := ⟨0, 0, 0, 0, 0, 0, 0, 0⟩ }

/-! ### Settings store and resets (10) -/

/-- The stored fields of a filter record (R102). -/
structure StoredFilter where
  state : FilterState
  rf0 : Option Nat
  rAvg : Option Nat
  dose : Nat
  hours : Nat
deriving DecidableEq, Repr

/-- A stored pinned row (10, "The stored image"); its position is its place in the image's vector. -/
structure StoredRow where
  address : Nat
  room : Nat
  kind : RoomKind
deriving DecidableEq, Repr

/-- The contents of a good image (10, "The stored image"). -/
structure Image where
  settings : Settings
  filters : PerStream StoredFilter
  rx0 : Option Nat
  rows : Vector (Option StoredRow) 6
deriving DecidableEq, Repr

/-- The settings store (R166, R168). `image` is absent while the image is bad; `writing` is the snapshot being written. -/
structure Store where
  image : Option Image
  committed : Settings
  writing : Option Image
  /-- Milliseconds the write has taken. -/
  writeMs : Nat
  /-- Whether the running write is the save of the request in the slot, whose reply it releases (R169). -/
  releases : Bool
  savePending : Bool
  commitPending : Bool
  fanRunning : Nat
  completed : Nat
  /-- Whether the image found at the last start-up was good (R170). -/
  imageGood : Bool
  /-- Set once RESET_PART is accepted: no further save starts (R169). -/
  closed : Bool
deriving DecidableEq, Repr

/-- The causes of a reset (00, "Reset causes"). -/
inductive ResetCause where
  | powerOn | brownout | resetLine | command
deriving DecidableEq, Repr

/-- Whether the part works, is held in reset by its reset input, or has no power (R170). -/
inductive Power where
  | running | held | unpowered
deriving DecidableEq, Repr

/-! ### The whole part -/

/-- The part's state, and the queue of commands that are waiting. -/
structure State where
  power : Power
  /-- Start-up has loaded the store and makes its first scan: steps 3 to 8 of R171 are still to come. -/
  startingUp : Bool
  /-- The clock at the start-up step that set the fans OFF, from which their control steps count (R21). -/
  fansOffAt : Nat
  /-- The reset input: asserted or not (R170). -/
  resetLine : Bool
  cause : ResetCause
  /-- Milliseconds since the last start-up; the uptime is its whole seconds (R171). -/
  clock : Nat
  settings : Settings
  seq : Sequencer
  fans : PerStream FanRecord
  demand : DemandTable
  res : Resolution
  frost : FrostRecord
  filters : PerStream FilterRecord
  line : LineRecord
  nodes : NodeTable
  /-- Rooms 0..6. -/
  rooms : Vector RoomRecord 7
  /-- The open sessions, oldest first (R132). -/
  sessions : List Session
  sessionChange : Nat
  mode : ModeRecord
  superv : Supervision
  link : Link
  /-- The event flags, by event number (09, "Event set and alert line"). -/
  events : BitVec 30
  /-- The event mask (R164). -/
  mask : BitVec 30
  store : Store
  /-- The commands waiting, first in, first out. -/
  pending : List Instr
deriving DecidableEq, Repr

/-- A new part right after its first reset, by power: every block holds its reset values, and start-up has taken its first
step, which found a store never written, so every setting is at its default (R166, R171). Its second step, the first scan, is
the first SCAN_START with its conversions, and steps 3 to 8 follow the last of them (assumption 5). -/
def State.reset : State :=
  { power := .running
    startingUp := true
    fansOffAt := 0
    resetLine := false
    cause := .powerOn
    clock := 0
    settings := .default
    seq := .reset .default
    fans := ⟨.reset, .reset⟩
    demand := .reset 300
    res := .reset 100
    frost := .reset none 100
    filters := ⟨.default 900, .default 900⟩
    line := .reset
    nodes := .replicate 6 none
    rooms := (Vector.replicate 7 RoomRecord.unbound).set 0 (.ofKind .house)
    sessions := []
    sessionChange := 0
    mode := .reset
    superv := .reset 300
    link := .reset
    events := 0#30
    mask := BitVec.allOnes 30
    store :=
      { image := none, committed := .default, writing := none, writeMs := 0, releases := false, savePending := false
        commitPending := false, fanRunning := 0, completed := 0, imageGood := false, closed := false }
    pending := [] }

end Sys2Proof.Machine
end

