-- ==== Sys2Proof/Machine/Flags.lean ====
section
/-! DEFINITION. The event set, its mask and the alert line (09, "Event set and alert line"). -/

namespace Sys2Proof.Machine

/-- The thirty event kinds, in the order of their numbers. -/
inductive Event where
  | resetDone | settingsLost | sensorFault | sensorRestored | supplyLow | fanStalled | fanFailed | fanSaturated
  | frostShed | defrostStarted | defrostEnded | frostHold | frostLock | frostDegraded | filterLearned | filterLoaded
  | filterDue | filterBlocked | nodeLearned | nodeSilent | nodeLost | nodeCall | lineFault | boostOpened | boostClosed
  | boostShort | demandExpired | modeChanged | hostLost | hostReturned
deriving DecidableEq, Repr

/-- An event's number, its position in the flags and the mask (09, the Event set table). -/
def Event.num : Event → Nat
  | .resetDone => 0
  | .settingsLost => 1
  | .sensorFault => 2
  | .sensorRestored => 3
  | .supplyLow => 4
  | .fanStalled => 5
  | .fanFailed => 6
  | .fanSaturated => 7
  | .frostShed => 8
  | .defrostStarted => 9
  | .defrostEnded => 10
  | .frostHold => 11
  | .frostLock => 12
  | .frostDegraded => 13
  | .filterLearned => 14
  | .filterLoaded => 15
  | .filterDue => 16
  | .filterBlocked => 17
  | .nodeLearned => 18
  | .nodeSilent => 19
  | .nodeLost => 20
  | .nodeCall => 21
  | .lineFault => 22
  | .boostOpened => 23
  | .boostClosed => 24
  | .boostShort => 25
  | .demandExpired => 26
  | .modeChanged => 27
  | .hostLost => 28
  | .hostReturned => 29

/-- The flag of an event. -/
def Event.bit (e : Event) : BitVec 30 := BitVec.ofNat 30 (2 ^ e.num)

/-- Whether an event's flag is set. -/
def State.hasEvent (s : State) (e : Event) : Bool := s.events.getLsbD e.num

/-- R163: raising an event sets its flag; a flag already set stays set, and the mask does not matter. -/
def raise (e : Event) (s : State) : State := { s with events := s.events ||| e.bit }

/-- R163: the events of a list, each raised. -/
def raiseAll (es : List Event) (s : State) : State := es.foldl (fun t e => raise e t) s

/-- R163: raising under a condition. -/
def raiseIf (b : Bool) (e : Event) (s : State) : State :=
  { s with events := if b then s.events ||| e.bit else s.events }

/-- R164: the alert line is low while a flag is set whose enable is set; it is released while the part does not run. -/
def State.alertLow (s : State) : Bool := s.power == .running && s.events &&& s.mask != 0#30

end Sys2Proof.Machine
end

