-- ==== Sys2Proof/Machine/Format.lean ====
section
/-! DEFINITION. The codes, field encodings and carried records of 11. -/

namespace Sys2Proof.Machine

/-! ### Fields (R172) -/

/-- A 1-byte field. -/
def u8 (n : Nat) : List Byte := [BitVec.ofNat 8 n]

/-- An unsigned 2-byte field, little-endian. -/
def u16 (n : Nat) : List Byte := [BitVec.ofNat 8 n, BitVec.ofNat 8 (n / 256)]

/-- An unsigned 4-byte field, little-endian. -/
def u32 (n : Nat) : List Byte := u16 n ++ u16 (n / 65536)

/-- A signed 2-byte field, in two's complement. -/
def s16 (i : Int) : List Byte := u16 (BitVec.ofInt 16 i).toNat

/-- An optional unsigned 2-byte field: absent is 0xFFFF. -/
def u16Opt (o : Option Nat) : List Byte := u16 (o.getD 0xFFFF)

/-- An optional signed 2-byte field: absent is -32768. -/
def s16Opt (o : Option Int) : List Byte := s16 (o.getD (-32768))

/-- An optional 1-byte code: absent is 0xFF. -/
def u8Opt (o : Option Nat) : List Byte := u8 (o.getD 0xFF)

/-- The two bytes of a field read as a little-endian number, first byte lowest. -/
def fromLe (lo hi : Byte) : Half := hi ++ lo

/-- A flag byte, bit 0 first (R172). -/
def flagByte : List Bool → Nat
  | [] => 0
  | b :: bs => b.toNat + 2 * flagByte bs

/-! ### Codes (11, "Codes") -/

/-- The result codes (09, "Result codes"). -/
inductive Result where
  | ok | clamped | busy | waking | unknownKind | badLength | badValue | notNow | tableFull | noSuch | duplicate
  | badTable
deriving DecidableEq, Repr

/-- A result's code. -/
def Result.code : Result → Nat
  | .ok => 0
  | .clamped => 1
  | .busy => 2
  | .waking => 3
  | .unknownKind => 16
  | .badLength => 17
  | .badValue => 18
  | .notNow => 19
  | .tableFull => 20
  | .noSuch => 21
  | .duplicate => 22
  | .badTable => 23

def Source.code : Source → Nat
  | .hostBase => 0
  | .hostTimed => 1
  | .boost => 2
  | .airing => 3
  | .fallback => 4

def Reason.code : Reason → Nat
  | .demand => 0
  | .quiet => 1
  | .ceiling => 2
  | .saturation => 3
  | .window => 4
  | .allowance => 5
  | .fanMin => 6
  | .fanFault => 7
  | .frostLock => 8
  | .standby => 9

def FanState.code : FanState → Nat
  | .off => 0
  | .starting => 1
  | .ramping => 2
  | .steady => 3
  | .stalled => 4
  | .failed => 5

def FrostStage.code : FrostStage → Nat
  | .idle => 0
  | .watch => 1
  | .shed => 2
  | .defrost => 3
  | .hold => 4
  | .lock => 5
  | .recover => 6

def FrostMode.code : FrostMode → Nat
  | .normal => 0
  | .degraded => 1

def FilterState.code : FilterState → Nat
  | .unknown => 0
  | .learning => 1
  | .clean => 2
  | .loaded => 3
  | .due => 4
  | .blocked => 5

def SampleOutcome.code : SampleOutcome → Nat
  | .noSample => 0
  | .valid => 1
  | .fanNotSteady => 2
  | .openLoop => 3
  | .lowFlow => 4
  | .channelNotValid => 5
  | .frost => 6
  | .zeroResistance => 7

def Validity.code : Validity → Nat
  | .valid => 0
  | .held => 1
  | .invalid => 2

def FaultKind.code : FaultKind → Nat
  | .noFault => 0
  | .openFault => 1
  | .shortFault => 2

def Mode.code : Mode → Nat
  | .run => 0
  | .quiet => 1
  | .standby => 2
  | .standbyEntry => 3

def SupervState.code : SupervState → Nat
  | .ok => 0
  | .probing => 1
  | .lost => 2
  | .off => 3

def LineState.code : LineState → Nat
  | .active => 0
  | .fault => 1
  | .off => 2

def Job.code : Job → Nat
  | .noJob => 0
  | .pollCycle => 1
  | .callSweep => 2
  | .discovery => 3

def Origin.code : Origin → Nat
  | .learned => 0
  | .pinned => 1

def Presence.code : Presence → Nat
  | .present => 0
  | .silent => 1
  | .lost => 2

def RoomKind.code : RoomKind → Nat
  | .kitchen => 0
  | .bath => 1
  | .shower => 2
  | .utility => 3
  | .wc => 4
  | .other => 5
  | .house => 6

/-- The kind a node or NODE_PIN names: one of the six (R106, R119). -/
def RoomKind.ofCode : Nat → Option RoomKind
  | 0 => some .kitchen
  | 1 => some .bath
  | 2 => some .shower
  | 3 => some .utility
  | 4 => some .wc
  | 5 => some .other
  | _ => none

def Trigger.code : Trigger → Nat
  | .rise => 0
  | .limit => 1
  | .call => 2

def Urgency.code : Urgency → Nat
  | .normal => 0
  | .high => 1

def Phase.code : Phase → Nat
  | .opening => 0
  | .active => 1
  | .releasing => 2

/-- The code of a session's state: HELD is 3. -/
def Session.stateCode (x : Session) : Nat := if x.held then 3 else x.phase.code

def CloseReason.code : CloseReason → Nat
  | .released => 0
  | .timeout => 1
  | .cancelled => 2

def ResetCause.code : ResetCause → Nat
  | .powerOn => 0
  | .brownout => 1
  | .resetLine => 2
  | .command => 3

/-! ### Carried records (11, "Carried records", and R174) -/

/-- The demand record. -/
def encodeDemand (src : Source) (key : Nat) (e : DemandEntry) : List Byte :=
  u8 (src.code + if e.exempt then 128 else 0) ++ u8 key ++ u16 e.level ++ u16Opt e.expiry ++ u32 e.createdAt

/-- The resolution record. -/
def encodeResolution (r : Resolution) : List Byte :=
  u16 r.extTarget ++ u16 r.supTarget ++ u8 r.extReason.code ++ u8 r.supReason.code ++ u16 r.allowance ++ u8 r.window ++
    u8Opt (r.governing.map (·.1.code)) ++ u8Opt (r.governing.map (·.2)) ++ u16 r.count

/-- The fan record (R41). -/
def encodeFan (f : FanRecord) : List Byte :=
  u8 (f.state.code + 16 * f.retry) ++ u16 f.qCmd ++ u16 f.qMeas ++ u16 f.n ++ u16 f.applied ++ s16 f.trim ++
    u8 (flagByte [f.saturated, f.loop == .openLoop, f.state == .starting && f.startKind == .spinTest]) ++ u16Opt f.satCap

/-- The frost record (R88). -/
def encodeFrost (f : FrostRecord) : List Byte :=
  u8 f.stage.code ++ u8 f.mode.code ++ u8 f.w ++ u8 f.s ++ u8 f.wEntry ++ s16 f.tg ++ u8 f.icing ++ u16Opt f.rx0 ++
    u16Opt f.ratio ++ u8 (f.learnCount + if f.learnActive then 128 else 0) ++ u16 f.holdInterval ++ u8 f.holdChecks ++
    u8 f.duty ++ u8 f.block ++ u16 f.timer ++ u16 f.allowance

/-- The code of a filter: FS 0, FE 1; streams have the same codes. -/
def streamCode : Stream → Nat
  | .supply => 0
  | .extract => 1

/-- The filter record (R105). -/
def encodeFilter (st : Stream) (f : FilterRecord) : List Byte :=
  u8 (streamCode st) ++ u8 f.state.code ++ u16Opt f.rf0 ++ u16Opt f.rAvg ++ u16Opt f.loading ++ u8 f.learnCount ++ u16 f.dose ++
    u16 f.hours ++ u16 f.ceiling ++ u16Opt f.lastResistance ++ u8 f.lastOutcome.code

/-- The line record (R124). -/
def encodeLine (l : LineRecord) : List Byte :=
  u8 l.state.code ++ u8 l.job.code ++ u8 l.conflicts ++ u16 l.interval ++
    u16 (if l.state = .off then l.restart else l.suspension) ++ u8 (flagByte [l.callPending, l.discPending]) ++
    u8 l.ignored ++ u8 l.changeCount

/-- The record of one node-table position (R124). -/
def encodeRow : Option NodeRow → List Byte
  | none => List.replicate 11 0#8
  | some r =>
    u8 r.address ++ u8 r.room ++ u8 r.kind.code ++
      u8 (r.origin.code + 2 * r.presence.code + if r.sensorError then 8 else 0) ++ u8 r.missed ++ u16Opt r.lastRh ++
      s16Opt r.lastT ++ u16Opt r.age

/-- The room record, with whether a session is open for the room (R143). -/
def encodeRoom (room : Nat) (r : RoomRecord) (sessionOpen : Bool) : List Byte :=
  u8 room ++ u8 (flagByte [r.bound, r.sensorError, sessionOpen]) ++ u8Opt (r.kind.map (·.code)) ++ u16 r.limit ++
    u16Opt r.rh ++ s16Opt r.temp ++ u8 r.ring.length ++
    ((List.range 10).map fun i => u16Opt r.ring[i]?).flatten ++ s16Opt r.rise ++ u16 r.cooldown ++
    u8Opt (r.lastClose.map (·.code))

/-- The session record (R143). -/
def encodeSession (x : Session) : List Byte :=
  u8 x.room ++ u8 x.trigger.code ++ u8 x.urgency.code ++ u8 x.stateCode ++
    u8Opt (if x.held then some x.phase.code else none) ++ u16 x.level ++ u16Opt x.rhStart ++ u16Opt x.rhPeak ++
    u16 x.age ++ u16Opt x.overrun ++ u16Opt x.callTime ++ u8 (flagByte [x.sensingLost, x.servedShort]) ++ u8 x.shortCount

/-- The record of one channel on page 0 (R174). -/
def encodeChannel (c : ChannelRecord) : List Byte :=
  s16Opt c.filtered ++ u8 (c.validity.code + 4 * c.faultKind.code)

/-! ### Frames (11, "Frame") -/

/-- The sum of some bytes, modulo 256. -/
def byteSum (bs : List Byte) : Byte := bs.foldl (· + ·) 0#8

/-- A frame as it stands on the line: start byte, LEN, body, CHECK. -/
def frameBytes (body : List Byte) : List Byte :=
  let len : Byte := BitVec.ofNat 8 body.length
  [0x5A#8, len] ++ body ++ [0#8 - (len + byteSum body)]

/-- The body of a reply: the request's KIND with 0x80 added, its TAG, the result code, and the payload of an OK or
CLAMPED reply (R172). For a request whose KIND is 0x80 or more the byte wraps modulo 256 (DESIGN CHOICE: assumption 39). -/
def replyBody (kind tag : Byte) (r : Result) (payload : List Byte) : List Byte :=
  [kind + 0x80#8, tag] ++ u8 r.code ++ (if r = .ok ∨ r = .clamped then payload else [])

/-- The body of an ALIVE notice (R175). -/
def aliveBody (probe : Nat) (mode : Mode) (alertLow : Bool) : List Byte :=
  [0x60#8, 0#8] ++ u8 probe ++ u8 mode.code ++ u8 alertLow.toNat

end Sys2Proof.Machine
end

