-- ==== Sys2Proof/Machine/Operands.lean ====
section
/-! DEFINITION. What a request's payload names, and the parameters' ids, ranges and defaults (09, R161 and R173; 10,
"Parameters"; 11, "Requests and replies"). -/

namespace Sys2Proof.Machine

/-! ### Request kinds and payloads -/

/-- The KIND of a request (11, "Requests and replies"). -/
def requestKind : Request → Byte
  | .ping => 0x01
  | .getStatus _ => 0x02
  | .getEvents => 0x03
  | .setEventMask _ => 0x04
  | .setDemand .. => 0x10
  | .clearDemand .. => 0x11
  | .getDemands _ => 0x12
  | .getFlows => 0x13
  | .fanRecover _ => 0x14
  | .getFrost => 0x18
  | .forceDefrost => 0x19
  | .frostRelease => 0x1A
  | .learnExchanger => 0x1B
  | .getFilter _ => 0x20
  | .filterReset _ => 0x21
  | .getNodes _ => 0x28
  | .nodePin .. => 0x29
  | .nodeUnpin _ => 0x2A
  | .nodeForget _ => 0x2B
  | .discover => 0x2C
  | .getRooms _ => 0x30
  | .getSessions _ => 0x31
  | .boostCancel _ => 0x32
  | .setMode _ => 0x38
  | .getParam _ => 0x3C
  | .setParam .. => 0x3D
  | .setTableTemperature _ => 0x3E
  | .setTableFeedforward .. => 0x3E
  | .saveSettings => 0x48
  | .restoreDefaults => 0x49
  | .resetPart => 0x4F

/-- The pairs of bytes of a payload, each read little-endian; an odd last byte is left out. -/
def halves : List Byte → List Half
  | lo :: hi :: rest => fromLe lo hi :: halves rest
  | _ => []

/-- The pairs of 2-byte fields of a payload. -/
def pairs {α : Type} : List α → List (α × α)
  | a :: b :: rest => (a, b) :: pairs rest
  | _ => []

/-- What the link's checks of a frame's kind and payload length give: a refusal of the link's own, or a request for its
owner (R161, R173). -/
inductive Dispatched where
  | refuse (r : Result)
  | request (q : Request)
deriving DecidableEq, Repr

/-- R161, R173: a request's KIND and payload checked and read. -/
def decodeRequest (kind : Nat) (payload : List Byte) : Dispatched :=
  match kind, payload with
  | 0x01, [] => .request .ping
  | 0x02, [page] => .request (.getStatus page)
  | 0x03, [] => .request .getEvents
  | 0x04, [a, b, c, d] => .request (.setEventMask (d ++ c ++ b ++ a))
  | 0x10, [source, key, l0, l1, e0, e1, exempt] =>
      .request (.setDemand source key (fromLe l0 l1) (fromLe e0 e1) exempt)
  | 0x11, [source, key] => .request (.clearDemand source key)
  | 0x12, [first] => .request (.getDemands first)
  | 0x13, [] => .request .getFlows
  | 0x14, [stream] => .request (.fanRecover stream)
  | 0x18, [] => .request .getFrost
  | 0x19, [] => .request .forceDefrost
  | 0x1A, [] => .request .frostRelease
  | 0x1B, [] => .request .learnExchanger
  | 0x20, [filter] => .request (.getFilter filter)
  | 0x21, [filter] => .request (.filterReset filter)
  | 0x28, [first] => .request (.getNodes first)
  | 0x29, [address, room, k] => .request (.nodePin address room k)
  | 0x2A, [address] => .request (.nodeUnpin address)
  | 0x2B, [address] => .request (.nodeForget address)
  | 0x2C, [] => .request .discover
  | 0x30, [room] => .request (.getRooms room)
  | 0x31, [first] => .request (.getSessions first)
  | 0x32, [room] => .request (.boostCancel room)
  | 0x38, [mode] => .request (.setMode mode)
  | 0x3C, [id] => .request (.getParam id)
  | 0x3D, [id, v0, v1] => .request (.setParam id (fromLe v0 v1))
  | 0x3E, table :: points =>
      if table = 0 then
        if points.length = 34 then .request (.setTableTemperature (halves points)) else .refuse .badLength
      else if table = 1 then
        if points.length = 32 then .request (.setTableFeedforward .supply (pairs (halves points)))
        else .refuse .badLength
      else if table = 2 then
        if points.length = 32 then .request (.setTableFeedforward .extract (pairs (halves points)))
        else .refuse .badLength
      else .refuse .badValue
  | 0x48, [] => .request .saveSettings
  | 0x49, [] => .request .restoreDefaults
  | 0x4F, [] => .request .resetPart
  | k, _ =>
      if k ∈ [0x01, 0x02, 0x03, 0x04, 0x10, 0x11, 0x12, 0x13, 0x14, 0x18, 0x19, 0x1A, 0x1B, 0x20, 0x21, 0x28, 0x29,
          0x2A, 0x2B, 0x2C, 0x30, 0x31, 0x32, 0x38, 0x3C, 0x3D, 0x3E, 0x48, 0x49, 0x4F]
      then .refuse .badLength
      else .refuse .unknownKind

/-- The stream, or filter, a byte names: SUPPLY or FS 0, EXTRACT or FE 1. -/
def streamOf (b : Byte) : Option Stream :=
  if b = 0 then some .supply else if b = 1 then some .extract else none

/-- The mode SET_MODE names: RUN, QUIET or STANDBY (R146). -/
def modeOf (b : Byte) : Option Mode :=
  if b = 0 then some .run else if b = 1 then some .quiet else if b = 2 then some .standby else none

/-! ### Parameters -/

/-- The six channels with a linear calibration, in the order of their ids (10, "Parameters"). -/
inductive LinChannel where
  | rhExt | dpFs | dpFe | dpXs | dpXe | vSupply
deriving DecidableEq, Repr

/-- The calibration of one linear channel. -/
def Calibration.lin (c : Calibration) : LinChannel → LinCal
  | .rhExt => c.rhExt
  | .dpFs => c.dpFs
  | .dpFe => c.dpFe
  | .dpXs => c.dpXs
  | .dpXe => c.dpXe
  | .vSupply => c.vSupply

/-- The calibration with one linear channel's replaced. -/
def Calibration.setLin (c : Calibration) : LinChannel → LinCal → Calibration
  | .rhExt, l => { c with rhExt := l }
  | .dpFs, l => { c with dpFs := l }
  | .dpFe, l => { c with dpFe := l }
  | .dpXs, l => { c with dpXs := l }
  | .dpXe, l => { c with dpXe := l }
  | .vSupply, l => { c with vSupply := l }

/-- The parameters (10, "Parameters"). -/
inductive Param where
  | calGain (c : LinChannel) | calOffset (c : LinChannel)
  | fanKn | fanKp | fanKi | dutyMin | dutyStart | qFanMin | qRated | qMinRun | qQuiet | demandBase | preheatFitted | tPs
  | aNormal | aShed | aDefrost | doseLimit | hoursLimit | airingInterval | qAiring | supervisionInterval | qFallback
deriving DecidableEq, Repr

/-- The parameters in the order of their ids 0..32 (10, "Parameters"). -/
def Param.all : List Param :=
  [.calGain .rhExt, .calOffset .rhExt, .calGain .dpFs, .calOffset .dpFs, .calGain .dpFe, .calOffset .dpFe,
    .calGain .dpXs, .calOffset .dpXs, .calGain .dpXe, .calOffset .dpXe, .calGain .vSupply, .calOffset .vSupply,
    .fanKn, .fanKp, .fanKi, .dutyMin, .dutyStart, .qFanMin, .qRated, .qMinRun, .qQuiet, .demandBase, .preheatFitted,
    .tPs, .aNormal, .aShed, .aDefrost, .doseLimit, .hoursLimit, .airingInterval, .qAiring, .supervisionInterval,
    .qFallback]

/-- The parameter of an id (R167). -/
def Param.ofId (id : Nat) : Option Param := Param.all[id]?

/-- A parameter's value in some settings. -/
def Param.get (p : Param) (x : Settings) : Int :=
  match p with
  | .calGain c => (x.cal.lin c).gain
  | .calOffset c => (x.cal.lin c).offset
  | .fanKn => x.fanKn
  | .fanKp => x.fanKp
  | .fanKi => x.fanKi
  | .dutyMin => x.dutyMin
  | .dutyStart => x.dutyStart
  | .qFanMin => Config.qFanMin
  | .qRated => x.qRated
  | .qMinRun => x.qMinRun
  | .qQuiet => x.qQuiet
  | .demandBase => x.demandBase
  | .preheatFitted => if x.preheatFitted then 1 else 0
  | .tPs => x.tPs
  | .aNormal => x.aNormal
  | .aShed => x.aShed
  | .aDefrost => x.aDefrost
  | .doseLimit => x.doseLimit
  | .hoursLimit => x.hoursLimit
  | .airingInterval => x.airingInterval
  | .qAiring => x.qAiring
  | .supervisionInterval => x.supervisionInterval
  | .qFallback => x.qFallback

/-- Some settings with a parameter at a value; q_fan_min is fixed. -/
def Param.put (p : Param) (v : Int) (x : Settings) : Settings :=
  match p with
  | .calGain c => { x with cal := x.cal.setLin c { x.cal.lin c with gain := v.toNat } }
  | .calOffset c => { x with cal := x.cal.setLin c { x.cal.lin c with offset := v } }
  | .fanKn => { x with fanKn := v.toNat }
  | .fanKp => { x with fanKp := v.toNat }
  | .fanKi => { x with fanKi := v.toNat }
  | .dutyMin => { x with dutyMin := v.toNat }
  | .dutyStart => { x with dutyStart := v.toNat }
  | .qFanMin => x
  | .qRated => { x with qRated := v.toNat }
  | .qMinRun => { x with qMinRun := v.toNat }
  | .qQuiet => { x with qQuiet := v.toNat }
  | .demandBase => { x with demandBase := v.toNat }
  | .preheatFitted => { x with preheatFitted := v != 0 }
  | .tPs => { x with tPs := v }
  | .aNormal => { x with aNormal := v.toNat }
  | .aShed => { x with aShed := v.toNat }
  | .aDefrost => { x with aDefrost := v.toNat }
  | .doseLimit => { x with doseLimit := v.toNat }
  | .hoursLimit => { x with hoursLimit := v.toNat }
  | .airingInterval => { x with airingInterval := v.toNat }
  | .qAiring => { x with qAiring := v.toNat }
  | .supervisionInterval => { x with supervisionInterval := v.toNat }
  | .qFallback => { x with qFallback := v.toNat }

/-- A parameter's range (10, "Parameters"). -/
def Param.range : Param → Int × Int
  | .calGain _ => (0, 65535)
  | .calOffset _ => (-1000, 1000)
  | .fanKn => (1, 255)
  | .fanKp => (0, 64)
  | .fanKi => (1, 32)
  | .dutyMin => (60, 300)
  | .dutyStart => (120, 1000)
  | .qFanMin => (60, 60)
  | .qRated => (300, 1200)
  | .qMinRun => (60, 600)
  | .qQuiet => (150, 1200)
  | .demandBase => (0, 1200)
  | .preheatFitted => (0, 1)
  | .tPs => (-200, 100)
  | .aNormal => (50, 300)
  | .aShed => (100, 400)
  | .aDefrost => (100, 400)
  | .doseLimit => (100, 65535)
  | .hoursLimit => (100, 65535)
  | .airingInterval => (1200, 7200)
  | .qAiring => (60, 1200)
  | .supervisionInterval => (0, 3600)
  | .qFallback => (0, 1200)

/-- The parameters carried as signed values (11, "Requests and replies"). -/
def Param.signed : Param → Bool
  | .calOffset _ => true
  | .tPs => true
  | _ => false

/-- The value a request carries for a parameter. -/
def Param.read (p : Param) (v : Half) : Int := if p.signed then v.toInt else v.toNat

/-- The value a carried value is brought to, by the range and the owning chapter: q_min_run and q_rated bound each other
(R62), and a supervision_interval of 1..29 becomes 30 (R154). -/
def Param.clamp (p : Param) (v : Int) (x : Settings) : Int :=
  let c := clampI v p.range.1 p.range.2
  match p with
  | .qRated => max c x.qMinRun
  | .qMinRun => min c x.qRated
  | .supervisionInterval => if 0 < c ∧ c < 30 then 30 else c
  | _ => c

/-- The channel whose calibration a linear parameter is. -/
def LinChannel.channel : LinChannel → Channel
  | .rhExt => .rhExt
  | .dpFs => .dpFs
  | .dpFe => .dpFe
  | .dpXs => .dpXs
  | .dpXe => .dpXe
  | .vSupply => .vSupply

/-- The shape of a temperature table: seventeen points in range, strictly monotone (R10). -/
def tempTableOk (t : List Int) : Bool :=
  t.length == 17 && t.all (fun x => -400 ≤ x && x ≤ 800) &&
    (t.zip t.tail).all (fun p => p.1 < p.2) || t.length == 17 && t.all (fun x => -400 ≤ x && x ≤ 800) &&
    (t.zip t.tail).all (fun p => p.2 < p.1)

/-- The shape of a feedforward table: q0 is 0, the flows strictly rise, the duties never fall, all in range (R25). -/
def feedforwardOk (t : Feedforward) : Bool :=
  t.length == 8 && (t.map (·.1)).head? == some 0 && t.all (fun p => p.1 ≤ 1200 && p.2 ≤ 1000) &&
    (t.zip t.tail).all (fun p => p.1.1 < p.2.1 && p.1.2 ≤ p.2.2)

end Sys2Proof.Machine
end

