-- ==== Sys2Proof/Machine/Ops.lean ====
section
/-! DEFINITION. The operations several blocks share: the resolution (03), writes to the demand table (03), the preheater
interlock (04), asks for a save (10), and the handling of a host request by the link (09). -/

namespace Sys2Proof.Machine

/-! ### Named updates and reads of State -/

/-- A table of fixed size with a function applied at every place. -/
def mapVec {α β : Type} {n : Nat} (f : α → β) (v : Vector α n) : Vector β n := ⟨⟨v.toList.map f⟩, by simp⟩

/-- The fan record of one stream replaced. -/
def State.setFan (s : State) (st : Stream) (f : FanRecord) : State := { s with fans := s.fans.set st f }

/-- The filter record of one stream replaced. -/
def State.setFilter (s : State) (st : Stream) (f : FilterRecord) : State := { s with filters := s.filters.set st f }

/-- The frost record replaced. -/
def State.setFrost (s : State) (f : FrostRecord) : State := { s with frost := f }

/-- The line record replaced. -/
def State.setLine (s : State) (l : LineRecord) : State := { s with line := l }

/-- The record of one room, 0..6, replaced. -/
def State.setRoom (s : State) (room : Nat) (r : RoomRecord) : State :=
  { s with rooms := s.rooms.setIfInBounds room r }

/-- The record of one room; a number that names no room reads as an unbound one. -/
def State.room (s : State) (room : Nat) : RoomRecord := (s.rooms[room]?).getD .unbound

/-- The link replaced. -/
def State.setLink (s : State) (l : Link) : State := { s with link := l }

/-- The store replaced. -/
def State.setStore (s : State) (x : Store) : State := { s with store := x }

/-- The uptime in whole seconds (R171); past 4 294 967 295 s its value is not stated (assumption 3). -/
def State.uptime (s : State) : Nat :=
  if s.clock / 1000 ≤ 4294967295 then s.clock / 1000 else Config.uptimePastEnd (s.clock / 1000)

/-- What a command does only while the part works: in reset, or without power, it does nothing (R170). -/
def whenRunning (f : State → State) (s : State) : State := if s.power = .running then f s else s

/-- A step taken on an occasion on which it brings a mark about; on any other occasion the row has no occurrence, and
nothing changes (assumption 6). -/
def whenMarked {μ : Type} [DecidableEq μ] (m : μ) (f : State → State × List μ) (s : State) : State :=
  if m ∈ (f s).2 then (f s).1 else s

/-! ### Resolution (R52 to R60) -/

/-- The entries in table order (03, "The demand table"), each with its source and key. -/
def DemandTable.entries (d : DemandTable) : List (Source × Nat × DemandEntry) :=
  (.hostBase, 0, d.hostBase) ::
    ((List.range 4).filterMap (fun i => ((d.timed[i]?).join).map fun e => (.hostTimed, i + 1, e)) ++
      (List.range 7).filterMap (fun i => ((d.boost[i]?).join).map fun e => (.boost, i, e)) ++
      (d.airing.map fun e => (.airing, 0, e)).toList ++ (d.fallback.map fun e => (.fallback, 0, e)).toList)

/-- R53: in RUN and QUIET every entry is eligible, in standby the AIRING entry alone. -/
def eligible (m : Mode) (src : Source) : Bool := !m.inStandby || src == .airing

/-- R53: an entry's level as stage 1 takes it, capped in QUIET unless exempt. -/
def takenLevel (m : Mode) (qQuiet : Nat) (e : DemandEntry) : Nat :=
  if m = .quiet ∧ e.exempt = false then min e.level qQuiet else e.level

/-- The largest of some levels, 0 for none. -/
def largest (ls : List Nat) : Nat := ls.foldl max 0

/-- What stage 1 forms (R53): the demand, the governing entry, the largest level before the cap, and whether any entry was
eligible. -/
structure Stage1 where
  qDem : Nat
  governing : Option (Source × Nat)
  uncapped : Nat
  any : Bool
deriving DecidableEq, Repr

/-- R53: stage 1. -/
def stage1 (m : Mode) (qQuiet : Nat) (d : DemandTable) : Stage1 :=
  let es := d.entries.filter fun e => eligible m e.1
  let q := largest (es.map fun e => takenLevel m qQuiet e.2.2)
  { qDem := q
    governing := (es.find? fun e => takenLevel m qQuiet e.2.2 == q).map fun e => (e.1, e.2.1)
    uncapped := largest (es.map fun e => e.2.2.level)
    any := !es.isEmpty }

/-- R54: stage 2, the run band. -/
def runBand (q qMinRun qRated : Nat) : Nat := if 0 < q then clampN q qMinRun qRated else 0

/-- R54: stage 3, a stream's cap. -/
def streamCap (qRated ceiling : Nat) (satCap : Option Nat) : Nat :=
  match satCap with
  | none => min qRated ceiling
  | some c => min (min qRated ceiling) c

/-- R55: the supply flow the window and the cap give, before the fan-minimum zeroing. -/
def windowed (qe0 w capS : Nat) : Nat := min (qe0 * w / 16) capS

/-- The fan-minimum zeroing of R55 and R56. -/
def fanMinZeroed (q : Nat) : Nat := if q < Config.qFanMin then 0 else q

/-- R55: stage 5, the supply before balance. -/
def supplyBefore (qe0 w capS : Nat) : Nat := fanMinZeroed (windowed qe0 w capS)

/-- R56: stage 6, the extract flow. -/
def extractBalanced (qe0 qs0 a : Nat) : Nat := fanMinZeroed (min qe0 (qs0 + a))

/-- R57: a fan is STALLED or FAILED. -/
def fanFault (s : State) : Bool :=
  s.fans.supply.state == .stalled || s.fans.supply.state == .failed || s.fans.extract.state == .stalled ||
    s.fans.extract.state == .failed

/-- R54: the demand after the run band. -/
def demandFlow (s : State) : Nat :=
  runBand (stage1 s.mode.mode s.settings.qQuiet s.demand).qDem s.settings.qMinRun s.settings.qRated

/-- R54: the caps of the two streams. -/
def capOf (s : State) (st : Stream) : Nat :=
  streamCap s.settings.qRated (s.filters.get st).ceiling (s.fans.get st).satCap

/-- R54: stage 4, the extract flow before balance. -/
def extractBefore (s : State) : Nat := min (demandFlow s) (capOf s .extract)

/-- R55: the supply flow before balance. -/
def supplyFlow (s : State) : Nat := supplyBefore (extractBefore s) s.frost.w (capOf s .supply)

/-- R56: the extract flow after balance. -/
def extractFlow (s : State) : Nat := extractBalanced (extractBefore s) (supplyFlow s) s.frost.allowance

/-- R57: stage 7 stops both streams. -/
def stopped (s : State) : Bool := fanFault s || s.frost.stage == .lock

/-- R57: the targets, extract and supply. -/
def targets (s : State) : Nat × Nat :=
  if stopped s then (0, 0) else (extractFlow s, min (supplyFlow s) (extractFlow s))

/-- SATURATION where the saturation cap is the stream's cap, CEILING otherwise (R59). -/
def capReason (s : State) (st : Stream) : Reason :=
  if (s.fans.get st).satCap = some (capOf s st) then .saturation else .ceiling

/-- R59: the pre-balance reason. -/
def preReason (s : State) : Reason :=
  let g := stage1 s.mode.mode s.settings.qQuiet s.demand
  if extractBefore s < demandFlow s then capReason s .extract
  else if s.mode.mode.inStandby ∧ g.any = false then .standby
  else if s.mode.mode = .quiet ∧ g.qDem < g.uncapped then .quiet
  else .demand

/-- R59: case 1 of both targets. -/
def stopReason (s : State) : Option Reason :=
  if s.frost.stage = .lock then some .frostLock else if fanFault s then some .fanFault else none

/-- R59: the extract reason. -/
def extReason (s : State) : Reason :=
  (stopReason s).getD <|
    if extractFlow s = 0 ∧ 0 < extractBefore s then .fanMin
    else if extractFlow s < extractBefore s then .allowance
    else preReason s

/-- R59: the supply reason. -/
def supReason (s : State) : Reason :=
  let q := windowed (extractBefore s) s.frost.w (capOf s .supply)
  (stopReason s).getD <|
    if (0 < q ∧ supplyFlow s = 0) ∨ (extractFlow s = 0 ∧ 0 < supplyFlow s) then .fanMin
    else if capOf s .supply < extractBefore s * s.frost.w / 16 then capReason s .supply
    else if extractBefore s * s.frost.w / 16 < extractBefore s then .window
    else preReason s

/-- R60: the record a resolution writes. -/
def resolution (s : State) : Resolution :=
  { extTarget := (targets s).1, supTarget := (targets s).2, extReason := extReason s, supReason := supReason s
    allowance := s.frost.allowance, window := s.frost.w
    governing := (stage1 s.mode.mode s.settings.qQuiet s.demand).governing, count := (s.res.count + 1) % 65536 }

/-- R57: the targets written into the fan records. -/
def withTargets (fans : PerStream FanRecord) (t : Nat × Nat) : PerStream FanRecord :=
  { supply := { fans.supply with qTarget := t.2 }, extract := { fans.extract with qTarget := t.1 } }

/-- R52, R57, R60: a resolution. -/
def resolve (s : State) : State := { s with fans := withTargets s.fans (targets s), res := resolution s }

/-- A resolution under a condition. -/
def resolveIf (b : Bool) (s : State) : State := if b then resolve s else s

/-! ### Demand table writes (R43, R44) -/

/-- R43, R44: a write to the table raises its change count and starts a resolution. -/
def writeDemand (f : DemandTable → DemandTable) (s : State) : State :=
  resolve { s with demand := { f s.demand with changeCount := (s.demand.changeCount + 1) % 256 } }

/-- A write of the HOST_TIMED slot 1..4. -/
def setTimed (slot : Nat) (e : Option DemandEntry) (d : DemandTable) : DemandTable :=
  { d with timed := d.timed.setIfInBounds (slot - 1) e }

/-- The entry of a HOST_TIMED slot 1..4. -/
def DemandTable.slot (d : DemandTable) (slot : Nat) : Option DemandEntry :=
  if slot = 0 then none else (d.timed[slot - 1]?).join

/-- A write of the BOOST entry of a room. -/
def setBoost (room : Nat) (e : Option DemandEntry) (d : DemandTable) : DemandTable :=
  { d with boost := d.boost.setIfInBounds room e }

/-- The BOOST entry of a room. -/
def DemandTable.boostOf (d : DemandTable) (room : Nat) : Option DemandEntry := (d.boost[room]?).join

/-! ### Preheater interlock (R83, R84) -/

/-- R84: the interlock, PREHEAT_FITTED and the overtemperature block included. -/
def interlock (stage : FrostStage) (sup : FanRecord) (tPre : ChannelRecord) (supplyLow fitted : Bool) (block : Nat) :
    Bool :=
  (stage == .watch || stage == .shed || stage == .recover) && sup.running && 150 ≤ sup.qMeas &&
    tPre.validity == .valid && !supplyLow && fitted && block == 0

/-- R83: a change of the duty acts at once within the running window: the output goes off where the on time is over, and a
rise does not turn an output on that is off. -/
def FrostRecord.setDuty (f : FrostRecord) (p : Nat) : FrostRecord :=
  { f with duty := p, output := f.output && f.windowMs < p * 100 }

/-- R84: the interlock tested between evaluations: a failure sets the duty to 0, a pass changes nothing. -/
def preheatCheck (s : State) : State :=
  if interlock s.frost.stage s.fans.supply s.seq.published.tPre s.seq.supplyLow s.settings.preheatFitted s.frost.block
  then s else { s with frost := s.frost.setDuty 0 }

/-- The interlock's test made for the supply channel alone (R84). -/
def preheatCheckFor (st : Stream) (s : State) : State :=
  match st with
  | .supply => preheatCheck s
  | .extract => s

/-! ### Saves (R168, R169) -/

/-- The stored fields of a filter record (R102). -/
def FilterRecord.stored (f : FilterRecord) : StoredFilter := ⟨f.state, f.rf0, f.rAvg, f.dose, f.hours⟩

/-- The stored form of a table position: a pinned row alone is stored (06, 10). -/
def storedRow : Option NodeRow → Option StoredRow
  | none => none
  | some r => if r.origin = .pinned then some ⟨r.address, r.room, r.kind⟩ else none

/-- R168: the snapshot a save takes, with the committed copy given. -/
def snapshot (committed : Settings) (s : State) : Image :=
  { settings := committed
    filters := ⟨s.filters.supply.stored, s.filters.extract.stored⟩
    rx0 := s.frost.rx0
    rows := mapVec storedRow s.nodes }

/-- R168, R169: a save starts: it commits the settings in force first if commit-pending is set. The image is bad until the
write completes (R166). -/
def startSave (s : State) : State :=
  let committed := if s.store.commitPending then s.settings else s.store.committed
  { s with store :=
    { s.store with image := none, committed := committed, writing := some (snapshot committed s), writeMs := 0
                   releases := s.store.commitPending, commitPending := false } }

/-- R168: an ask for a save starts one in IDLE and sets save-pending in WRITING; none starts once RESET_PART is accepted
(R169). -/
def askSave (s : State) : State :=
  if s.store.closed then s
  else if s.store.writing.isSome then { s with store := { s.store with savePending := true } }
  else startSave s

/-! ### The transmit queue and the link's answers (R159, R162) -/

/-- A counter of 0..65535 raised by one; it saturates (09, "Frames"). -/
def sat16 (n : Nat) : Nat := min (n + 1) 65535

/-- A frame joins the transmit queue. -/
def enqueue (fr : TxFrame) (s : State) : State :=
  { s with link := { s.link with tx := s.link.tx ++ [fr], txMs := if s.link.tx.isEmpty then 0 else s.link.txMs } }

/-- The frames of a class waiting in the queue. -/
def waitingOf (c : TxClass) (s : State) : Nat := (s.link.tx.filter fun fr => fr.cls == c).length

/-- R162: a BUSY or WAKING reply joins the queue, or is dropped and counted where two such replies wait. -/
def enqueueAnswer (body : List Byte) (s : State) : State :=
  if waitingOf .answer s < 2 then enqueue ⟨.answer, body⟩ s
  else { s with link := { s.link with counters :=
    { s.link.counters with repliesLost := sat16 s.link.counters.repliesLost } } }

/-- R162, R175: an ALIVE notice is built and joins the queue, or is dropped where another waits. -/
def enqueueAlive (probe : Nat) (s : State) : State :=
  if waitingOf .notice s = 0 then enqueue ⟨.notice, aliveBody probe s.mode.mode s.alertLow⟩ s else s

/-- R151: a frame arrival acts on supervision. -/
def frameArrival (s : State) : State :=
  match s.superv.state with
  | .ok => { s with superv := { s.superv with silence := 0 } }
  | .probing => { s with superv := ⟨.ok, 0, 0⟩ }
  | .lost =>
    raise .hostReturned
      { writeDemand (fun d => { d with fallback := none }) s with superv := ⟨.ok, 0, 0⟩ }
  | .off => s

/-- R157, R159: a good frame is counted and handed to supervision. -/
def acceptFrame (s : State) : State :=
  frameArrival { s with link := { s.link with counters := { s.link.counters with good := sat16 s.link.counters.good } } }

/-- R159: the answer BUSY. -/
def answerBusy (kind tag : Byte) (s : State) : State :=
  enqueueAnswer (replyBody kind tag .busy [])
    { s with link := { s.link with counters := { s.link.counters with busy := sat16 s.link.counters.busy } } }

/-- R160: the answer WAKING. -/
def answerWaking (kind tag : Byte) (s : State) : State :=
  enqueueAnswer (replyBody kind tag .waking [])
    { s with link := { s.link with counters := { s.link.counters with waking := sat16 s.link.counters.waking } } }

/-- What an owner answers a request with: a result and payload now, or, once its save completes, OK (R169). -/
inductive Answer where
  | now (r : Result) (payload : List Byte)
  | afterSave
deriving DecidableEq, Repr

/-- R161, R162: the slot's reply is built and joins the queue, and the slot stays occupied until it has left. -/
def reply (kind tag : Byte) (req : Option Request) (r : Result) (payload : List Byte) (s : State) : State :=
  enqueue ⟨.slotReply, replyBody kind tag r payload⟩
    { s with link := { s.link with slot := some ⟨tag, kind, req, .replied⟩ } }

/-- R159, R160: whether a frame that finds the slot empty meets the waking condition. -/
def waking (s : State) : Bool := s.mode.mode == .standby && s.link.afterSilence

/-- R159, R160: a good frame that has been counted is answered BUSY or WAKING, or given to `enter`. -/
def place (kind tag : Byte) (enter : State → State) (s : State) : State :=
  if s.link.slot.isSome then answerBusy kind tag s
  else if waking s then answerWaking kind tag s
  else enter s

/-- R161: the request is handled by its owner, and its reply is built from what the owner answers. -/
def serveRequest (tag : Byte) (req : Request) (owner : State → Answer × State) (s : State) : State :=
  match owner s with
  | (.now r payload, t) => reply (requestKind req) tag (some req) r payload t
  | (.afterSave, t) => { t with link := { t.link with slot := some ⟨tag, requestKind req, some req, .saving⟩ } }

/-- R159, R160: the whole good frame of a request arrives: its start byte ends the silence, it is counted, and it is handed
to supervision. -/
def arrived (s : State) : State :=
  acceptFrame { s with link := { s.link with afterSilence := decide (1000 ≤ s.link.silence), silence := 0 } }

/-- A host request as a command. Where it is the request waiting in the slot, its owner handles it (R161). Otherwise the
command stands for the whole good frame that carries it: counted, handed to supervision, placed, and handled if it enters
the slot (R159; assumption 7). -/
def hostRequest (tag : Byte) (req : Request) (owner : State → Answer × State) (s : State) : State :=
  if s.link.slot = some ⟨tag, requestKind req, some req, .waiting⟩ then serveRequest tag req owner s
  else place (requestKind req) tag (serveRequest tag req owner) (arrived s)

/-- An owner that refuses a request leaves the state as it was (R161). -/
def refuse (r : Result) (s : State) : Answer × State := (.now r [], s)

/-- An owner that answers OK, with no payload. -/
def ok (s : State) : Answer × State := (.now .ok [], s)

/-- An owner that answers OK with a payload and changes nothing. -/
def report (payload : List Byte) (s : State) : Answer × State := (.now .ok payload, s)

end Sys2Proof.Machine
end

