-- ==== Sys2Proof/Machine/Demand.lean ====
section
/-! DEFINITION. The host's writes and reads of the demand table, and the expiry of its timed entries (03). -/

namespace Sys2Proof.Machine

/-- R46: the HOST_BASE level replaced; its created-at stays. -/
def setBase (level : Nat) (d : DemandTable) : DemandTable :=
  { d with hostBase := { d.hostBase with level := level } }

/-- R47: the entry a SET_DEMAND writes into a slot: a replacement keeps the created-at of the entry it replaces, and its
expiry starts in full. -/
def timedEntry (old : Option DemandEntry) (level expiry : Nat) (exempt : Bool) (uptime : Nat) : DemandEntry :=
  { level := level, expiry := some expiry, exempt := exempt
    createdAt := (old.map (·.createdAt)).getD uptime, ms := 0 }

/-- OK, or CLAMPED where the value carried is not the value written. -/
def clampResult (same : Bool) : Result := if same then .ok else .clamped

/-- R45: SET_DEMAND's owner: the checks in their order, then the level clamped and written. -/
def ownSetDemand (source key : Byte) (level expiry : Half) (exempt : Byte) (s : State) : Answer × State :=
  let l := min level.toNat s.settings.qRated
  let r := clampResult (l == level.toNat)
  if source = 0 then
    if key ≠ 0 then refuse .badValue s
    else if expiry ≠ 0 ∨ exempt ≠ 0 then refuse .badValue s
    else (.now r (u16 l), writeDemand (setBase l) s)
  else if source = 1 then
    if key.toNat = 0 ∨ 4 < key.toNat then refuse .badValue s
    else if expiry = 0 then refuse .badValue s
    else
      (.now r (u16 l),
        writeDemand (fun d => setTimed key.toNat
          (some (timedEntry (d.slot key.toNat) l expiry.toNat (exempt != 0) s.uptime)) d) s)
  else refuse .badValue s

/-- SET_DEMAND (R45 to R47). -/
def execSetDemand (tag source key : Byte) (level expiry : Half) (exempt : Byte) (s : State) :
    Host.Outcome State Fault Refusal :=
  .next (whenRunning (hostRequest tag (.setDemand source key level expiry exempt)
    (ownSetDemand source key level expiry exempt)) s)

/-- R48: CLEAR_DEMAND's owner. -/
def ownClearDemand (source key : Byte) (s : State) : Answer × State :=
  if source = 0 then
    if key ≠ 0 then refuse .badValue s
    else ok (writeDemand (setBase (min s.settings.demandBase s.settings.qRated)) s)
  else if source = 1 then
    if key.toNat = 0 ∨ 4 < key.toNat then refuse .badValue s
    else if (s.demand.slot key.toNat).isSome then ok (writeDemand (setTimed key.toNat none) s)
    else refuse .noSuch s
  else refuse .badValue s

/-- CLEAR_DEMAND (R48). -/
def execClearDemand (tag source key : Byte) (s : State) : Host.Outcome State Fault Refusal :=
  .next (whenRunning (hostRequest tag (.clearDemand source key) (ownClearDemand source key)) s)

/-- R50: GET_DEMANDS's owner. -/
def ownGetDemands (first : Byte) (s : State) : Answer × State :=
  if 13 < first.toNat then refuse .badValue s
  else report (u8 s.demand.changeCount ++ u8 s.demand.entries.length ++
    (((s.demand.entries.drop first.toNat).take 4).map fun e => encodeDemand e.1 e.2.1 e.2.2).flatten) s

/-- GET_DEMANDS (R50). -/
def execGetDemands (tag first : Byte) (s : State) : Host.Outcome State Fault Refusal :=
  .next (whenRunning (hostRequest tag (.getDemands first) (ownGetDemands first)) s)

/-- R49: the expiry remaining of a slot's entry is 1 and its second has passed: it would fall from 1 to 0. -/
def expiryDue (d : DemandTable) (slot : Nat) : Bool :=
  match d.slot slot with
  | some e => e.expiry == some 1 && 1000 ≤ e.ms
  | none => false

/-- R49: the entry of a slot expires; an entry that a SET_DEMAND has replaced meanwhile, whose expiry counts anew, does not. -/
def expireSlot (slot : Nat) (s : State) : State :=
  if expiryDue s.demand slot then raise .demandExpired (writeDemand (setTimed slot none) s) else s

/-- DEMAND_EXPIRY (R49): the second at which the entry's expiry remaining would fall from 1 to 0. -/
def execDemandExpiry (slot : Nat) (s : State) : Host.Outcome State Fault Refusal :=
  .next (whenRunning (expireSlot slot) s)

end Sys2Proof.Machine
end

