-- ==== Sys2Proof/Machine/Clock.lean ====
section
/-! DEFINITION. The idle part: a step with no command waiting is one millisecond of the part's own time (assumption 8). The
timers move on, and the rows that fall due join the queue as commands. A row acts when it is taken, never here. -/

namespace Sys2Proof.Machine

/-! ### Timers -/

/-- R20: the absence timer, which stands at 2000 ms until its row is taken. -/
def FanRecord.tick (f : FanRecord) : FanRecord := { f with absence := f.absence.map fun a => min (a + 1) 2000 }

/-- R49: a timed entry's expiry remaining; the last second is the DEMAND_EXPIRY row's. -/
def DemandEntry.tick (e : DemandEntry) : DemandEntry :=
  match e.expiry with
  | some n => if 1000 ≤ e.ms + 1 ∧ 1 < n then { e with expiry := some (n - 1), ms := 0 } else { e with ms := min (e.ms + 1) 1000 }
  | none => e

/-- R111: a row's reading age. -/
def NodeRow.tick (r : NodeRow) : NodeRow :=
  match r.age with
  | some a => if 1000 ≤ r.ageMs + 1 then { r with age := some (min (a + 1) 65534), ageMs := 0 } else { r with ageMs := r.ageMs + 1 }
  | none => r

/-- R113: the discovery timer. -/
def LineRecord.tickDiscovery (l : LineRecord) : LineRecord :=
  if 1000 ≤ l.discMs + 1 then { l with discTimer := min (l.discTimer + 1) 86400, discMs := 0 }
  else { l with discMs := l.discMs + 1 }

/-- R117, R118: the suspension remaining, the restart remaining, or the settling time. -/
def LineRecord.tickState (l : LineRecord) : LineRecord :=
  match l.state with
  | .active => l
  | .fault =>
    if 1000 ≤ l.lineMs + 1 then { l with suspension := l.suspension - 1, lineMs := 0 } else { l with lineMs := l.lineMs + 1 }
  | .off =>
    if l.powered then { l with lineMs := min (l.lineMs + 1) 100 }
    else if 1000 ≤ l.lineMs + 1 then { l with restart := l.restart - 1, lineMs := 0 }
    else { l with lineMs := l.lineMs + 1 }

/-- R106 to R108: the time spent in a transaction's phase. -/
def LineRecord.tickTxn (l : LineRecord) : LineRecord := { l with txn := l.txn.map fun x => { x with ms := min (x.ms + 1) 100 } }

/-- R158, R160, R162: the silence since the last byte, and the time of the frame on the line. -/
def Link.tick (l : Link) : Link := { l with silence := min (l.silence + 1) 1000, txMs := min (l.txMs + 1) 1000 }

/-- R168: the time the running write has taken. -/
def Store.tick (x : Store) : Store := { x with writeMs := min (x.writeMs + 1) 180 }

/-- R168: either fan's measured flow is above 0. -/
def anyFlow (s : State) : Bool := 0 < s.fans.supply.qMeas || 0 < s.fans.extract.qMeas

/-- A millisecond that completes a whole number of the given milliseconds since start-up. -/
def completes (s : State) (period : Nat) : Bool := (s.clock + 1) % period == 0

/-- R168: the second at which the fan-running count would reach 3600. -/
def runningHour (s : State) : Bool := completes s 1000 && anyFlow s && 3599 ≤ s.store.fanRunning

/-- R168: the fan-running count rises at a second of flow; its 3600th second is the FAN_RUNNING_HOUR row's. -/
def countRunning (s : State) : Nat :=
  if completes s 1000 ∧ anyFlow s = true ∧ s.store.fanRunning < 3599 then s.store.fanRunning + 1 else s.store.fanRunning

/-- Every timer one millisecond on. -/
def advance (s : State) : State :=
  { s with
    clock := s.clock + 1
    fans := ⟨s.fans.supply.tick, s.fans.extract.tick⟩
    demand := { s.demand with timed := mapVec (Option.map DemandEntry.tick) s.demand.timed }
    frost := { s.frost with windowMs := min (s.frost.windowMs + 1) 10000 }
    line := s.line.tickDiscovery.tickState.tickTxn
    nodes := mapVec (Option.map NodeRow.tick) s.nodes
    link := s.link.tick
    store := { s.store.tick with fanRunning := countRunning s } }

/-! ### Rows that fall due -/

/-- Some rows under a condition. -/
def rowsIf (b : Bool) (is : List Instr) : List Instr := if b then is else []

/-- R21: a control step's second ends, counted from the start-up step that set the fans OFF. -/
def controlDue (s : State) : Bool :=
  !s.startingUp && s.fansOffAt < s.clock && (s.clock - s.fansOffAt) % 1000 == 0

/-- R1, R18, R20, R21: the rows of the measurement sequencer and of the fan channels. The first scan starts in the first
millisecond. -/
def dueFans (before s : State) : List Instr :=
  rowsIf (before.clock % 1000 == 0) [.scanStart] ++
  rowsIf (s.fans.supply.duty != s.fans.supply.applied) [.pwmPeriod .supply] ++
  rowsIf (s.fans.extract.duty != s.fans.extract.applied) [.pwmPeriod .extract] ++
  rowsIf (s.fans.supply.absence == some 2000) [.tachAbsence .supply] ++
  rowsIf (s.fans.extract.absence == some 2000) [.tachAbsence .extract] ++
  rowsIf (controlDue s) [.controlStep .supply, .controlStep .extract]

/-- R49, R83, R89, R95: the rows of the demand table, the preheater output and the filter monitor. -/
def dueAir (before s : State) : List Instr :=
  ([1, 2, 3, 4].filter (expiryDue s.demand)).map .demandExpiry ++
  rowsIf (completes before 10000) [.preheatWindow] ++
  rowsIf (s.frost.output && s.frost.duty < 100 && s.frost.duty * 100 ≤ s.frost.windowMs) [.preheatOnTimeEnd] ++
  rowsIf (completes before 60000) [.filterSample .supply, .filterSample .extract] ++
  rowsIf (completes before 1000) [.accumulationStep .supply, .accumulationStep .extract]

/-- R106 to R108: the row that ends a transaction's phase. An exchange takes 40 ms, and the gap after a wait ends 50 ms after
the exchange's window has closed. -/
def dueTxn (l : LineRecord) : List Instr :=
  match l.txn with
  | none => []
  | some x =>
    match x.phase with
    | .due => []
    | .exchange => rowsIf (40 ≤ x.ms) [.replyWindowClose]
    | .gap => rowsIf (90 ≤ x.ms) [.waitGapEnd]
    | .rest => rowsIf (100 ≤ x.ms) [.conflictRestEnd]

/-- A transaction's POLL is due. -/
def pollDue (l : LineRecord) : Bool := (l.txn.map (·.phase)) == some .due

/-- R109: the idle ACTIVE line has a job waiting. -/
def jobWaiting (l : LineRecord) : Bool :=
  l.state == .active && l.job == .noJob && (l.callPending || l.cycleDue || l.discPending)

/-- R106 to R118: the rows of the room line that a timer brings. -/
def dueLineTimers (before s : State) : List Instr :=
  rowsIf (completes before 30000) [.pollCycleDue] ++
  dueTxn s.line ++
  rowsIf (s.line.state == .fault && s.line.suspension == 0) [.suspensionEnd] ++
  rowsIf (86400 ≤ s.line.discTimer && !s.line.discPending && s.line.job != .discovery) [.discoveryTimerExpiry] ++
  rowsIf (s.line.state == .off && !s.line.powered && s.line.restart == 0) [.lineRestart] ++
  rowsIf (s.line.state == .off && s.line.powered && 100 ≤ s.line.lineMs) [.lineSettleEnd]

/-- R106 to R118: the rows of the room line. What a timer brings comes first, so that a job, and a POLL on a line that no
node holds low, follow in the same millisecond; a JOB_START or a POLL that finds nothing to do changes nothing. -/
def dueLine (before s : State) : List Instr :=
  let rows := dueLineTimers before s
  rows ++ rowsIf (jobWaiting s.line || !rows.isEmpty) [.jobStart] ++
    rowsIf (!s.line.heldLow && (pollDue s.line || jobWaiting s.line || !rows.isEmpty)) [.poll false]

/-- R127, R134, R145: the rows of the humidity monitor and of the mode controller. -/
def dueHouse (before : State) : List Instr :=
  rowsIf (completes before 30000) [.room0Sample] ++ rowsIf (completes before 1000) [.sessionStep, .modeStep]

/-- R162: the frame on the line has left: 10 bit times at 19 200 baud for each of its bytes. -/
def frameGone (l : Link) : Bool :=
  match l.tx with
  | fr :: _ => decide ((fr.body.length + 3) * 25 ≤ l.txMs * 48)
  | [] => false

/-- R161: the request waiting in the slot. -/
def dueRequest (l : Link) : List Instr :=
  match l.slot with
  | some x =>
    match x.request, x.phase with
    | some q, .waiting => [q.toInstr x.tag]
    | _, _ => []
  | none => []

/-- R158, R162, R168: the rows of the service link and of the store that a timer brings. -/
def dueLink (before s : State) : List Instr :=
  rowsIf (s.link.rx != .hunting && 10 ≤ s.link.silence) [.interByteGap] ++
  rowsIf (frameGone s.link) [.frameSent] ++
  rowsIf (s.store.writing.isSome && 180 ≤ s.store.writeMs) [.saveWriteComplete] ++
  rowsIf (runningHour before) [.fanRunningHour]

/-- The rows a millisecond brings: the request waiting in the slot first, so that no step of the part's own comes between its
frame's arrival and its handling (R154, R156), and then the rows of its clock in the table's order. -/
def due (before s : State) : List Instr :=
  dueRequest s.link ++ dueFans before s ++ dueAir before s ++ dueLine before s ++ dueHouse before ++ dueLink before s

/-- A step of the part with no command waiting: a running part moves one millisecond on, and any other stands still. -/
def idle (s : State) : State := whenRunning (fun s => { advance s with pending := due s (advance s) }) s

end Sys2Proof.Machine
end

