-- ==== Sys2Proof/Machine/Fans.lean ====
section
/-! DEFINITION. Fan channels (02): drive and tach, flow estimate, control step, stalls and spin tests, saturation. -/

namespace Sys2Proof.Machine

/-! ### Speed, flow and feedforward -/

/-- R19: the speed that k intervals over a span of microseconds give. -/
def speedOf (k span : Nat) : Nat :=
  if k = 0 then 0
  else if span = 0 then min (Config.speedOfZeroSpan k) 6000
  else min (30000000 * k / span) 6000

/-- R19: the control step's speed measurement, which takes the intervals ended since the step before. -/
def measureSpeed (f : FanRecord) : FanRecord :=
  { f with n := speedOf f.tachCount f.tachSpan, tachCount := 0, tachSpan := 0 }

/-- R24: a pressure channel's part of the stream pressure; an INVALID one is taken as 0. -/
def pressureOf (c : ChannelRecord) : Nat :=
  if c.validity = .invalid then 0 else (c.filtered.getD 0).toNat

/-- R24: the two pressure channels of a stream. -/
def streamPressures (p : PerChannel ChannelRecord) : Stream → ChannelRecord × ChannelRecord
  | .supply => (p.dpFs, p.dpXs)
  | .extract => (p.dpFe, p.dpXe)

/-- R24: the measured flow. -/
def flowOf (n kn dp kp : Nat) : Nat := min (n * kn / 256 - dp * kp / 64) 1200

/-- R24: the flow estimate and the loop mode, from the published pressures. -/
def estimate (x : Settings) (p : PerChannel ChannelRecord) (st : Stream) (f : FanRecord) : FanRecord :=
  let c := streamPressures p st
  { f with
    qMeas := flowOf f.n x.fanKn (pressureOf c.1 + pressureOf c.2) x.fanKp
    loop := if c.1.validity = .invalid ∨ c.2.validity = .invalid then .openLoop else .closed }

/-- R25: the feedforward duty of a flow. -/
def feedforwardDuty : Feedforward → Nat → Nat
  | [], _ => 0
  | [p], _ => p.2
  | p0 :: p1 :: rest, q =>
    if q < p1.1 then p0.2 + (q - p0.1) * (p1.2 - p0.2) / (p1.1 - p0.1) else feedforwardDuty (p1 :: rest) q

/-! ### The control step on one fan record -/

/-- What a channel's control step reads beside its own record: the settings, its feedforward table, whether SUPPLY_LOW is
active, and for the supply channel the extract channel's commanded flow. -/
structure FanEnv where
  settings : Settings
  table : Feedforward
  supplyLow : Bool
  extractCmd : Option Nat

/-- What came about in a control step, for the events, the hand-overs and the rows that name it. -/
inductive FanMark where
  | startFailed | steadyEntry | retryClear | spinStart | spinFailed | failed | saturation
deriving DecidableEq, Repr

/-- R23: a supply flow bounded by the extract channel's commanded flow; the extract channel has no bound. -/
def coupled (e : FanEnv) (q : Nat) : Nat :=
  match e.extractCmd with
  | none => q
  | some c => min q c

/-- R22: one step of the ramp. -/
def rampTo (cmd target : Nat) : Nat :=
  if cmd < target then min (cmd + 30) target else if target < cmd then max (cmd - 60) target else cmd

/-- R26: a duty from a commanded flow and a trim. -/
def dutyFor (e : FanEnv) (cmd : Nat) (trim : Int) : Nat :=
  (clampI (feedforwardDuty e.table cmd + trim) e.settings.dutyMin 1000).toNat

/-- R26: the trim after the conditional integration. -/
def integrateTrim (e : FanEnv) (f : FanRecord) : Int :=
  let err : Int := (f.qCmd : Int) - f.qMeas
  let t := f.trim + quot (err * e.settings.fanKi) 32
  let raw := feedforwardDuty e.table f.qCmd + t
  if (1000 < raw ∧ 0 < err) ∨ (raw < e.settings.dutyMin ∧ err < 0) then f.trim else clampI t (-250) 250

/-- R27: the trim is frozen. -/
def frozen (e : FanEnv) (f : FanRecord) : Bool := f.loop == .openLoop || e.supplyLow

/-- R27: the duty at the trim as it stands; a commanded flow of 0 has duty 0 and trim 0. -/
def driveFrozen (e : FanEnv) (f : FanRecord) : FanRecord :=
  if f.qCmd = 0 then { f with duty := 0, trim := 0 } else { f with duty := dutyFor e f.qCmd f.trim }

/-- R26, R27: the trim and the duty. -/
def drive (e : FanEnv) (f : FanRecord) : FanRecord :=
  driveFrozen e (if frozen e f then f else { f with trim := integrateTrim e f })

/-- R37: saturation cleared. -/
def FanRecord.clearSaturation (f : FanRecord) : FanRecord := { f with satCap := none, satCount := 0 }

/-- The retry wait of a retry count (R32). -/
def retryWait : Nat → Nat
  | 0 => 10
  | 1 => 20
  | _ => 40

/-- R32: the fan stalls. -/
def FanRecord.stall (f : FanRecord) : FanRecord :=
  { f with state := .stalled, startKind := .normal, duty := 0, qCmd := 0, trim := 0, steadyCount := 0, satCount := 0
           satCap := none, timer := retryWait f.retry }

/-- R31: the fan stops. -/
def FanRecord.stop (f : FanRecord) : FanRecord :=
  { f with state := .off, qCmd := 0, duty := 0, trim := 0, steadyCount := 0, timer := 0, satCap := none, satCount := 0 }

/-- R28: the work of OFF. -/
def workOff (e : FanEnv) (f : FanRecord) : FanRecord × List FanMark :=
  let g := { f with duty := 0, qCmd := 0, trim := 0, timer := 0 }
  if Config.qFanMin ≤ f.qTarget ∧ Config.qFanMin ≤ e.extractCmd.getD Config.qFanMin then
    ({ g with state := .starting, startKind := .normal, timer := 0, duty := e.settings.dutyStart }, [])
  else (g, [])

/-- R29: the work of a normal start. -/
def workStart (e : FanEnv) (f : FanRecord) : FanRecord × List FanMark :=
  let g := { f with qCmd := 0, timer := f.timer + 1 }
  if f.qTarget < Config.qFanMin then ({ g with state := .off, duty := 0, timer := 0 }, [])
  else if 200 ≤ f.n then
    (driveFrozen e { g with state := .ramping, steadyCount := 0, satCount := 0, timer := 0
                            qCmd := coupled e (min f.qMeas f.qTarget) }, [])
  else if 5 ≤ g.timer then (g.stall, [.startFailed])
  else (g, [])

/-- R34: the work of a spin test. -/
def workSpin (f : FanRecord) : FanRecord × List FanMark :=
  let g := { f with timer := f.timer + 1 }
  if 200 ≤ f.n then ({ g with state := .off, startKind := .normal, duty := 0, qCmd := 0, trim := 0, timer := 0 }, [])
  else if 5 ≤ g.timer then
    if f.retry + 1 < 3 then
      ({ g with state := .stalled, startKind := .normal, duty := 0, retry := f.retry + 1
                timer := retryWait (f.retry + 1) }, [.spinFailed])
    else
      ({ g with state := .failed, startKind := .normal, duty := 0, retry := 3, timer := 0 }, [.spinFailed, .failed])
  else (g, [])

/-- R33: the work of STALLED. -/
def workStalled (e : FanEnv) (f : FanRecord) : FanRecord × List FanMark :=
  let g := { f with duty := 0, qCmd := 0, trim := 0, timer := f.timer - 1 }
  if g.timer = 0 then
    ({ g with state := .starting, startKind := .spinTest, duty := e.settings.dutyStart }, [.spinStart])
  else (g, [])

/-- R35: the work of FAILED. -/
def workFailed (f : FanRecord) : FanRecord × List FanMark :=
  ({ f with duty := 0, qCmd := 0, trim := 0, timer := 0 }, [])

/-- R30: the check at the start of a STEADY step. -/
def steadyCheck (f : FanRecord) : FanRecord × List FanMark :=
  if f.state = .steady then
    if f.qTarget ≠ f.qCmd then ({ f with state := .ramping, steadyCount := 0, timer := 0 }, [])
    else if f.timer = 59 then ({ f with timer := 60, retry := 0 }, [.retryClear])
    else ({ f with timer := min (f.timer + 1) 60 }, [])
  else (f, [])

/-- R37: the clearing by the target, at the start of a RAMPING or STEADY step. -/
def targetCheck (f : FanRecord) : FanRecord :=
  match f.satCap with
  | some c => if f.qTarget + 20 ≤ c then f.clearSaturation else f
  | none => f

/-- R30: the steady condition. -/
def steadyCond (f : FanRecord) : Bool :=
  f.qCmd == f.qTarget && (f.loop == .openLoop || (f.qCmd ≤ f.qMeas + 20 && f.qMeas ≤ f.qCmd + 20))

/-- R30: the steady count at the end of a RAMPING step. -/
def countSteady (f : FanRecord) : FanRecord × List FanMark :=
  if f.state = .ramping then
    if steadyCond f then
      if 5 ≤ f.steadyCount + 1 then ({ f with state := .steady, steadyCount := 0, timer := 0 }, [.steadyEntry])
      else ({ f with steadyCount := f.steadyCount + 1 }, [])
    else ({ f with steadyCount := 0 }, [])
  else (f, [])

/-- R36: the saturation condition. -/
def satCond (f : FanRecord) : Bool := f.duty == 1000 && f.qMeas + 20 < f.qCmd

/-- R36: the saturation count at the end of a RAMPING or STEADY step. -/
def countSaturation (f : FanRecord) : FanRecord × List FanMark :=
  if f.loop = .closed ∧ satCond f = true then
    if 60 ≤ f.satCount + 1 then ({ f with satCount := 0, satCap := some f.qMeas }, [.saturation])
    else ({ f with satCount := f.satCount + 1 }, [])
  else ({ f with satCount := 0 }, [])

/-- R22, R23, R26, R27: the ramp, the coupling, the trim and the duty. -/
def rampAndDrive (e : FanEnv) (f : FanRecord) : FanRecord :=
  drive e { f with qCmd := coupled e (rampTo f.qCmd f.qTarget) }

/-- R21: the work of RAMPING and STEADY, in its order. -/
def workRun (e : FanEnv) (f : FanRecord) : FanRecord × List FanMark :=
  let a := steadyCheck f
  let g := rampAndDrive e (targetCheck a.1)
  if g.qTarget < Config.qFanMin ∧ g.qCmd ≤ Config.qFanMin then (g.stop, a.2)
  else
    let b := countSteady g
    let c := countSaturation b.1
    (c.1, a.2 ++ b.2 ++ c.2)

/-- R21: the work of the present state. -/
def fanWork (e : FanEnv) (f : FanRecord) : FanRecord × List FanMark :=
  match f.state with
  | .off => workOff e f
  | .starting => if f.startKind = .spinTest then workSpin f else workStart e f
  | .ramping => workRun e f
  | .steady => workRun e f
  | .stalled => workStalled e f
  | .failed => workFailed f

/-! ### The channel within the part -/

/-- What a channel's step reads. -/
def fanEnv (s : State) (st : Stream) : FanEnv :=
  { settings := s.settings
    table := s.settings.feedforward.get st
    supplyLow := s.seq.supplyLow
    extractCmd := match st with
      | .supply => some s.fans.extract.qCmd
      | .extract => none }

/-- R23: a lowered extract commanded flow is handed to the supply channel at once. -/
def clipSupply (old new : Nat) (s : State) : State :=
  if new < old then s.setFan .supply { s.fans.supply with qCmd := min s.fans.supply.qCmd new } else s

/-- The events of a control step (R29, R34, R36). -/
def FanMark.events : FanMark → List Event
  | .startFailed => [.fanStalled]
  | .failed => [.fanFailed]
  | .saturation => [.fanSaturated]
  | _ => []

/-- R23, R38, R84: a channel's record replaced by the record its step or a stall gives, with everything it hands on: the
lowered extract flow to the supply channel, the events, the supply channel's change of state to the preheater interlock, and
one arrival to the resolver where the state, the saturation or the cap changed or was renewed. -/
def handOn (st : Stream) (f : FanRecord) (es : List Event) (renewed : Bool) (s : State) : State :=
  let old := s.fans.get st
  let a := s.setFan st f
  let b := match st with
    | .extract => clipSupply old.qCmd f.qCmd a
    | .supply => a
  let c := raiseAll es b
  let d := if f.state = old.state then c else preheatCheckFor st c
  resolveIf (f.state != old.state || f.satCap != old.satCap || renewed) d

/-- R24: a channel forms its flow estimate; the supply channel's is handed to the preheater interlock (R84). -/
def formEstimate (st : Stream) (s : State) : State :=
  preheatCheckFor st (s.setFan st (estimate s.settings s.seq.published st (s.fans.get st)))

/-- R19: the channel measures its speed. -/
def takeSpeed (st : Stream) (s : State) : State := s.setFan st (measureSpeed (s.fans.get st))

/-- R21: a control step, with what came about in it. -/
def controlStep (st : Stream) (s : State) : State × List FanMark :=
  let a := formEstimate st (takeSpeed st s)
  let w := fanWork (fanEnv a st) (a.fans.get st)
  (handOn st w.1 (w.2.flatMap FanMark.events) (w.2.contains .saturation) a, w.2)

/-! ### Meanings -/

/-- R18, R20: the pending duty becomes the applied duty, which starts, keeps or stops the absence timer. -/
def applyDuty (dutyMin : Nat) (f : FanRecord) : FanRecord :=
  { f with
    applied := f.duty
    absence := if dutyMin ≤ f.duty then (if dutyMin ≤ f.applied then f.absence else some 0) else none }

/-- PWM_PERIOD (R18, R20). -/
def execPwmPeriod (st : Stream) (s : State) : Host.Outcome State Fault Refusal :=
  .next (whenRunning (fun s => s.setFan st (applyDuty s.settings.dutyMin (s.fans.get st))) s)

/-- R19, R20: a pulse ends an interval that began at the pulse before it, and restarts a running absence timer. -/
def takePulse (interval : Nat) (f : FanRecord) : FanRecord :=
  { f with
    tachSeen := true
    tachCount := if f.tachSeen then f.tachCount + 1 else 0
    tachSpan := if f.tachSeen then f.tachSpan + interval else 0
    absence := f.absence.map fun _ => 0 }

/-- TACH_PULSE (R19, R20). -/
def execTachPulse (st : Stream) (interval : Nat) (s : State) : Host.Outcome State Fault Refusal :=
  .next (whenRunning (fun s => s.setFan st (takePulse interval (s.fans.get st))) s)

/-- R20, R32: a tach absence restarts the timer and stalls a RAMPING or STEADY fan. -/
def tachAbsence (st : Stream) (s : State) : State :=
  let f := s.fans.get st
  if f.absence.isSome then
    let g := { f with absence := some 0 }
    if f.running then handOn st g.stall [.fanStalled] false s else s.setFan st g
  else s

/-- TACH_ABSENCE (R20, R32): the running absence timer reaches 2000 ms. -/
def execTachAbsence (st : Stream) (s : State) : Host.Outcome State Fault Refusal :=
  .next (whenRunning (tachAbsence st) s)

/-- CONTROL_STEP (R21). -/
def execControlStep (st : Stream) (s : State) : Host.Outcome State Fault Refusal :=
  .next (whenRunning (fun s => (controlStep st s).1) s)

/-- START_ATTEMPT_FAILED (R29): the control step at which a normal start fails. -/
def execStartAttemptFailed (st : Stream) (s : State) : Host.Outcome State Fault Refusal :=
  .next (whenRunning (whenMarked .startFailed (controlStep st)) s)

/-- STEADY_ENTRY (R30): the control step that enters STEADY. -/
def execSteadyEntry (st : Stream) (s : State) : Host.Outcome State Fault Refusal :=
  .next (whenRunning (whenMarked .steadyEntry (controlStep st)) s)

/-- RETRY_COUNT_CLEAR (R30): the control step at which the STEADY timer reaches 60. -/
def execRetryCountClear (st : Stream) (s : State) : Host.Outcome State Fault Refusal :=
  .next (whenRunning (whenMarked .retryClear (controlStep st)) s)

/-- SPIN_TEST_START (R33): the control step at which the retry wait reaches 0. -/
def execSpinTestStart (st : Stream) (s : State) : Host.Outcome State Fault Refusal :=
  .next (whenRunning (whenMarked .spinStart (controlStep st)) s)

/-- SPIN_TEST_FAILED (R34): the control step at which a spin test fails. -/
def execSpinTestFailed (st : Stream) (s : State) : Host.Outcome State Fault Refusal :=
  .next (whenRunning (whenMarked .spinFailed (controlStep st)) s)

/-- FAN_SATURATION (R36): the control step at which the saturation count reaches 60. -/
def execFanSaturation (st : Stream) (s : State) : Host.Outcome State Fault Refusal :=
  .next (whenRunning (whenMarked .saturation (controlStep st)) s)

/-- R35: FAN_RECOVER's owner. -/
def ownFanRecover (stream : Byte) (s : State) : Answer × State :=
  match streamOf stream with
  | none => refuse .badValue s
  | some st =>
    let f := s.fans.get st
    if f.state = .failed then ok (handOn st { f with state := .off, retry := 0, startKind := .normal } [] false s)
    else refuse .notNow s

/-- FAN_RECOVER (R35). -/
def execFanRecover (tag stream : Byte) (s : State) : Host.Outcome State Fault Refusal :=
  .next (whenRunning (hostRequest tag (.fanRecover stream) (ownFanRecover stream)) s)

/-- R41: GET_FLOWS's owner. -/
def ownGetFlows (s : State) : Answer × State :=
  report (encodeResolution s.res ++ u16 s.filters.supply.ceiling ++ u16 s.filters.extract.ceiling ++
    encodeFan s.fans.supply ++ encodeFan s.fans.extract) s

/-- GET_FLOWS (R41, R60). -/
def execGetFlows (tag : Byte) (s : State) : Host.Outcome State Fault Refusal :=
  .next (whenRunning (hostRequest tag .getFlows ownGetFlows) s)

end Sys2Proof.Machine
end

