-- ==== Sys2Proof/Machine/Filters.lean ====
section
/-! DEFINITION. Filter supervision (05). -/

namespace Sys2Proof.Machine

/-! ### One record -/

/-- The place of a state in the order in which a filter ages (05, "The filter record"). -/
def FilterState.rank : FilterState → Nat
  | .unknown => 0
  | .learning => 1
  | .clean => 2
  | .loaded => 3
  | .due => 4
  | .blocked => 5

/-- CLEAN, LOADED, DUE or BLOCKED: the states that carry a reference. -/
def FilterState.inService (x : FilterState) : Bool := 2 ≤ x.rank

/-- R94, R103: the loading an average and a reference give. -/
def loadingOf (rAvg rf0 : Nat) : Nat := clampN (rAvg * 100 / rf0) 50 999

/-- R91: the resistance a pressure and a flow give. -/
def resistanceOf (dp q : Nat) : Nat := dp * 65536 / (q * q)

/-- R99: the ceiling a record forms. -/
def ceilingOf (x : Settings) (f : FilterRecord) : Nat :=
  if f.state = .blocked then clampN (x.qRated * 200 / f.loading.getD 100) x.qMinRun x.qRated else x.qRated

/-- The pressure channel of a filter (05, "The filter record"). -/
def filterPressure (p : PerChannel ChannelRecord) : Stream → ChannelRecord
  | .supply => p.dpFs
  | .extract => p.dpFe

/-- R90: the judgement of a sample, with the resistance of one that meets conditions 1 to 5. -/
def judgeSample (fan : FanRecord) (dp : ChannelRecord) (stage : FrostStage) : SampleOutcome × Nat :=
  let r := resistanceOf (dp.filtered.getD 0).toNat fan.qMeas
  if fan.state ≠ .steady then (.fanNotSteady, 0)
  else if fan.loop ≠ .closed then (.openLoop, 0)
  else if fan.qMeas < 200 then (.lowFlow, 0)
  else if dp.validity ≠ .valid then (.channelNotValid, 0)
  else if stage = .defrost ∨ stage = .hold ∨ stage = .lock then (.frost, 0)
  else if r = 0 then (.zeroResistance, 0)
  else (.valid, r)

/-- R94: the average moved toward a resistance, and the loading formed. -/
def averageIn (r : Nat) (f : FilterRecord) : FilterRecord :=
  match f.rf0, f.rAvg with
  | some rf0, some a =>
    let a' := ((a : Int) + quot ((r : Int) - a) 16).toNat
    { f with rAvg := some a', loading := some (loadingOf a' rf0) }
  | _, _ => f

/-- R92, R93: a valid sample in LEARNING; the sixteenth completes the learn. -/
def learnIn (r : Nat) (f : FilterRecord) : FilterRecord :=
  if 16 ≤ f.learnCount + 1 then
    { f with state := .clean, rf0 := some ((f.learnSum + r) / 16), rAvg := some ((f.learnSum + r) / 16)
             loading := some 100, learnCount := 0, learnSum := 0 }
  else { f with learnCount := f.learnCount + 1, learnSum := f.learnSum + r }

/-- R92: what a valid sample does, by the record's state. -/
def takeValid (r : Nat) (f : FilterRecord) : FilterRecord :=
  let g := { f with lastResistance := some r }
  match f.state with
  | .unknown => g
  | .learning => learnIn r g
  | _ => averageIn r g

/-- R90, R92: a sample's effect on the record. -/
def sampleRecord (j : SampleOutcome × Nat) (f : FilterRecord) : FilterRecord :=
  let g := { f with lastOutcome := j.1 }
  if j.1 = .valid then takeValid j.2 g else g

/-- R93: a sample completes a learn. -/
def completesLearn (j : SampleOutcome × Nat) (f : FilterRecord) : Bool :=
  j.1 == .valid && f.state == .learning && 16 ≤ f.learnCount + 1

/-- R97: the highest state above CLEAN whose condition holds. -/
def highestState (x : Settings) (f : FilterRecord) : Option FilterState :=
  if 400 ≤ f.loading.getD 0 then some .blocked
  else if 250 ≤ f.loading.getD 0 ∨ x.doseLimit ≤ f.dose ∨ x.hoursLimit ≤ f.hours then some .due
  else if 150 ≤ f.loading.getD 0 then some .loaded
  else none

/-- R97: the state a check steps to, where it steps. -/
def stepOf (x : Settings) (f : FilterRecord) : Option FilterState :=
  match highestState x f with
  | some t => if 2 ≤ f.state.rank ∧ f.state.rank < t.rank then some t else none
  | none => none

/-- The event of a step (R97). -/
def FilterState.stepEvent : FilterState → List Event
  | .loaded => [.filterLoaded]
  | .due => [.filterDue]
  | .blocked => [.filterBlocked]
  | _ => []

/-! ### The monitor within the part -/

/-- R99: the ceiling is formed, and a changed one starts a resolution. -/
def formCeiling (st : Stream) (s : State) : State :=
  let f := s.filters.get st
  let c := ceilingOf s.settings f
  if c = f.ceiling then s else resolve (s.setFilter st { f with ceiling := c })

/-- R97: the check of the state steps: a step raises its event, forms the ceiling and asks for a save. -/
def checkSteps (st : Stream) (s : State) : State :=
  match stepOf s.settings (s.filters.get st) with
  | some t =>
    askSave (formCeiling st (raiseAll t.stepEvent (s.setFilter st { s.filters.get st with state := t })))
  | none => s

/-- R89: the judgement a sample makes on what stands at that moment. -/
def sampleJudgement (st : Stream) (s : State) : SampleOutcome × Nat :=
  judgeSample (s.fans.get st) (filterPressure s.seq.published st) s.frost.stage

/-- What came about in a sample or an accumulation step. -/
inductive FilterMark where
  | learnComplete | doseUnit | hour
deriving DecidableEq, Repr

/-- R93: a completed learn raises FILTER_LEARNED and asks for a save. -/
def learned (b : Bool) (s : State) : State := if b then askSave (raise .filterLearned s) else s

/-- R89: a sample. -/
def filterSample (st : Stream) (s : State) : State × List FilterMark :=
  let j := sampleJudgement st s
  let f := s.filters.get st
  let done := completesLearn j f
  (formCeiling st (checkSteps st (learned done (s.setFilter st (sampleRecord j f)))),
    if done then [.learnComplete] else [])

/-- A count of 0..65535 raised by one; it stands at its top. -/
def raiseCount (n : Nat) : Nat := if n < 65535 then n + 1 else n

/-- R95: the dose accumulator takes the flow; a unit of dose is added up to 65535. -/
def addDose (q : Nat) (f : FilterRecord) : FilterRecord :=
  if 100000 ≤ f.doseAcc + q then { f with doseAcc := f.doseAcc + q - 100000, dose := raiseCount f.dose }
  else { f with doseAcc := f.doseAcc + q }

/-- R96: a second of running; an hour is added up to 65535. -/
def addSecond (q : Nat) (f : FilterRecord) : FilterRecord :=
  if q = 0 then f
  else if 3600 ≤ f.runSeconds + 1 then { f with runSeconds := 0, hours := raiseCount f.hours }
  else { f with runSeconds := f.runSeconds + 1 }

/-- R95: the dose part of an accumulation step, with its check. -/
def doseStep (st : Stream) (s : State) : State × List FilterMark :=
  let f := s.filters.get st
  let g := addDose (s.fans.get st).qMeas f
  let a := s.setFilter st g
  if f.dose < g.dose then (checkSteps st a, [.doseUnit]) else (a, [])

/-- R96: the hours part of an accumulation step, with its check. -/
def hourStep (st : Stream) (s : State) : State × List FilterMark :=
  let f := s.filters.get st
  let g := addSecond (s.fans.get st).qMeas f
  let a := s.setFilter st g
  if f.hours < g.hours then (checkSteps st a, [.hour]) else (a, [])

/-- R95, R96: an accumulation step. The dose part and its check come before the hours part, so a save that the dose part
starts stores the hours before that second's rise (DESIGN CHOICE: assumption 35). -/
def accumulate (st : Stream) (s : State) : State × List FilterMark :=
  let a := doseStep st s
  let b := hourStep st a.1
  (b.1, a.2 ++ b.2)

/-- R100: a filter record reset as a new filter, its ceiling apart; the last outcome is kept. -/
def FilterRecord.renewed (f : FilterRecord) : FilterRecord :=
  { f with state := .learning, rf0 := none, rAvg := none, loading := none, learnCount := 0, learnSum := 0
           lastResistance := none, dose := 0, doseAcc := 0, hours := 0, runSeconds := 0 }

/-- R37: FILTER_RESET clears the saturation of the stream's fan, if it has one. -/
def clearFanSaturation (st : Stream) (s : State) : State :=
  let f := s.fans.get st
  if f.saturated then handOn st f.clearSaturation [] false s else s

/-- R100: a filter reset. -/
def resetFilter (st : Stream) (s : State) : State :=
  askSave (clearFanSaturation st (formCeiling st (s.setFilter st (s.filters.get st).renewed)))

/-! ### Meanings -/

/-- FILTER_SAMPLE (R89). -/
def execFilterSample (st : Stream) (s : State) : Host.Outcome State Fault Refusal :=
  .next (whenRunning (fun s => (filterSample st s).1) s)

/-- FILTER_LEARN_COMPLETE (R93). -/
def execFilterLearnComplete (st : Stream) (s : State) : Host.Outcome State Fault Refusal :=
  .next (whenRunning (whenMarked .learnComplete (filterSample st)) s)

/-- ACCUMULATION_STEP (R95, R96). -/
def execAccumulationStep (st : Stream) (s : State) : Host.Outcome State Fault Refusal :=
  .next (whenRunning (fun s => (accumulate st s).1) s)

/-- DOSE_UNIT (R95). -/
def execDoseUnit (st : Stream) (s : State) : Host.Outcome State Fault Refusal :=
  .next (whenRunning (whenMarked .doseUnit (accumulate st)) s)

/-- FILTER_HOUR (R96). -/
def execFilterHour (st : Stream) (s : State) : Host.Outcome State Fault Refusal :=
  .next (whenRunning (whenMarked .hour (accumulate st)) s)

/-- R100: FILTER_RESET's owner. -/
def ownFilterReset (filter : Byte) (s : State) : Answer × State :=
  match streamOf filter with
  | none => refuse .badValue s
  | some st => ok (resetFilter st s)

/-- FILTER_RESET (R100). -/
def execFilterReset (tag filter : Byte) (s : State) : Host.Outcome State Fault Refusal :=
  .next (whenRunning (hostRequest tag (.filterReset filter) (ownFilterReset filter)) s)

/-- R105: GET_FILTER's owner. -/
def ownGetFilter (filter : Byte) (s : State) : Answer × State :=
  match streamOf filter with
  | none => refuse .badValue s
  | some st => report (encodeFilter st (s.filters.get st)) s

/-- GET_FILTER (R105). -/
def execGetFilter (tag filter : Byte) (s : State) : Host.Outcome State Fault Refusal :=
  .next (whenRunning (hostRequest tag (.getFilter filter) (ownGetFilter filter)) s)

end Sys2Proof.Machine
end

