-- ==== Sys2Proof/Machine/Frost.lean ====
section
/-! DEFINITION. Frost guarding (04): the frost evaluation, its requests and the preheater output. -/

namespace Sys2Proof.Machine

/-- What an evaluation reads beside the frost record (R63). -/
structure FrostEnv where
  chans : PerChannel ChannelRecord
  fans : PerStream FanRecord
  supplyLow : Bool
  settings : Settings

/-- What came about in an evaluation, for its events and the rows that name it. -/
inductive FrostMark where
  | watchEntry | watchExit | shed | shedDefrost | icingDefrost | deepColdDefrost | recoverEntry | growth | cleared
  | holdEntry | holdCheck | holdPassed | lockEntry | lockRelease | degradedEntry | degradedShed | timedDefrost
  | timedDefrostEnd | degradedExit | learnComplete | blockEnd
deriving DecidableEq, Repr

/-- The events of what came about (R70 to R82). -/
def FrostMark.events : FrostMark → List Event
  | .shed => [.frostShed]
  | .degradedShed => [.frostShed]
  | .shedDefrost => [.defrostStarted]
  | .icingDefrost => [.defrostStarted]
  | .deepColdDefrost => [.defrostStarted]
  | .lockRelease => [.defrostStarted]
  | .timedDefrost => [.defrostStarted]
  | .cleared => [.defrostEnded]
  | .holdPassed => [.defrostEnded]
  | .timedDefrostEnd => [.defrostEnded]
  | .holdEntry => [.frostHold]
  | .lockEntry => [.frostLock]
  | .degradedEntry => [.frostDegraded]
  | _ => []

/-- A channel's value as the stage rules compare it: the published filtered value. -/
def ChannelRecord.value (c : ChannelRecord) : Int := c.filtered.getD 0

/-! ### Guard temperature, ratio and learn -/

/-- R64: the guard temperature. -/
def guardOf (rh : ChannelRecord) : Int :=
  let h : Int := if rh.validity = .invalid then 800 else rh.filtered.getD 800
  min (10 + quot (max 0 (h - 400)) 20) 40

/-- R65: the exchanger resistance of a scan that meets the first three conditions. -/
def exchangerResistance (ext : FanRecord) (dpXe : ChannelRecord) : Option Nat :=
  if 200 ≤ ext.qMeas ∧ ext.loop = .closed ∧ dpXe.validity = .valid then
    some (dpXe.value.toNat * 65536 / (ext.qMeas * ext.qMeas))
  else none

/-- R65: the ratio of a scan; absent when the scan is not evaluable. -/
def ratioOf (rx rx0 : Option Nat) : Option Nat :=
  match rx, rx0 with
  | some r, some r0 => some (min (r * 100 / r0) 65534)
  | _, _ => none

/-- The stages in which the extract is watched: IDLE, WATCH, SHED and RECOVER (R66, R69). -/
def FrostStage.guarding (x : FrostStage) : Bool := x == .idle || x == .watch || x == .shed || x == .recover

/-- R66: the icing-sign count after a scan. -/
def icingAfter (f : FrostRecord) (ratio : Option Nat) : Nat :=
  if f.mode = .normal ∧ f.stage.guarding = true then
    match ratio with
    | some r => if 130 ≤ r then min (f.icing + 1) 4 else 0
    | none => f.icing
  else 0

/-- R66, R73: the scan brings the icing-sign count to 4. -/
def icingHit (f : FrostRecord) (ratio : Option Nat) : Bool :=
  f.mode == .normal && f.stage.guarding && (match ratio with
    | some r => 130 ≤ r && 4 ≤ f.icing + 1
    | none => false)

/-- R67: the resistance of a scan that qualifies for a learn. -/
def learnScan (e : FrostEnv) (f : FrostRecord) (rx : Option Nat) : Option Nat :=
  if e.chans.tOut.validity = .valid ∧ 50 ≤ e.chans.tOut.value ∧ e.fans.extract.state = .steady ∧ f.stage = .idle then
    match rx with
    | some r => if 1 ≤ r then some r else none
    | none => none
  else none

/-- R67: a learn after a scan. -/
def learnAfter (q : Option Nat) (f : FrostRecord) : FrostRecord × List FrostMark :=
  if f.learnActive || f.rx0.isNone then
    match q with
    | some r =>
      if 16 ≤ f.learnCount + 1 then
        ({ f with rx0 := some ((f.learnSum + r) / 16), learnActive := false, learnCount := 0, learnSum := 0
                  icing := 0 }, [.learnComplete])
      else ({ f with learnActive := true, learnCount := f.learnCount + 1, learnSum := f.learnSum + r }, [])
    | none => ({ f with learnActive := true, learnCount := 0, learnSum := 0 }, [])
  else (f, [])

/-- R63, step 2: the ratio, the icing-sign count and a learn. -/
def ratioStep (e : FrostEnv) (f : FrostRecord) : FrostRecord × List FrostMark :=
  let rx := exchangerResistance e.fans.extract e.chans.dpXe
  let ratio := ratioOf rx f.rx0
  learnAfter (learnScan e f rx) { f with ratio := ratio, icing := icingAfter f ratio }

/-! ### Stage entries -/

/-- R79: the allowance a stage selects. -/
def allowanceFor (x : Settings) : FrostStage → Nat
  | .idle => x.aNormal
  | .watch => x.aNormal
  | .recover => x.aNormal
  | .shed => x.aShed
  | .defrost => x.aDefrost
  | .hold => x.aDefrost
  | .lock => 0

/-- A stage entered: the stage timer, the warm and the watch-exit counts are 0 (R63, R69), and the allowance is selected
(R79). -/
def FrostRecord.enter (f : FrostRecord) (x : Settings) (st : FrostStage) : FrostRecord :=
  { f with stage := st, timer := 0, warm := 0, watchExit := 0, allowance := allowanceFor x st }

/-- R73: DEFROST entered, with W_entry given. -/
def FrostRecord.enterDefrost (f : FrostRecord) (x : Settings) (wEntry : Nat) : FrostRecord :=
  { f.enter x .defrost with wEntry := wEntry, w := 0, icing := 0, cold := 0, deepCold := 0 }

/-- R74, R75: RECOVER entered from a defrost. -/
def FrostRecord.recoverFrom (f : FrostRecord) (x : Settings) : FrostRecord :=
  { f.enter x .recover with s := max (f.wEntry / 2) 2, w := 2 }

/-- R69: the four counts held at 0. -/
def FrostRecord.zeroCounts (f : FrostRecord) : FrostRecord :=
  { f with cold := 0, deepCold := 0, warm := 0, watchExit := 0 }

/-- R80: the cold condition of the degraded cycle. -/
def coldCondition (e : FrostEnv) : Bool := e.chans.tOut.validity == .invalid || e.chans.tOut.value ≤ -30

/-- R80, R81: SHED of the degraded cycle; the allowance is selected where the stage changes (R79). -/
def FrostRecord.degradedShed (f : FrostRecord) (x : Settings) : FrostRecord :=
  { (if f.stage = .shed then { f with timer := 0 } else f.enter x .shed) with w := 8, s := 8 }

/-- R80, R81: IDLE of the degraded cycle. -/
def FrostRecord.degradedIdle (f : FrostRecord) (x : Settings) : FrostRecord :=
  { (if f.stage = .idle then f else f.enter x .idle) with w := 16, s := 16 }

/-! ### Frost mode (R80, R82) -/

/-- R80: DEGRADED entered. -/
def enterDegraded (e : FrostEnv) (f : FrostRecord) : FrostRecord × List FrostMark :=
  let g := { f.zeroCounts with mode := .degraded, icing := 0 }
  match f.stage with
  | .defrost => ({ g with timer := 0, w := 0 }, [.degradedEntry])
  | .hold => ({ g.enter e.settings .defrost with w := 0 }, [.degradedEntry])
  | .lock => (g, [.degradedEntry])
  | _ =>
    if coldCondition e then (g.degradedShed e.settings, [.degradedEntry, .degradedShed])
    else (g.degradedIdle e.settings, [.degradedEntry])

/-- R82: DEGRADED left. -/
def leaveDegraded (e : FrostEnv) (f : FrostRecord) : FrostRecord × List FrostMark :=
  let g := { f with mode := .normal }
  match f.stage with
  | .idle => ({ g.enter e.settings .recover with s := max (f.w / 2) 2 }, [.degradedExit])
  | .shed => ({ g.enter e.settings .recover with s := max (f.w / 2) 2 }, [.degradedExit])
  | .defrost => ({ g with timer := 0 }, [.degradedExit])
  | _ => (g, [.degradedExit])

/-- R63, step 3: the stage timer rises, and the frost mode is checked. -/
def modeStepFrost (e : FrostEnv) (f : FrostRecord) : FrostRecord × List FrostMark :=
  let g := { f with timer := min (f.timer + 1) 65535 }
  match f.mode with
  | .normal => if e.chans.tExh.validity = .invalid then enterDegraded e g else (g, [])
  | .degraded => if e.chans.tExh.validity = .invalid then (g, []) else leaveDegraded e g

/-! ### Stage rules of NORMAL (R69 to R76) -/

/-- A consecutive count with its bound: it rises where the condition holds and is 0 otherwise. -/
def countUp (c : Bool) (n bound : Nat) : Nat := if c then min (n + 1) bound else 0

/-- R69: the counts of a guarding stage. -/
def guardCounts (t : Int) (f : FrostRecord) : FrostRecord :=
  { f with
    cold := countUp (decide (t ≤ f.tg - 10)) f.cold 120
    deepCold := countUp (decide (t ≤ f.tg - 30)) f.deepCold 900
    warm := countUp (decide (f.tg < t)) f.warm 120
    watchExit := if f.stage = .watch then countUp (decide (f.tg + 20 ≤ t)) f.watchExit 300 else f.watchExit }

/-- R71: the preheater is exhausted. -/
def exhausted (x : Settings) (pInForce : Nat) : Bool := !x.preheatFitted || pInForce == 100

/-- R71: a shed event. -/
def shedEvent (x : Settings) (f : FrostRecord) : FrostRecord × List FrostMark :=
  if 2 < f.w then
    let h := max (f.w / 2) 2
    ({ (if f.stage = .shed then f else f.enter x .shed) with s := h, w := h, cold := 0 }, [.shed])
  else (f.enterDefrost x f.w, [.shedDefrost])

/-- R72: a growth of the window, or the entry to IDLE. -/
def growWindow (x : Settings) (f : FrostRecord) : FrostRecord :=
  if f.w < f.s then { f with warm := 0, w := min (2 * f.w) f.s }
  else if f.w < 16 then { f with warm := 0, w := f.w + 1 }
  else f.enter x .idle

/-- R70 to R73: the rules of the guarding stages, the counts already raised. A defrost trigger is taken before any other
change of stage (R73). -/
def guardRules (e : FrostEnv) (hit : Bool) (pInForce : Nat) (t : Int) (f : FrostRecord) : FrostRecord × List FrostMark :=
  if hit ∨ 900 ≤ f.deepCold then
    (f.enterDefrost e.settings f.w,
      (if hit then [.icingDefrost] else []) ++ (if 900 ≤ f.deepCold then [.deepColdDefrost] else []))
  else if f.stage = .idle then
    if t ≤ f.tg then (f.enter e.settings .watch, [.watchEntry]) else (f, [])
  else if 120 ≤ f.cold ∧ exhausted e.settings pInForce = true then shedEvent e.settings f
  else if f.stage = .watch ∧ 300 ≤ f.watchExit then (f.enter e.settings .idle, [.watchExit])
  else if f.stage = .shed ∧ 120 ≤ f.warm then (f.enter e.settings .recover, [.recoverEntry])
  else if f.stage = .recover ∧ 60 ≤ f.warm then (growWindow e.settings f, [.growth])
  else (f, [])

/-- R74: the cleared condition. -/
def clearedCond (t : Int) (ratio : Option Nat) : Bool :=
  50 ≤ t && (match ratio with
    | some r => r ≤ 110
    | none => true)

/-- R74: the rules of DEFROST. -/
def defrostRules (e : FrostEnv) (t : Int) (f : FrostRecord) : FrostRecord × List FrostMark :=
  if clearedCond t f.ratio then (f.recoverFrom e.settings, [.cleared])
  else if 600 ≤ f.timer then
    ({ f.enter e.settings .hold with holdInterval := 60, holdChecks := 0 }, [.holdEntry])
  else (f, [])

/-- R75: the rules of HOLD. -/
def holdRules (e : FrostEnv) (t : Int) (f : FrostRecord) : FrostRecord × List FrostMark :=
  if f.timer = f.holdInterval then
    if clearedCond t f.ratio then (f.recoverFrom e.settings, [.holdCheck, .holdPassed])
    else if f.holdChecks + 1 < 5 then
      ({ f with timer := 0, holdChecks := f.holdChecks + 1, holdInterval := min (2 * f.holdInterval) 960 }, [.holdCheck])
    else ({ f.enter e.settings .lock with holdChecks := 5, release := 0 }, [.holdCheck, .lockEntry])
  else (f, [])

/-- R76, R81: the rules of LOCK, in either frost mode. -/
def lockRules (e : FrostEnv) (f : FrostRecord) : FrostRecord × List FrostMark :=
  let n := countUp (e.chans.tOut.validity != .invalid && decide (30 ≤ e.chans.tOut.value)) f.release 600
  if 600 ≤ n then ({ f.enterDefrost e.settings 2 with release := n }, [.lockRelease])
  else ({ f with release := n }, [])

/-- R69 to R76: the stage rules of NORMAL. -/
def normalRules (e : FrostEnv) (hit : Bool) (pInForce : Nat) (f : FrostRecord) : FrostRecord × List FrostMark :=
  let t := e.chans.tExh.value
  match f.stage with
  | .defrost => defrostRules e t f.zeroCounts
  | .hold => holdRules e t f.zeroCounts
  | .lock => lockRules e f.zeroCounts
  | _ => guardRules e hit pInForce t (guardCounts t f)

/-! ### Stage rules of DEGRADED (R81) -/

/-- R81: the degraded cycle. -/
def degradedRules (e : FrostEnv) (f : FrostRecord) : FrostRecord × List FrostMark :=
  match f.stage with
  | .idle => if coldCondition e then (f.degradedShed e.settings, [.degradedShed]) else (f, [])
  | .shed =>
    if coldCondition e = false then (f.degradedIdle e.settings, [])
    else if 1800 ≤ f.timer then (f.enterDefrost e.settings 8, [.timedDefrost])
    else (f, [])
  | .defrost =>
    if 300 ≤ f.timer then
      if coldCondition e then (f.degradedShed e.settings, [.timedDefrostEnd, .degradedShed])
      else (f.degradedIdle e.settings, [.timedDefrostEnd])
    else (f, [])
  | .lock => lockRules e f
  | _ => (f, [])

/-! ### Preheater (R84, R85) -/

/-- R85: the block remaining after an evaluation. -/
def blockAfter (tPre : ChannelRecord) (block : Nat) : Nat :=
  if tPre.validity = .valid ∧ 150 ≤ tPre.value then 120 else block - 1

/-- R84: the demanded duty. -/
def demandedDuty (tPs : Int) (tPre : ChannelRecord) : Nat := (clampI ((tPs - tPre.value) * 2) 0 100).toNat

/-- R63, step 5: the block and the duty. -/
def preheatStep (e : FrostEnv) (f : FrostRecord) : FrostRecord × List FrostMark :=
  let b := blockAfter e.chans.tPre f.block
  let ok := interlock f.stage e.fans.supply e.chans.tPre e.supplyLow e.settings.preheatFitted b
  ({ f with block := b }.setDuty (if ok then demandedDuty e.settings.tPs e.chans.tPre else 0),
    if f.block ≠ 0 ∧ b = 0 then [.blockEnd] else [])

/-! ### The evaluation (R63) -/

/-- R63, step 4: the stage rules of the present frost mode. -/
def stageRules (e : FrostEnv) (hit : Bool) (pInForce : Nat) (f : FrostRecord) : FrostRecord × List FrostMark :=
  match f.mode with
  | .normal => normalRules e hit pInForce f
  | .degraded => degradedRules e f

/-- R63: the evaluation of the frost record, steps 1 to 5. -/
def evalFrost (e : FrostEnv) (f : FrostRecord) : FrostRecord × List FrostMark :=
  let a := ratioStep e { f with tg := guardOf e.chans.rhExt }
  let b := modeStepFrost e a.1
  let c := stageRules e (icingHit f (ratioOf (exchangerResistance e.fans.extract e.chans.dpXe) f.rx0)) f.duty b.1
  let d := preheatStep e c.1
  (d.1, a.2 ++ b.2 ++ c.2 ++ d.2)

/-- What the evaluation reads in the part. -/
def frostEnv (s : State) : FrostEnv := ⟨s.seq.published, s.fans, s.seq.supplyLow, s.settings⟩

/-- R63, step 6, R77, R78: a frost record that took its place, with its events, and one arrival to the resolver where the
stage or W changed. -/
def handFrost (f : FrostRecord) (es : List Event) (s : State) : State :=
  resolveIf (f.stage != s.frost.stage || f.w != s.frost.w) (raiseAll es (s.setFrost f))

/-- R63: the frost evaluation, with what came about in it; a completed learn asks for a save (R67). -/
def frostEvaluate (s : State) : State × List FrostMark :=
  let r := evalFrost (frostEnv s) s.frost
  let a := handFrost r.1 (r.2.flatMap FrostMark.events) s
  (if r.2.contains .learnComplete then askSave a else a, r.2)

/-! ### Meanings -/

/-- WATCH_EXIT (R70). -/
def execWatchExit (s : State) : Host.Outcome State Fault Refusal :=
  .next (whenRunning (whenMarked .watchExit frostEvaluate) s)

/-- A shed event of either effect: a halving, or a defrost at W 2 (R71). -/
def shedMarked (s : State) : State :=
  if FrostMark.shed ∈ (frostEvaluate s).2 ∨ FrostMark.shedDefrost ∈ (frostEvaluate s).2 then (frostEvaluate s).1 else s

/-- SHED_EVENT (R71). -/
def execShedEvent (s : State) : Host.Outcome State Fault Refusal := .next (whenRunning shedMarked s)

/-- ICING_SIGN_DEFROST (R66, R73). -/
def execIcingSignDefrost (s : State) : Host.Outcome State Fault Refusal :=
  .next (whenRunning (whenMarked .icingDefrost frostEvaluate) s)

/-- DEEP_COLD_DEFROST (R73). -/
def execDeepColdDefrost (s : State) : Host.Outcome State Fault Refusal :=
  .next (whenRunning (whenMarked .deepColdDefrost frostEvaluate) s)

/-- RECOVER_ENTRY (R72). -/
def execRecoverEntry (s : State) : Host.Outcome State Fault Refusal :=
  .next (whenRunning (whenMarked .recoverEntry frostEvaluate) s)

/-- RECOVERY_GROWTH (R72). -/
def execRecoveryGrowth (s : State) : Host.Outcome State Fault Refusal :=
  .next (whenRunning (whenMarked .growth frostEvaluate) s)

/-- HOLD_ENTRY (R74). -/
def execHoldEntry (s : State) : Host.Outcome State Fault Refusal :=
  .next (whenRunning (whenMarked .holdEntry frostEvaluate) s)

/-- HOLD_CHECK (R75). -/
def execHoldCheck (s : State) : Host.Outcome State Fault Refusal :=
  .next (whenRunning (whenMarked .holdCheck frostEvaluate) s)

/-- LOCK_RELEASE (R76). -/
def execLockRelease (s : State) : Host.Outcome State Fault Refusal :=
  .next (whenRunning (whenMarked .lockRelease frostEvaluate) s)

/-- DEGRADED_TIMED_DEFROST (R81). -/
def execDegradedTimedDefrost (s : State) : Host.Outcome State Fault Refusal :=
  .next (whenRunning (whenMarked .timedDefrost frostEvaluate) s)

/-- DEGRADED_DEFROST_END (R81). -/
def execDegradedDefrostEnd (s : State) : Host.Outcome State Fault Refusal :=
  .next (whenRunning (whenMarked .timedDefrostEnd frostEvaluate) s)

/-- EXCHANGER_LEARN_COMPLETE (R67). -/
def execExchangerLearnComplete (s : State) : Host.Outcome State Fault Refusal :=
  .next (whenRunning (whenMarked .learnComplete frostEvaluate) s)

/-- OVERTEMP_BLOCK_END (R85). -/
def execOvertempBlockEnd (s : State) : Host.Outcome State Fault Refusal :=
  .next (whenRunning (whenMarked .blockEnd frostEvaluate) s)

/-- PREHEAT_WINDOW (R83): a window begins, and the output turns on if P is above 0. -/
def execPreheatWindow (s : State) : Host.Outcome State Fault Refusal :=
  .next (whenRunning (fun s => s.setFrost { s.frost with windowMs := 0, output := decide (0 < s.frost.duty) }) s)

/-- R83: the on time of the running window ends; at a duty of 100 it does not end within the window. -/
def endOnTime (s : State) : State :=
  if s.frost.output = true ∧ s.frost.duty < 100 then
    s.setFrost { s.frost with windowMs := max s.frost.windowMs (s.frost.duty * 100), output := false }
  else s

/-- PREHEAT_ON_TIME_END (R83). -/
def execPreheatOnTimeEnd (s : State) : Host.Outcome State Fault Refusal := .next (whenRunning endOnTime s)

/-- R73, R76, R81: DEFROST entered by a request, with the preheater dropped at once (R84). -/
def requestDefrost (wEntry : Nat) (s : State) : State :=
  handFrost ((s.frost.enterDefrost s.settings wEntry).setDuty 0) [.defrostStarted] s

/-- R77: FORCE_DEFROST's owner. -/
def ownForceDefrost (s : State) : Answer × State :=
  if s.frost.stage = .defrost ∨ s.frost.stage = .hold ∨ s.frost.stage = .lock then refuse .notNow s
  else ok (requestDefrost s.frost.w s)

/-- FORCE_DEFROST (R77). -/
def execForceDefrost (tag : Byte) (s : State) : Host.Outcome State Fault Refusal :=
  .next (whenRunning (hostRequest tag .forceDefrost ownForceDefrost) s)

/-- R78: FROST_RELEASE's owner. -/
def ownFrostRelease (s : State) : Answer × State :=
  if s.frost.stage = .lock then ok (requestDefrost 2 s) else refuse .notNow s

/-- FROST_RELEASE (R78). -/
def execFrostRelease (tag : Byte) (s : State) : Host.Outcome State Fault Refusal :=
  .next (whenRunning (hostRequest tag .frostRelease ownFrostRelease) s)

/-- R68: LEARN_EXCHANGER's owner. -/
def ownLearnExchanger (s : State) : Answer × State :=
  ok (s.setFrost { s.frost with learnActive := true, learnCount := 0, learnSum := 0 })

/-- LEARN_EXCHANGER (R68). -/
def execLearnExchanger (tag : Byte) (s : State) : Host.Outcome State Fault Refusal :=
  .next (whenRunning (hostRequest tag .learnExchanger ownLearnExchanger) s)

/-- R88: GET_FROST's owner. -/
def ownGetFrost (s : State) : Answer × State := report (encodeFrost s.frost) s

/-- GET_FROST (R88). -/
def execGetFrost (tag : Byte) (s : State) : Host.Outcome State Fault Refusal :=
  .next (whenRunning (hostRequest tag .getFrost ownGetFrost) s)

end Sys2Proof.Machine
end

