-- ==== Sys2Proof/Machine/Rooms.lean ====
section
/-! DEFINITION. Humidity rooms and boost sessions (07). -/

namespace Sys2Proof.Machine

/-! ### Sessions: finding, changing, opening, closing -/

/-- The open session of a room (R132: at most one). -/
def State.session (s : State) (room : Nat) : Option Session := s.sessions.find? fun x => x.room == room

/-- The session of a room replaced, at its place in the list (R132). -/
def putSession (x : Session) (s : State) : State :=
  { s with sessions := s.sessions.map fun y => if y.room = x.room then x else y }

/-- R131: the NORMAL level of a room kind. -/
def RoomKind.normalLevel : RoomKind → Nat
  | .kitchen => 600
  | .bath => 500
  | .shower => 550
  | .utility => 450
  | .wc => 350
  | .other => 400
  | .house => 450

/-- R131: a session's level: the NORMAL level, and for HIGH urgency a quarter more, truncated. -/
def levelFor (k : RoomKind) (u : Urgency) : Nat :=
  match u with
  | .normal => k.normalLevel
  | .high => k.normalLevel + k.normalLevel / 4

/-- R131: HIGH urgency carries the quiet exemption. -/
def Urgency.exempt (u : Urgency) : Bool := u == .high

/-- The kind a room's level is formed from. A room that opens or raises a session is bound, so it has a kind. -/
def RoomRecord.kindOr (r : RoomRecord) : RoomKind := r.kind.getD .other

/-- R133: the session an opening creates. -/
def newSession (room : Nat) (t : Trigger) (u : Urgency) (s : State) : Session :=
  { room := room, trigger := t, urgency := u, phase := .opening, held := s.mode.mode.inStandby
    level := levelFor (s.room room).kindOr u, rhStart := (s.room room).rh, rhPeak := (s.room room).rh, age := 0
    overrun := none, callTime := if t = .call then some 1200 else none, sensingLost := false, servedShort := false
    shortCount := 0, rowGone := false }

/-- R133: an opening. -/
def openSession (room : Nat) (t : Trigger) (u : Urgency) (s : State) : State :=
  let x := newSession room t u s
  raise .boostOpened <|
    writeDemand (setBoost room (some ⟨x.level, none, u.exempt, s.uptime, 0⟩))
      { s with sessions := s.sessions ++ [x], sessionChange := (s.sessionChange + 1) % 256 }

/-- R139: a close. -/
def closeSession (room : Nat) (why : CloseReason) (s : State) : State :=
  let a := writeDemand (setBoost room none) s
  let b := { a with sessions := a.sessions.filter (fun x => x.room != room)
                    sessionChange := (a.sessionChange + 1) % 256 }
  let r := b.room room
  raise .boostClosed <|
    b.setRoom room { r with lastClose := some why
                            cooldown := if why = .released then r.cooldown else 1800 }

/-- R135, R136, R137: a release. -/
def Session.release (x : Session) : Session :=
  { x with phase := .releasing, overrun := some 600, callTime := none, shortCount := 0 }

/-! ### Samples -/

/-- R135, step 1: the peak. -/
def raisePeak (rh : Nat) (x : Session) : Session :=
  match x.rhPeak with
  | some p => if p < rh then { x with rhPeak := some rh } else x
  | none => { x with rhPeak := some rh }

/-- R135, step 2: a sample at or above the limit makes a LIMIT session of HIGH urgency, with its level formed anew. -/
def raiseToLimit (rh : Nat) (r : RoomRecord) (x : Session) : Session :=
  if r.limit ≤ rh then
    { x with urgency := .high, trigger := .limit, callTime := none, level := levelFor r.kindOr .high }
  else x

/-- R135: the release test of a session's trigger; a CALL session has none. -/
def releaseTest (rh : Nat) (r : RoomRecord) (x : Session) : Option Bool :=
  match x.trigger with
  | .rise => some (match x.rhStart with
      | some s0 => rh ≤ s0 + 30
      | none => false)
  | .limit => some (rh + 50 ≤ r.limit)
  | .call => none

/-- R135, step 3: what the release test does to the state, or to the held-from in HELD. -/
def applyRelease (t : Option Bool) (x : Session) : Session :=
  match t, x.phase with
  | some true, .active => x.release
  | some false, .releasing => if x.sensingLost then x else { x with phase := .active, overrun := none }
  | _, _ => x

/-- R135: the session after a sample, its BOOST entry apart. -/
def sampledSession (rh : Nat) (r : RoomRecord) (x : Session) : Session :=
  let y := raiseToLimit rh r (raisePeak rh x)
  applyRelease (releaseTest rh r y) y

/-- R135: a session's BOOST entry follows its level and urgency; the entry's created-at is kept. -/
def relevel (x y : Session) (s : State) : State :=
  if x.level = y.level ∧ x.urgency = y.urgency then s
  else writeDemand (fun d =>
    setBoost x.room ((d.boostOf x.room).map fun e => { e with level := y.level, exempt := y.urgency.exempt }) d) s

/-- R135: a sample on an open session. -/
def sampleSession (rh : Nat) (x : Session) (s : State) : State :=
  let y := sampledSession rh (s.room x.room) x
  relevel x y (putSession y s)

/-- R128, steps 1 to 3: a sample joins the room record and its ring. -/
def addSample (rh : Nat) (temp : Option Int) (r : RoomRecord) : RoomRecord :=
  let ring := (if 10 ≤ r.ring.length then r.ring.tail else r.ring) ++ [rh]
  { r with
    rh := some rh
    temp := temp
    sensorError := false
    ring := ring
    rise := if ring.length = 10 then some ((rh : Int) - (ring.head?.getD rh : Nat)) else none }

/-- R130: the rise is present and at least 80. -/
def RoomRecord.rising (r : RoomRecord) : Bool :=
  match r.rise with
  | some d => 80 ≤ d
  | none => false

/-- R130: LIMIT first, RISE second. -/
def judgeTriggers (room rh : Nat) (s : State) : State :=
  let r := s.room room
  if r.limit ≤ rh then openSession room .limit .high s
  else if r.rising = true ∧ r.cooldown = 0 then openSession room .rise .normal s
  else s

/-- R128: a new sample for a bound room; an unbound room has no readings (R126). -/
def newSample (room rh : Nat) (temp : Option Int) (s : State) : State :=
  if (s.room room).bound then
    let a := s.setRoom room (addSample rh temp (s.room room))
    match a.session room with
    | some x => sampleSession rh x a
    | none => judgeTriggers room rh a
  else s

/-! ### Calls, losses and bindings -/

/-- R136: the session a CALL renews. -/
def Session.renew (x : Session) : Session :=
  { x with phase := .active, trigger := .call, callTime := some 1200, overrun := none, sensingLost := false
           shortCount := 0, rowGone := false }

/-- R130, R136: a CALL arrival for a room. -/
def callArrival (room : Nat) (s : State) : State :=
  if (s.room room).bound then
    match s.session room with
    | none => openSession room .call .normal s
    | some x =>
      if x.held then s
      else match x.phase, x.trigger with
        | .releasing, _ => putSession x.renew s
        | _, .call => closeSession room .cancelled s
        | _, _ => s
  else s

/-- R137: the loss of sensing on a session, in its state or its held-from. -/
def Session.loseSensing (x : Session) : Session :=
  match x.phase with
  | .releasing => { x with sensingLost := true }
  | _ => { x.release with sensingLost := true }

/-- R137: a loss of sensing handed to a room's session; `gone` when the row itself went. -/
def sensingLost (room : Nat) (gone : Bool) (s : State) : State :=
  match s.session room with
  | none => s
  | some x => putSession { x.loseSensing with rowGone := x.rowGone || gone } s

/-- R129: a row went from PRESENT to SILENT: the ring empties, the rise becomes absent, the session is told. -/
def roomSilent (room : Nat) (s : State) : State :=
  sensingLost room false (s.setRoom room { s.room room with ring := [], rise := none })

/-- R129, R137: a row returned to PRESENT: the loss is cleared, unless the session's row is gone and this is another. -/
def roomReturned (room : Nat) (s : State) : State :=
  match s.session room with
  | none => s
  | some x => if x.rowGone then s else putSession { x with sensingLost := false } s

/-- R126: a new binding. -/
def bindRoom (room : Nat) (k : RoomKind) (s : State) : State :=
  s.setRoom room { RoomRecord.ofKind k with lastClose := (s.room room).lastClose }

/-- R126, R137: a removal. R126 names the fields that change and those that are kept, and the limit is in neither list; the
record keeps the limit of the kind it had (DESIGN CHOICE: assumption 40). -/
def unbindRoom (room : Nat) (s : State) : State :=
  sensingLost room true <| s.setRoom room
    { s.room room with bound := false, kind := none, rh := none, temp := none, rise := none, ring := []
                       sensorError := false }

/-- R126: a kind change. -/
def rekindRoom (room : Nat) (k : RoomKind) (s : State) : State :=
  s.setRoom room { s.room room with kind := some k, limit := k.limit }

/-- R128: a sensor error handed over with no new values. -/
def roomError (room : Nat) (s : State) : State := s.setRoom room { s.room room with sensorError := true }

/-- R140: a change into standby. -/
def holdSessions (s : State) : State :=
  { s with sessions := s.sessions.map fun x => { x with held := true, shortCount := 0 } }

/-- R140: a change out of standby. -/
def unholdSessions (s : State) : State := { s with sessions := s.sessions.map fun x => { x with held := false } }

/-! ### Room 0 and the session step -/

/-- R127: room 0's sample. -/
def room0Sample (s : State) : State :=
  match s.seq.published.rhExt.validity, s.seq.published.rhExt.filtered with
  | .valid, some rh =>
    let t := s.seq.published.tExt
    newSample 0 rh.toNat (if t.validity = .invalid then (s.room 0).temp else t.filtered) s
  | _, _ => roomError 0 s

/-- What came about in a session step. -/
inductive SessionMark where
  | timeout (room : Nat) | callEnd (room : Nat) | overrunEnd (room : Nat) | openingTimeout (room : Nat)
  | short (room : Nat)
deriving DecidableEq, Repr

/-- R134, step 2: the call time. -/
def stepCall (x : Session) : Session × Bool :=
  match x.callTime with
  | some c =>
    if c = 0 then (x, false)
    else if c = 1 ∧ x.phase = .active then (x.release, true)
    else ({ x with callTime := some (c - 1) }, false)
  | none => (x, false)

/-- R134, step 3: the overrun, but for one set in this step; at 0 the session closes. -/
def stepOverrun (justSet : Bool) (x : Session) : Session × Bool :=
  match x.overrun with
  | some o => if justSet then (x, false) else ({ x with overrun := some (o - 1) }, decide (o ≤ 1))
  | none => (x, false)

/-- R134, step 4: OPENING ends by flow or by age; in HELD by age alone. -/
def stepOpening (qMeas target : Nat) (x : Session) : Session :=
  if x.phase = .opening ∧ (120 ≤ x.age ∨ (x.held = false ∧ min x.level target ≤ qMeas + 20)) then
    { x with phase := .active }
  else x

/-- R138: the short counter of an ACTIVE session. -/
def stepShort (target : Nat) (x : Session) : Session × Bool :=
  if x.phase = .active ∧ x.held = false then
    if target < x.level then
      let n := min (x.shortCount + 1) 60
      if n = 60 ∧ x.servedShort = false then ({ x with shortCount := n, servedShort := true }, true)
      else ({ x with shortCount := n }, false)
    else ({ x with shortCount := 0 }, false)
  else (x, false)

/-- R134: the step on one session. -/
def stepSession (x : Session) (s : State) : State × List SessionMark :=
  let a := { x with age := x.age + 1 }
  if 7200 ≤ a.age then (closeSession x.room .timeout (putSession a s), [.timeout x.room])
  else
    let b := stepCall a
    let c := stepOverrun b.2 b.1
    let m := if b.2 then [SessionMark.callEnd x.room] else []
    if c.2 then (closeSession x.room .released (putSession c.1 s), m ++ [.overrunEnd x.room])
    else
      let d := stepOpening s.fans.extract.qMeas s.fans.extract.qTarget c.1
      let e := stepShort s.fans.extract.qTarget d
      (raiseIf e.2 .boostShort (putSession e.1 s),
        m ++ (if c.1.phase = .opening ∧ 120 ≤ c.1.age then [.openingTimeout x.room] else []) ++
          (if e.2 then [.short x.room] else []))

/-- R134: the step on the session of a room. -/
def stepRoom (acc : State × List SessionMark) (room : Nat) : State × List SessionMark :=
  match acc.1.session room with
  | some x => ((stepSession x acc.1).1, acc.2 ++ (stepSession x acc.1).2)
  | none => acc

/-- R134: after the sessions, every cooldown above 0 falls by one. -/
def lowerCooldowns (s : State) : State :=
  { s with rooms := mapVec (fun r => { r with cooldown := r.cooldown - 1 }) s.rooms }

/-- R134: the session step: the sessions in list order, then the cooldowns. -/
def sessionStep (s : State) : State × List SessionMark :=
  let r := (s.sessions.map (·.room)).foldl stepRoom (s, [])
  (lowerCooldowns r.1, r.2)

/-! ### Meanings -/

/-- ROOM0_SAMPLE (R127). -/
def execRoom0Sample (s : State) : Host.Outcome State Fault Refusal := .next (whenRunning room0Sample s)

/-- SESSION_STEP (R134). -/
def execSessionStep (s : State) : Host.Outcome State Fault Refusal := .next (whenRunning (fun s => (sessionStep s).1) s)

/-- SESSION_TIMEOUT (R134, R139). -/
def execSessionTimeout (room : Nat) (s : State) : Host.Outcome State Fault Refusal :=
  .next (whenRunning (whenMarked (.timeout room) sessionStep) s)

/-- CALL_TIME_END (R134). -/
def execCallTimeEnd (room : Nat) (s : State) : Host.Outcome State Fault Refusal :=
  .next (whenRunning (whenMarked (.callEnd room) sessionStep) s)

/-- OVERRUN_END (R134, R139). -/
def execOverrunEnd (room : Nat) (s : State) : Host.Outcome State Fault Refusal :=
  .next (whenRunning (whenMarked (.overrunEnd room) sessionStep) s)

/-- OPENING_TIMEOUT (R134). -/
def execOpeningTimeout (room : Nat) (s : State) : Host.Outcome State Fault Refusal :=
  .next (whenRunning (whenMarked (.openingTimeout room) sessionStep) s)

/-- BOOST_SHORT (R138). -/
def execBoostShort (room : Nat) (s : State) : Host.Outcome State Fault Refusal :=
  .next (whenRunning (whenMarked (.short room) sessionStep) s)

/-- R141: BOOST_CANCEL's owner. -/
def ownBoostCancel (room : Byte) (s : State) : Answer × State :=
  if 6 < room.toNat then refuse .badValue s
  else match s.session room.toNat with
    | none => refuse .noSuch s
    | some _ => ok (closeSession room.toNat .cancelled s)

/-- BOOST_CANCEL (R141). -/
def execBoostCancel (tag room : Byte) (s : State) : Host.Outcome State Fault Refusal :=
  .next (whenRunning (hostRequest tag (.boostCancel room) (ownBoostCancel room)) s)

/-- R143: GET_ROOMS's owner. -/
def ownGetRooms (room : Byte) (s : State) : Answer × State :=
  if 6 < room.toNat then refuse .badValue s
  else report (encodeRoom room.toNat (s.room room.toNat) (s.session room.toNat).isSome) s

/-- GET_ROOMS (R143). -/
def execGetRooms (tag room : Byte) (s : State) : Host.Outcome State Fault Refusal :=
  .next (whenRunning (hostRequest tag (.getRooms room) (ownGetRooms room)) s)

/-- R143: GET_SESSIONS's owner. -/
def ownGetSessions (first : Byte) (s : State) : Answer × State :=
  if 6 < first.toNat then refuse .badValue s
  else report (u8 s.sessionChange ++ u8 s.sessions.length ++
    (((s.sessions.drop first.toNat).take 2).map encodeSession).flatten) s

/-- GET_SESSIONS (R143). -/
def execGetSessions (tag first : Byte) (s : State) : Host.Outcome State Fault Refusal :=
  .next (whenRunning (hostRequest tag (.getSessions first) (ownGetSessions first)) s)

end Sys2Proof.Machine
end

