-- ==== Sys2Proof/Machine/Line.lean ====
section
/-! DEFINITION. The room line and the node table (06). -/

namespace Sys2Proof.Machine

/-! ### The node table -/

/-- The row at a position 1..6. -/
def rowAt (t : NodeTable) (p : Nat) : Option NodeRow := if p = 0 then none else (t[p - 1]?).join

/-- The table with a position's content replaced. -/
def setRow (t : NodeTable) (p : Nat) (r : Option NodeRow) : NodeTable := t.setIfInBounds (p - 1) r

/-- The positions, in order. -/
def positions : List Nat := [1, 2, 3, 4, 5, 6]

/-- The position whose row satisfies a test, and the row. -/
def findRow (t : NodeTable) (ok : NodeRow → Bool) : Option (Nat × NodeRow) :=
  positions.findSome? fun p => (rowAt t p).bind fun r => if ok r then some (p, r) else none

/-- The position and row that hold an address. -/
def rowOf (t : NodeTable) (address : Nat) : Option (Nat × NodeRow) := findRow t fun r => r.address == address

/-- The lowest empty position. -/
def emptyPos (t : NodeTable) : Option Nat := positions.find? fun p => (rowAt t p).isNone

/-- The lowest room of 1..6 that no row holds (R113). -/
def freeRoom (t : NodeTable) : Option Nat := positions.find? fun room => (findRow t fun r => r.room == room).isNone

/-- The change count raised by one, wrapping from 255 to 0 (06, "The node table"). -/
def bumpNodes (s : State) : State := s.setLine { s.line with changeCount := (s.line.changeCount + 1) % 256 }

/-- A row written at its position. -/
def putRow (p : Nat) (r : NodeRow) (s : State) : State := { s with nodes := setRow s.nodes p (some r) }

/-- A row created (R113, R119): the change count rises and the binding is handed to the humidity monitor. -/
def createRow (p : Nat) (r : NodeRow) (s : State) : State := bindRoom r.room r.kind (bumpNodes (putRow p r s))

/-- A row removed (R112, R120, R121): the change count rises and the removal is handed to the humidity monitor. -/
def removeRow (p : Nat) (r : NodeRow) (s : State) : State :=
  unbindRoom r.room (bumpNodes { s with nodes := setRow s.nodes p none })

/-! ### Jobs and transactions -/

/-- A transaction with its first POLL due (R107). -/
def Txn.start (address : Nat) (bit : Bool) : Txn :=
  { address := address, bit := bit, attempt := 1, waits := 0, phase := .due, ms := 0 }

/-- A transaction moved into a phase. -/
def Txn.into (x : Txn) (ph : TxnPhase) : Txn := { x with phase := ph, ms := 0 }

/-- R110: a job ends; a poll cycle that ends with no conflict returns the suspension interval to 60. -/
def endJob (s : State) : State :=
  s.setLine
    { s.line with
      interval := if s.line.job = .pollCycle ∧ s.line.conflicts = 0 then 60 else s.line.interval
      job := .noJob, pos := none, sweep := none, txn := none }

/-- Whether a job polls a row: the poll cycle every row (R110), the call sweep those not LOST (R116). -/
def jobTakes (j : Job) (r : NodeRow) : Bool := j == .pollCycle || r.presence != .lost

/-- R110, R116: the visit goes on from a position to the next row the job polls, or the job ends. -/
def visitRows (first : Nat) (s : State) : State :=
  match positions.findSome? fun p =>
      (rowAt s.nodes p).bind fun r => if first ≤ p ∧ jobTakes s.line.job r = true then some (p, r) else none with
  | some (p, r) => s.setLine { s.line with pos := some p, txn := some (.start r.address r.seqBit) }
  | none => endJob s

/-- R113: the sweep goes on from an address to the next one held by no row, or ends after address 30. -/
def visitAddresses (first : Nat) (s : State) : State :=
  match (List.range 31).find? fun a => decide (first ≤ a) && decide (1 ≤ a) && (rowOf s.nodes a).isNone with
  | some a => s.setLine { s.line with sweep := some a, txn := some (.start a false) }
  | none => endJob s

/-- A job goes on after a transaction has ended. -/
def proceed (s : State) : State :=
  match s.line.job with
  | .pollCycle => visitRows (s.line.pos.getD 6 + 1) s
  | .callSweep => visitRows (s.line.pos.getD 6 + 1) s
  | .discovery => visitAddresses (s.line.sweep.getD 30 + 1) s
  | .noJob => s

/-- R109: the idle ACTIVE line starts the waiting job: call sweep, then poll cycle, then discovery sweep. -/
def jobStart (s : State) : State :=
  if s.line.state = .active ∧ s.line.job = .noJob then
    if s.line.callPending then visitRows 1 (s.setLine { s.line with callPending := false, job := .callSweep })
    else if s.line.cycleDue then
      visitRows 1 (s.setLine { s.line with cycleDue := false, job := .pollCycle, conflicts := 0 })
    else if s.line.discPending then
      visitAddresses 1 (s.setLine
        { s.line with discPending := false, job := .discovery, ignored := 0, discTimer := 0, discMs := 0 })
    else s
  else s

/-! ### Outcomes of a transaction -/

/-- The fields of an accepted READING (06, "Frames and exchanges"). -/
structure Report where
  rh : Nat
  temp : Int
  kind : RoomKind
  sensorError : Bool
  call : Bool
deriving DecidableEq, Repr

/-- R111, steps 3 and 4: the reading on the row. -/
def readRow (d : Report) (r : NodeRow) : NodeRow :=
  if d.sensorError then { r with sensorError := true }
  else { r with lastRh := some d.rh, lastT := some d.temp, age := some 0, ageMs := 0, sensorError := false }

/-- R111, steps 3, 4: the reading handed to the humidity monitor. -/
def handReading (room : Nat) (d : Report) (s : State) : State :=
  if d.sensorError then roomError room s else newSample room d.rh (some d.temp) s

/-- R111, step 6: a call handed to the humidity monitor. -/
def handCall (room : Nat) (d : Report) (s : State) : State :=
  if d.call then raise .nodeCall (callArrival room s) else s

/-- R111, step 5: a LEARNED row takes the reading's kind. -/
def handKind (p : Nat) (d : Report) (r : NodeRow) (s : State) : State :=
  if r.origin = .learned ∧ r.kind ≠ d.kind then
    rekindRoom r.room d.kind (bumpNodes (putRow p { r with kind := d.kind } s))
  else s

/-- R111: a reply of the row at a position. -/
def rowReply (p : Nat) (r : NodeRow) (d : Report) (s : State) : State :=
  let r1 := readRow d { r with missed := 0, presence := .present, seqBit := !r.seqBit }
  let a := putRow p r1 s
  let b := if r.presence = .present then a else roomReturned r.room a
  handCall r.room d (handKind p d r1 (handReading r.room d b))

/-- R113: a reply to a discovery transaction: a row is learned, or the ignored count rises. -/
def learnNode (address : Nat) (d : Report) (s : State) : State :=
  match emptyPos s.nodes, freeRoom s.nodes with
  | some p, some room =>
    let r := readRow d { NodeRow.unheard address room d.kind with
      origin := .learned, presence := .present, seqBit := true }
    handCall room d (handReading room d (createRow p r (raise .nodeLearned s)))
  | _, _ => s.setLine { s.line with ignored := min (s.line.ignored + 1) 255 }

/-- R111, R113, R122: the outcome acts on the row that holds the polled address when it is taken, and is dropped if there is
none; a discovery reply is dropped if a row holds the address by then. -/
def takeReply (address : Nat) (d : Report) (s : State) : State :=
  match s.line.job, rowOf s.nodes address with
  | .discovery, none => learnNode address d s
  | .discovery, some _ => s
  | _, some (p, r) => rowReply p r d s
  | _, none => s

/-- R112: a miss in a poll cycle. -/
def rowMiss (p : Nat) (r : NodeRow) (s : State) : State :=
  let r1 := { r with missed := min (r.missed + 1) 255 }
  if r1.missed = 3 ∧ r.presence = .present then
    roomSilent r.room (raise .nodeSilent (putRow p { r1 with presence := .silent } s))
  else if r1.missed = 10 ∧ r.presence ≠ .lost then
    if r.origin = .learned then removeRow p r (raise .nodeLost s)
    else raise .nodeLost (putRow p { r1 with presence := .lost } s)
  else putRow p r1 s

/-- R112, R122: a miss acts in a poll cycle alone. -/
def takeMiss (address : Nat) (s : State) : State :=
  match s.line.job, rowOf s.nodes address with
  | .pollCycle, some (p, r) => rowMiss p r s
  | _, _ => s

/-- The transaction changed. -/
def setTxn (x : Txn) (s : State) : State := s.setLine { s.line with txn := some x }

/-- R107: an attempt ends as no reply: the second follows the first, and the transaction ends as a miss after the
second. -/
def attemptFailed (x : Txn) (s : State) : State :=
  if x.attempt = 1 then setTxn { x with attempt := 2, waits := 0, phase := .due, ms := 0 } s
  else proceed (takeMiss x.address s)

/-! ### Conflicts and faults -/

/-- R117: the job in progress is abandoned with its transaction; a sweep is asked for again. -/
def abandonJob (l : LineRecord) : LineRecord :=
  { l with
    callPending := l.callPending || l.job == .callSweep
    discPending := l.discPending || l.job == .discovery
    job := .noJob, pos := none, sweep := none, txn := none }

/-- R117: the line enters FAULT. -/
def enterFault (s : State) : State :=
  raise .lineFault <| s.setLine
    { abandonJob s.line with
      state := .fault, suspension := s.line.interval, interval := min (2 * s.line.interval) 960, conflicts := 0
      lineMs := 0 }

/-- R108: a conflict while the line is ACTIVE; the fifth enters FAULT. -/
def addConflict (s : State) : State :=
  if s.line.state = .active then
    if 5 ≤ s.line.conflicts + 1 then enterFault s
    else s.setLine { s.line with conflicts := s.line.conflicts + 1 }
  else s

/-! ### Meanings -/

/-- POLL_CYCLE_DUE (R110): cycle due is set, or cleared while the line is FAULT or OFF. -/
def execPollCycleDue (s : State) : Host.Outcome State Fault Refusal :=
  .next (whenRunning (fun s => s.setLine { s.line with cycleDue := s.line.state == .active }) s)

/-- JOB_START (R109). -/
def execJobStart (s : State) : Host.Outcome State Fault Refusal := .next (whenRunning jobStart s)

/-- R106: no POLL begins while a node holds the line low; once the line is free, the POLL that is due is sent, opening an
exchange. -/
def sendPoll (heldLow : Bool) (s : State) : State :=
  let a := s.setLine { s.line with heldLow := heldLow }
  match s.line.txn with
  | some x => if x.phase = .due ∧ heldLow = false then setTxn (x.into .exchange) a else a
  | none => a

/-- POLL (R106). -/
def execPoll (s : State) (heldLow : Bool := false) : Host.Outcome State Fault Refusal :=
  .next (whenRunning (sendPoll heldLow) s)

/-- What happens in the transaction whose exchange is open; outside an exchange nothing does (R106). -/
def inExchange (f : Txn → State → State) (s : State) : State :=
  match s.line.txn with
  | some x => if x.phase = .exchange then f x s else s
  | none => s

/-- R106: the tests of a READING in an exchange: its check is good, its address is the polled one, its fields lie in their
ranges and its kind is one of the six. What is accepted is the report. -/
def acceptable (x : Txn) (address rh : Nat) (temp : Int) (kind : Nat) (sensorError call checkGood : Bool) :
    Option Report :=
  if checkGood = true ∧ x.address = address ∧ rh ≤ 1000 ∧ -400 ≤ temp ∧ temp ≤ 800 then
    (RoomKind.ofCode kind).map fun k => ⟨rh, temp, k, sensorError, call⟩
  else none

/-- R106, R107: an accepted READING ends the transaction as a reply; one that fails a test ends the exchange as no reply. -/
def takeReading (address rh : Nat) (temp : Int) (kind : Nat) (sensorError call checkGood : Bool) (x : Txn) (s : State) :
    State :=
  match acceptable x address rh temp kind sensorError call checkGood with
  | some d => proceed (takeReply address d s)
  | none => attemptFailed x s

/-- READING (R106, R107, R111, R113). -/
def execReading (address rh : Nat) (temp : Int) (kind : Nat) (sensorError call : Bool) (s : State)
    (checkGood : Bool := true) : Host.Outcome State Fault Refusal :=
  .next (whenRunning (inExchange (takeReading address rh temp kind sensorError call checkGood)) s)

/-- R106, R107: a WAIT accepted: the first three of an attempt bring a further POLL 50 ms after the window closes, and the
fourth ends the attempt; a WAIT that fails a test ends the exchange as no reply. The transaction's milliseconds go on from
the start of its POLL. -/
def takeWait (address : Nat) (checkGood : Bool) (x : Txn) (s : State) : State :=
  if checkGood = true ∧ x.address = address ∧ x.waits < 3 then setTxn { x with waits := x.waits + 1, phase := .gap } s
  else attemptFailed x s

/-- WAIT (R106, R107). -/
def execWait (address : Nat) (s : State) (checkGood : Bool := true) : Host.Outcome State Fault Refusal :=
  .next (whenRunning (inExchange (takeWait address checkGood)) s)

/-- R106: the window of an open exchange closes: no reply. -/
def closeWindow (s : State) : State := inExchange attemptFailed s

/-- REPLY_WINDOW_CLOSE (R106, R107, R112). -/
def execReplyWindowClose (s : State) : Host.Outcome State Fault Refusal := .next (whenRunning closeWindow s)

/-- A phase that ends with the POLL due. -/
def endPhase (ph : TxnPhase) (s : State) : State :=
  match s.line.txn with
  | some x => if x.phase = ph then setTxn (x.into .due) s else s
  | none => s

/-- WAIT_GAP_END (R107). -/
def execWaitGapEnd (s : State) : Host.Outcome State Fault Refusal := .next (whenRunning (endPhase .gap) s)

/-- R108: a readback mismatch: the line rests, the same exchange is made again after it, and the conflict counts. -/
def pollConflict (s : State) : State :=
  match s.line.txn with
  | some x => if x.phase = .exchange ∨ x.phase = .due then addConflict (setTxn (x.into .rest) s) else s
  | none => s

/-- LINE_CONFLICT (R108, R117). -/
def execLineConflict (s : State) : Host.Outcome State Fault Refusal := .next (whenRunning pollConflict s)

/-- R106: a node holds the powered line low. -/
def holdLow (s : State) : State := s.setLine { s.line with heldLow := s.line.heldLow || s.line.state != .off }

/-- LINE_HELD_LOW_TIMEOUT (R108, R117). -/
def execLineHeldLowTimeout (s : State) : Host.Outcome State Fault Refusal :=
  .next (whenRunning (fun s => addConflict (holdLow s)) s)

/-- CONFLICT_REST_END (R108). -/
def execConflictRestEnd (s : State) : Host.Outcome State Fault Refusal := .next (whenRunning (endPhase .rest) s)

/-- R117: a suspension ends. -/
def endSuspension (s : State) : State :=
  if s.line.state = .fault then s.setLine { s.line with state := .active, suspension := 0, cycleDue := true } else s

/-- SUSPENSION_END (R117). -/
def execSuspensionEnd (s : State) : Host.Outcome State Fault Refusal := .next (whenRunning endSuspension s)

/-- R106, R115: a call pulse, while no exchange is in flight and the line is not OFF: a node holds the line low, and call
pending is set. A pulse in the settling time, when the line is OFF with its power applied again (R118), is disregarded
(DESIGN CHOICE: assumption 36). -/
def callPulse (s : State) : State :=
  if s.line.state ≠ .off ∧ (s.line.txn.map (·.phase)) ≠ some .exchange then
    s.setLine { s.line with callPending := true, heldLow := true }
  else s

/-- CALL_PULSE (R115). -/
def execCallPulse (s : State) : Host.Outcome State Fault Refusal := .next (whenRunning callPulse s)

/-- DISCOVERY_TIMER_EXPIRY (R113): the timer stands at 86 400 and discovery pending is set. -/
def execDiscoveryTimerExpiry (s : State) : Host.Outcome State Fault Refusal :=
  .next (whenRunning (fun s => s.setLine { s.line with discTimer := 86400, discPending := true }) s)

/-- R118: an overcurrent of the powered line. -/
def overcurrent (s : State) : State :=
  if s.line.powered then
    raise .lineFault <| s.setLine
      { abandonJob s.line with
        state := .off, powered := false, heldLow := false, suspension := 0, restart := 60, lineMs := 0 }
  else s

/-- OVERCURRENT (R118). -/
def execOvercurrent (s : State) : Host.Outcome State Fault Refusal := .next (whenRunning overcurrent s)

/-- R118: power is applied again, for the settling time. -/
def restartLine (s : State) : State :=
  if s.line.state = .off ∧ s.line.powered = false then
    s.setLine { s.line with powered := true, restart := 0, lineMs := 0 }
  else s

/-- LINE_RESTART (R118). -/
def execLineRestart (s : State) : Host.Outcome State Fault Refusal := .next (whenRunning restartLine s)

/-- R118: the settling time ends. -/
def settleLine (s : State) : State :=
  if s.line.state = .off ∧ s.line.powered = true then
    s.setLine { s.line with state := .active, conflicts := 0, cycleDue := true }
  else s

/-- LINE_SETTLE_END (R118). -/
def execLineSettleEnd (s : State) : Host.Outcome State Fault Refusal := .next (whenRunning settleLine s)

/-- R114: DISCOVER's owner. -/
def ownDiscover (s : State) : Answer × State :=
  if s.line.job = .discovery ∨ s.line.discPending = true then refuse .notNow s
  else ok (s.setLine { s.line with discPending := true })

/-- DISCOVER (R114). -/
def execDiscover (tag : Byte) (s : State) : Host.Outcome State Fault Refusal :=
  .next (whenRunning (hostRequest tag .discover ownDiscover) s)

/-- R119: an existing row pinned, each of its origin and kind changed where it differs, each change asking for a save (R168).
The origin changes first (DESIGN CHOICE: assumption 41). -/
def pinRow (p : Nat) (r : NodeRow) (k : RoomKind) (s : State) : State :=
  let a := if r.origin = .pinned then s else askSave (bumpNodes (putRow p { r with origin := .pinned } s))
  if r.kind = k then a
  else askSave (rekindRoom r.room k (bumpNodes (putRow p { r with origin := .pinned, kind := k } a)))

/-- R119: NODE_PIN's owner; the first case that applies decides. -/
def ownNodePin (address room kind : Byte) (s : State) : Answer × State :=
  match RoomKind.ofCode kind.toNat with
  | none => refuse .badValue s
  | some k =>
    let a := address.toNat
    let m := room.toNat
    if a = 0 ∨ 30 < a ∨ m = 0 ∨ 6 < m then refuse .badValue s
    else match rowOf s.nodes a, findRow s.nodes fun r => r.room == m with
      | some (p, r), _ => if r.room = m then ok (pinRow p r k s) else refuse .duplicate s
      | none, some _ => refuse .duplicate s
      | none, none =>
        match emptyPos s.nodes with
        | none => refuse .tableFull s
        | some p => ok (askSave (createRow p (.unheard a m k) s))

/-- NODE_PIN (R119). -/
def execNodePin (tag address room kind : Byte) (s : State) : Host.Outcome State Fault Refusal :=
  .next (whenRunning (hostRequest tag (.nodePin address room kind) (ownNodePin address room kind)) s)

/-- R120: a PINNED row made LEARNED, and removed if it is LOST. Each of the two changes of the table asks for a save (R168), and
each raises the change count (DEDUCED: assumption 24). -/
def unpinRow (p : Nat) (r : NodeRow) (s : State) : State :=
  let a := askSave (bumpNodes (putRow p { r with origin := .learned } s))
  if r.presence = .lost then askSave (removeRow p r a) else a

/-- R120: NODE_UNPIN's owner. -/
def ownNodeUnpin (address : Byte) (s : State) : Answer × State :=
  if address.toNat = 0 ∨ 30 < address.toNat then refuse .badValue s
  else match rowOf s.nodes address.toNat with
    | none => refuse .noSuch s
    | some (p, r) => if r.origin = .pinned then ok (unpinRow p r s) else ok s

/-- NODE_UNPIN (R120). -/
def execNodeUnpin (tag address : Byte) (s : State) : Host.Outcome State Fault Refusal :=
  .next (whenRunning (hostRequest tag (.nodeUnpin address) (ownNodeUnpin address)) s)

/-- R121: NODE_FORGET's owner. -/
def ownNodeForget (address : Byte) (s : State) : Answer × State :=
  if address.toNat = 0 ∨ 30 < address.toNat then refuse .badValue s
  else match rowOf s.nodes address.toNat with
    | none => refuse .noSuch s
    | some (p, r) => ok (askSave (removeRow p r s))

/-- NODE_FORGET (R121). -/
def execNodeForget (tag address : Byte) (s : State) : Host.Outcome State Fault Refusal :=
  .next (whenRunning (hostRequest tag (.nodeForget address) (ownNodeForget address)) s)

/-- R124: GET_NODES's owner. -/
def ownGetNodes (first : Byte) (s : State) : Answer × State :=
  if first.toNat = 0 ∨ 6 < first.toNat then refuse .badValue s
  else report (encodeLine s.line ++
    (((positions.drop (first.toNat - 1)).take 3).map fun p => encodeRow (rowAt s.nodes p)).flatten) s

/-- GET_NODES (R124). -/
def execGetNodes (tag first : Byte) (s : State) : Host.Outcome State Fault Refusal :=
  .next (whenRunning (hostRequest tag (.getNodes first) (ownGetNodes first)) s)

end Sys2Proof.Machine
end

