-- ==== Sys2Proof/Machine/StartUp.lean ====
section
/-! DEFINITION. Resets and start-up (10, R170 and R171), with the reset values of every block. -/

namespace Sys2Proof.Machine

/-! ### Loading the store (R171, step 1) -/

/-- The image a reset leaves: a write in progress is cut short and leaves a bad one (R166, R170). -/
def imageAfterReset (x : Store) : Option Image := if x.writing.isSome then none else x.image

/-- R103: a filter record loaded from what is stored of it. -/
def loadFilter (x : Settings) (f : StoredFilter) : FilterRecord :=
  let g : FilterRecord :=
    { FilterRecord.default x.qRated with
      state := f.state, rf0 := f.rf0, rAvg := f.rAvg
      loading := match f.rf0, f.rAvg with
        | some r0, some a => some (loadingOf a r0)
        | _, _ => none
      dose := f.dose, hours := f.hours }
  { g with ceiling := ceilingOf x g }

/-- R102: the default stored fields of a filter record. -/
def StoredFilter.default : StoredFilter := ⟨.unknown, none, none, 0, 0⟩

/-- R171, step 1: what a bad image gives. -/
def Image.default : Image := ⟨.default, ⟨.default, .default⟩, none, .replicate 6 none⟩

/-- R123: a stored row loaded into its position. -/
def loadRow (r : Option StoredRow) : Option NodeRow := r.map fun x => .unheard x.address x.room x.kind

/-- R144: the record of a room 1..6, bound where a loaded row holds the room. -/
def loadRoom (rows : List (Option StoredRow)) (room : Nat) : RoomRecord :=
  match rows.findSome? fun r => r.bind fun x => if x.room = room then some x.kind else none with
  | some k => .ofKind k
  | none => .unbound

/-- R144: the room records after reset. -/
def loadRooms (rows : Vector (Option StoredRow) 6) : Vector RoomRecord 7 :=
  ⟨⟨.ofKind .house :: [1, 2, 3, 4, 5, 6].map (loadRoom rows.toList)⟩, by simp⟩

/-- R51: the HOST_BASE level start-up places. -/
def baseLevel (x : Settings) : Nat := min x.demandBase x.qRated

/-! ### Reset values -/

/-- The reset values of every block, with the contents the store gives (R16, R40, R51, R61, R87, R103, R123, R144, R155,
R164, R165, R170): start-up's first step has loaded the store, and its second, the first scan, is still to come. `image` is
what the store holds. -/
def blank (power : Power) (resetLine : Bool) (cause : ResetCause) (image : Option Image) (pending : List Instr) : State :=
  let i := image.getD .default
  { power := power
    startingUp := true
    fansOffAt := 0
    resetLine := resetLine
    cause := cause
    clock := 0
    settings := i.settings
    seq := .reset i.settings.cal
    fans := ⟨.reset, .reset⟩
    demand := .reset (baseLevel i.settings)
    res := .reset i.settings.aNormal
    frost := .reset i.rx0 i.settings.aNormal
    filters := ⟨loadFilter i.settings i.filters.supply, loadFilter i.settings i.filters.extract⟩
    line := .reset
    nodes := mapVec loadRow i.rows
    rooms := loadRooms i.rows
    sessions := []
    sessionChange := 0
    mode := .reset
    superv := .reset i.settings.supervisionInterval
    link := .reset
    events := 0#30
    mask := BitVec.allOnes 30
    store :=
      { image := image, committed := i.settings, writing := none, writeMs := 0, releases := false
        savePending := false, commitPending := false, fanRunning := 0, completed := 0, imageGood := image.isSome
        closed := false }
    pending := pending }

/-- R51, R171, step 5: HOST_BASE placed, which raises no change count; the AIRING and FALLBACK entries of a mode and a
supervision that step 6 sets anew are gone. -/
def placeBase (x : Settings) (d : DemandTable) : DemandTable :=
  { d with hostBase := .base (baseLevel x), airing := none, fallback := none }

/-- R171, steps 3 to 6, less the first resolution: both fans OFF, the frost record at its reset values, HOST_BASE placed,
mode RUN and supervision. What a command changed elsewhere during the first scan stays (assumption 5). -/
def settleBlocks (s : State) : State :=
  { s with
    startingUp := false
    fansOffAt := s.clock
    fans := ⟨.reset, .reset⟩
    frost := .reset s.frost.rx0 s.settings.aNormal
    demand := placeBase s.settings s.demand
    mode := .reset
    superv := .reset s.settings.supervisionInterval
    sessions := s.sessions.map fun x => { x with held := false } }

/-- R171, steps 3 to 8: what follows the first scan. Setting RUN starts the first resolution (R61), RESET_DONE and, for a bad
image, SETTINGS_LOST are raised, and discovery pending is set. -/
def finishStartUp (s : State) : State :=
  let a := raiseIf (!s.store.imageGood) .settingsLost (raise .resetDone (resolve (settleBlocks s)))
  a.setLine { a.line with discPending := true }

/-- R170, R171: a reset of a cause, and the first step of the start-up that follows. The reset input is released; the queue
of commands is no part of the part and is kept. The first scan is the first SCAN_START with its conversions, and
`finishStartUp` follows its last (assumption 5). -/
def startUp (cause : ResetCause) (s : State) : State :=
  blank .running false cause (imageAfterReset s.store) s.pending

/-- R170: the part in reset while its input is held, for a cause: every block at its reset values, nothing raised, the alert
line released (R164). -/
def holdReset (cause : ResetCause) (s : State) : State := blank .held true cause (imageAfterReset s.store) s.pending

/-- Power fails: nothing but the store is kept (R170). -/
def losePower (s : State) : State := blank .unpowered s.resetLine s.cause (imageAfterReset s.store) s.pending

/-- Power applied or returned: a reset with the cause POWER_ON, which is held while the reset input is asserted (R170). -/
def applyPower (s : State) : State :=
  if s.resetLine then holdReset .powerOn s else startUp .powerOn s

/-- The reset input asserted: a running part resets with the cause RESET_LINE and is held; a part that is in reset already,
or has no power, takes the input's level alone (R170; assumption 11). -/
def assertReset (s : State) : State :=
  if s.power = .running then holdReset .resetLine s else { s with resetLine := true }

/-- The reset input released: a part held in reset starts up, with the cause of the reset that began last (R170). -/
def releaseReset (s : State) : State :=
  if s.power = .held then startUp s.cause s else { s with resetLine := false }

/-! ### Meanings -/

/-- POWER_ON (R170, R171). -/
def execPowerOn (s : State) : Host.Outcome State Fault Refusal := .next (applyPower s)

/-- RESET_LINE_ASSERT (R170). -/
def execResetLineAssert (s : State) : Host.Outcome State Fault Refusal := .next (assertReset s)

/-- RESET_LINE_RELEASE (R170, R171). -/
def execResetLineRelease (s : State) : Host.Outcome State Fault Refusal := .next (releaseReset s)

/-- POWER_FAIL (R12, R166, R170). -/
def execPowerFail (s : State) : Host.Outcome State Fault Refusal := .next (losePower s)

end Sys2Proof.Machine
end

