-- ==== Sys2Proof/Machine/LinkRows.lean ====
section
/-! DEFINITION. The service link's receiver and transmit line, and the event set's and the link's own requests (09, 11). -/

namespace Sys2Proof.Machine

/-! ### The receiver (R157, R158) -/

/-- The receiver back in HUNTING. -/
def Link.hunt (l : Link) : Link := { l with rx := .hunting, len := 0, body := [] }

/-- R157: a byte taken in the receiver's state; the bytes that complete a frame or make a length error have commands of
their own and change nothing here. -/
def Link.take (b : Byte) (l : Link) : Link :=
  match l.rx with
  | .hunting => if b = 0x5A#8 then { l with rx := .length, afterSilence := decide (1000 ≤ l.silence), silence := 0 }
      else { l with silence := 0 }
  | .length =>
    if 2 ≤ b.toNat ∧ b.toNat ≤ 48 then { l with rx := .body, len := b.toNat, body := [], silence := 0 } else l
  | .body =>
    { l with body := l.body ++ [b], rx := if l.len ≤ l.body.length + 1 then .check else .body, silence := 0 }
  | .check => l

/-- BYTE_RECEIVED (R157). -/
def execByteReceived (b : Byte) (s : State) : Host.Outcome State Fault Refusal :=
  .next (whenRunning (fun s => s.setLink (s.link.take b)) s)

/-- R157: whether a check byte makes the frame in CHECK good. -/
def Link.goodCheck (check : Byte) (l : Link) : Bool := BitVec.ofNat 8 l.len + byteSum l.body + check == 0#8

/-- R161: a request enters the slot, checked for kind and length. -/
def enterSlot (kind tag : Byte) (payload : List Byte) (s : State) : State :=
  match decodeRequest kind.toNat payload with
  | .refuse r => reply kind tag none r [] s
  | .request q => s.setLink { s.link with slot := some ⟨tag, kind, some q, .waiting⟩ }

/-- R159: a good frame's body placed. -/
def placeBody (body : List Byte) (s : State) : State :=
  match body with
  | kind :: tag :: payload => place kind tag (enterSlot kind tag payload) s
  | _ => s

/-- R157, R159: the check byte completes a good frame. -/
def goodFrame (check : Byte) (s : State) : State :=
  if s.link.rx = .check ∧ s.link.goodCheck check = true then
    placeBody s.link.body (acceptFrame (s.setLink { s.link.hunt with silence := 0 }))
  else s

/-- GOOD_FRAME (R157, R159 to R161). -/
def execGoodFrame (check : Byte) (s : State) : Host.Outcome State Fault Refusal :=
  .next (whenRunning (goodFrame check) s)

/-- R157: the check byte completes a frame that is not good, which is dropped and counted. -/
def badFrame (check : Byte) (s : State) : State :=
  if s.link.rx = .check ∧ s.link.goodCheck check = false then
    s.setLink { s.link.hunt with
      silence := 0, counters := { s.link.counters with checkErrors := sat16 s.link.counters.checkErrors } }
  else s

/-- BAD_CHECK_FRAME (R157). -/
def execBadCheckFrame (check : Byte) (s : State) : Host.Outcome State Fault Refusal :=
  .next (whenRunning (badFrame check) s)

/-- R157: a length byte outside 2..48 abandons the frame. -/
def badLength (b : Byte) (s : State) : State :=
  if s.link.rx = .length ∧ (b.toNat < 2 ∨ 48 < b.toNat) then
    s.setLink { s.link.hunt with
      silence := 0, counters := { s.link.counters with lengthErrors := sat16 s.link.counters.lengthErrors } }
  else s

/-- LENGTH_ERROR (R157). -/
def execLengthError (b : Byte) (s : State) : Host.Outcome State Fault Refusal := .next (whenRunning (badLength b) s)

/-- R158: 10 ms without a byte abandon a frame in progress. -/
def gapAbandon (s : State) : State :=
  if s.link.rx = .hunting then s
  else s.setLink { s.link.hunt with
    counters := { s.link.counters with gapAbandons := sat16 s.link.counters.gapAbandons } }

/-- INTER_BYTE_GAP (R158). -/
def execInterByteGap (s : State) : Host.Outcome State Fault Refusal := .next (whenRunning gapAbandon s)

/-- LINE_ERROR_BYTE (R158): a byte with a framing error is counted and abandons a frame in progress. -/
def execLineErrorByte (s : State) : Host.Outcome State Fault Refusal :=
  .next (whenRunning (fun s => s.setLink { s.link.hunt with
    silence := 0, counters := { s.link.counters with lineErrors := sat16 s.link.counters.lineErrors } }) s)

/-! ### The transmit line (R162) -/

/-- R159, R162: the first frame of the queue has left. The slot empties after its reply; the OK reply to an accepted
RESET_PART resets the part. -/
def frameSent (s : State) : State :=
  match s.link.tx with
  | [] => s
  | fr :: rest =>
    let a := s.setLink { s.link with tx := rest, txMs := 0 }
    match fr.cls with
    | .slotReply => if s.store.closed then startUp .command a else a.setLink { a.link with slot := none }
    | .answer => a
    | .notice => a

/-- FRAME_SENT (R159, R162, R170). -/
def execFrameSent (s : State) : Host.Outcome State Fault Refusal := .next (whenRunning frameSent s)

/-! ### Requests of the event set and of the link -/

/-- R163: GET_EVENTS's owner: the thirty flags, read and cleared. -/
def ownGetEvents (s : State) : Answer × State := (.now .ok (u32 s.events.toNat), { s with events := 0#30 })

/-- GET_EVENTS (R163). -/
def execGetEvents (tag : Byte) (s : State) : Host.Outcome State Fault Refusal :=
  .next (whenRunning (hostRequest tag .getEvents ownGetEvents) s)

/-- R164: SET_EVENT_MASK's owner. -/
def ownSetEventMask (mask : BitVec 32) (s : State) : Answer × State :=
  if mask.toNat < 2 ^ 30 then (.now .ok (u32 mask.toNat), { s with mask := mask.setWidth 30 }) else refuse .badValue s

/-- SET_EVENT_MASK (R164). -/
def execSetEventMask (tag : Byte) (mask : BitVec 32) (s : State) : Host.Outcome State Fault Refusal :=
  .next (whenRunning (hostRequest tag (.setEventMask mask) (ownSetEventMask mask)) s)

/-- R165: PING's owner. -/
def ownPing (s : State) : Answer × State :=
  report (u16 Config.partNumber ++ u8 Config.revision ++ u8 s.cause.code ++ u32 s.uptime) s

/-- PING (R165). -/
def execPing (tag : Byte) (s : State) : Host.Outcome State Fault Refusal :=
  .next (whenRunning (hostRequest tag .ping ownPing) s)

/-- R17, R174: page 0. -/
def statusChannels (s : State) : List Byte :=
  (s.seq.published.toList.map encodeChannel).flatten ++ u8 s.seq.supplyLow.toNat

/-- R156, R165, R170, R174: page 1. -/
def statusPart (s : State) : List Byte :=
  u8 s.cause.code ++ u32 s.uptime ++ u8 s.mode.mode.code ++ u16 s.mode.elapsed ++ u16Opt s.mode.nextAiring ++
    u16 s.mode.airing ++ u8 s.superv.state.code ++ u16 s.superv.silence ++ u8 s.superv.probes ++ u8 s.alertLow.toNat ++
    u8 s.store.writing.isSome.toNat ++ u8 (flagByte [s.store.savePending, s.store.imageGood]) ++ u16 s.store.completed

/-- R174: page 2. -/
def statusLink (s : State) : List Byte :=
  let c := s.link.counters
  u16 c.good ++ u16 c.checkErrors ++ u16 c.gapAbandons ++ u16 c.lengthErrors ++ u16 c.lineErrors ++ u16 c.busy ++
    u16 c.waking ++ u16 c.repliesLost

/-- R174: GET_STATUS's owner. -/
def ownGetStatus (page : Byte) (s : State) : Answer × State :=
  if page = 0 then report (u8 0 ++ statusChannels s) s
  else if page = 1 then report (u8 1 ++ statusPart s) s
  else if page = 2 then report (u8 2 ++ statusLink s) s
  else refuse .badValue s

/-- GET_STATUS (R17, R156, R165, R170, R174). -/
def execGetStatus (tag page : Byte) (s : State) : Host.Outcome State Fault Refusal :=
  .next (whenRunning (hostRequest tag (.getStatus page) (ownGetStatus page)) s)

end Sys2Proof.Machine
end

