-- ==== Sys2Proof/Machine/Measurement.lean ====
section
/-! DEFINITION. Measurement channels (01): scans, conversions, filtering, publication, SUPPLY_LOW and the brownout. -/

namespace Sys2Proof.Machine

/-! ### Conversion -/

/-- R2: a code's class; a good conversion has no fault kind. -/
def classify (raw : Nat) : FaultKind := if raw < 16 then .openFault else if 4080 ≤ raw then .shortFault else .noFault

/-- R3: a good code converted through the temperature table. -/
def convertTemp (t : List Int) (raw : Nat) : Int :=
  let i := raw / 256
  let t0 := t.getD i 0
  let t1 := t.getD (i + 1) 0
  let width : Int := if i = 15 then 255 else 256
  clampI (t0 + quot (((raw : Int) - 256 * i) * (t1 - t0)) width) (-400) 800

/-- R4: a good code converted by a linear calibration, clamped to the channel's range 0..high. -/
def convertLin (c : LinCal) (high : Int) (raw : Nat) : Int := clampI (((raw * c.gain / 4096 : Nat) : Int) + c.offset) 0 high

/-- R3, R4: a good code converted on its channel. -/
def convert (c : Calibration) (ch : Channel) (raw : Nat) : Int :=
  match ch with
  | .tOut => convertTemp c.temps raw
  | .tPre => convertTemp c.temps raw
  | .tSup => convertTemp c.temps raw
  | .tExt => convertTemp c.temps raw
  | .tExh => convertTemp c.temps raw
  | .rhExt => convertLin c.rhExt 1000 raw
  | .dpFs => convertLin c.dpFs 5000 raw
  | .dpFe => convertLin c.dpFe 5000 raw
  | .dpXs => convertLin c.dpXs 5000 raw
  | .dpXe => convertLin c.dpXe 5000 raw
  | .vSupply => convertLin c.vSupply 400 raw

/-- R5: the divisor of a channel's filter weight; V_SUPPLY is not filtered. -/
def filterDivisor : Channel → Int
  | .dpFs => 8
  | .dpFe => 8
  | .dpXs => 8
  | .dpXe => 8
  | .vSupply => 1
  | _ => 4

/-- R5: a filtered value moved toward a value by the filter weight; at a divisor of 1 it takes the value. -/
def filterToward (ch : Channel) (filtered value : Int) : Int := filtered + quot (value - filtered) (filterDivisor ch)

/-- R6: the filtered value of a good conversion: filtered from VALID or HELD, seeded from INVALID. -/
def filteredAfter (ch : Channel) (value : Int) (r : ChannelRecord) : Int :=
  match r.validity, r.filtered with
  | .invalid, _ => value
  | _, some f => filterToward ch f value
  | _, none => value

/-- R6: a good conversion on a record. -/
def goodConversion (ch : Channel) (raw : Nat) (value : Int) (r : ChannelRecord) : ChannelRecord :=
  { raw := raw, engineering := some value, filtered := some (filteredAfter ch value r), validity := .valid
    faultKind := .noFault, faultCount := 0 }

/-- R6: a good conversion restores the channel. -/
def restores (r : ChannelRecord) : Bool := r.validity == .invalid && r.faultCount == 3

/-- R7: a faulty conversion on a record. -/
def faultyConversion (raw : Nat) (k : FaultKind) (r : ChannelRecord) : ChannelRecord :=
  let n := min (r.faultCount + 1) 3
  { r with
    raw := raw
    faultKind := k
    faultCount := n
    validity := if r.validity = .invalid ∨ r.filtered.isNone = true ∨ n = 3 then .invalid else .held }

/-- R7: a faulty conversion is the third of a run. -/
def faults (r : ChannelRecord) : Bool := r.faultCount == 2

/-! ### The scan -/

/-- The channel after this one in scan order (R1). -/
def Channel.succ : Channel → Option Channel
  | .tOut => some .tPre
  | .tPre => some .tSup
  | .tSup => some .tExt
  | .tExt => some .tExh
  | .tExh => some .rhExt
  | .rhExt => some .dpFs
  | .dpFs => some .dpFe
  | .dpFe => some .dpXs
  | .dpXs => some .dpXe
  | .dpXe => some .vSupply
  | .vSupply => none

/-- R1, R9: a scan begins: the working copy and the calibration are taken. No scan begins while one is under way. -/
def scanStart (s : State) : State :=
  match s.seq.next with
  | some _ => s
  | none =>
    { s with seq :=
      { s.seq with working := s.seq.published, cal := s.settings.cal, next := some .tOut, faultRaised := false
                   restoredRaised := false } }

/-- R2, R6, R7: a code taken into the working record of a channel. -/
def convertChannel (ch : Channel) (raw : Nat) (q : Sequencer) : Sequencer :=
  let r := q.working.get ch
  match classify raw with
  | .noFault =>
    { q with working := q.working.set ch (goodConversion ch raw (convert q.cal ch raw) r)
             restoredRaised := q.restoredRaised || restores r }
  | k => { q with working := q.working.set ch (faultyConversion raw k r), faultRaised := q.faultRaised || faults r }

/-- R13, R14: SUPPLY_LOW and its recovery count at a publication, for a good V_SUPPLY value. -/
def supplyLowStep (v : Int) (q : Sequencer) : Sequencer :=
  if v < Config.railLow then { q with supplyLow := true, recovery := 0 }
  else if q.supplyLow = false then q
  else if v < Config.railRecovered then { q with recovery := 0 }
  else if 10 ≤ q.recovery + 1 then { q with supplyLow := false, recovery := 0 }
  else { q with recovery := q.recovery + 1 }

/-- R13, R14: SUPPLY_LOW at a publication; a faulty V_SUPPLY conversion changes nothing. -/
def supplyLowUpdate (q : Sequencer) : Sequencer :=
  match q.published.vSupply.faultKind, q.published.vSupply.engineering with
  | .noFault, some v => supplyLowStep v q
  | _, _ => q

/-- R13, R14, R84: SUPPLY_LOW updated, its event raised where it starts, and the change handed to the preheater
interlock. -/
def updateSupplyLow (s : State) : State :=
  let q := supplyLowUpdate s.seq
  let a := { s with seq := q }
  if q.supplyLow = s.seq.supplyLow then a else preheatCheck (raiseIf q.supplyLow .supplyLow a)

/-- R1, R8: the publication. -/
def publish (s : State) : State :=
  let a := { s with seq := { s.seq with published := s.seq.working, next := none } }
  updateSupplyLow (raiseIf s.seq.restoredRaised .sensorRestored (raiseIf s.seq.faultRaised .sensorFault a))

/-- R8, R24, R63: a publication's scan-complete arrivals, at the fan channels and the frost controller. -/
def scanArrivals (s : State) : State := (frostEvaluate (formEstimate .extract (formEstimate .supply s))).1

/-- R8, R171: a publication and its scan-complete arrivals; those of the first scan are held until start-up has taken its
steps 3 to 8. -/
def completeScan (s : State) : State :=
  scanArrivals (if s.startingUp then finishStartUp (publish s) else publish s)

/-- R15: the scan's V_SUPPLY conversion is good and its value below the brownout level. -/
def brownout (r : ChannelRecord) : Bool :=
  r.faultKind == .noFault && (match r.engineering with
    | some v => decide (v < Config.railBrownout)
    | none => false)

/-- R1, R2, R15: a conversion of the channel in turn. -/
def takeConversion (raw : Nat) (s : State) : State :=
  match s.seq.next with
  | none => s
  | some ch =>
    let a := { s with seq := { convertChannel ch raw s.seq with next := ch.succ } }
    match ch with
    | .vSupply => if brownout a.seq.working.vSupply then startUp .brownout a else completeScan a
    | _ => a

/-! ### Meanings -/

/-- SCAN_START (R1, R9). -/
def execScanStart (s : State) : Host.Outcome State Fault Refusal := .next (whenRunning scanStart s)

/-- CONVERSION (R2 to R8, R13 to R15); between scans no conversion is made. -/
def execConversion (raw : Nat) (s : State) : Host.Outcome State Fault Refusal :=
  .next (whenRunning (takeConversion raw) s)

/-- R14: the publication at which the recovery count reaches 10. -/
def recoverSupply (s : State) : State :=
  if s.seq.supplyLow = true ∧ (supplyLowUpdate s.seq).supplyLow = false then updateSupplyLow s else s

/-- SUPPLY_LOW_RECOVERY (R14). -/
def execSupplyLowRecovery (s : State) : Host.Outcome State Fault Refusal := .next (whenRunning recoverSupply s)

end Sys2Proof.Machine
end

