-- ==== Sys2Proof/Machine/Modes.lean ====
section
/-! DEFINITION. Operating modes, airing bursts and the supervision of the host (08). -/

namespace Sys2Proof.Machine

/-! ### Modes and standby -/

/-- R145: a change of mode handed to the resolver. -/
def changeMode (m : Mode) (s : State) : State := resolve { s with mode := { s.mode with mode := m } }

/-- R148: the airing interval as scheduling takes it: halved in a house that is damp or that the part cannot see into. -/
def airingWait (interval : Nat) (rh : ChannelRecord) : Nat :=
  if rh.validity = .invalid ∨ 650 ≤ rh.filtered.getD 0 then interval / 2 else interval

/-- R148: the next airing burst scheduled. -/
def scheduleAiring (s : State) : State :=
  { s with mode :=
    { s.mode with nextAiring := some (airingWait s.settings.airingInterval s.seq.published.rhExt) } }

/-- Both fans are OFF. -/
def bothOff (s : State) : Bool := s.fans.supply.state == .off && s.fans.extract.state == .off

/-- R147: STANDBY begins. -/
def beginStandby (s : State) : State :=
  changeMode .standby (raise .modeChanged
    (scheduleAiring { s with mode := { s.mode with elapsed := 0, airing := 0 } }))

/-- R147: STANDBY_ENTRY entered; with both fans OFF, STANDBY begins in the same handling. -/
def enterStandby (s : State) : State :=
  let a := holdSessions (changeMode .standbyEntry s)
  if bothOff a then beginStandby a else a

/-- R149, R150: a live burst ends: its entry is removed. -/
def endBurst (s : State) : State :=
  writeDemand (fun d => { d with airing := none }) { s with mode := { s.mode with airing := 0 } }

/-- R150: STANDBY left, in its order. -/
def leaveStandby (m : Mode) (s : State) : State :=
  let a := if 0 < s.mode.airing then endBurst s else s
  unholdSessions (changeMode m { a with mode := { a.mode with nextAiring := none, elapsed := 0 } })

/-- R148: an airing burst starts, and the next is scheduled. -/
def startBurst (s : State) : State :=
  scheduleAiring
    (writeDemand (fun d => { d with airing := some ⟨s.settings.qAiring, none, false, s.uptime, 0⟩ })
      { s with mode := { s.mode with airing := 600 } })

/-! ### The mode step (R145) -/

/-- What came about in a mode step. -/
inductive ModeMark where
  | probingStart | alive | hostLost | standbyBegin | standbyLimit | burstStart | burstEnd
deriving DecidableEq, Repr

/-- R153: the host declared lost. -/
def declareLost (s : State) : State :=
  raise .hostLost
    { writeDemand (fun d => { d with fallback := some ⟨s.settings.qFallback, none, false, s.uptime, 0⟩ }) s with
      superv := { s.superv with state := .lost } }

/-- R152: the step's work of supervision. -/
def superviseStep (s : State) : State × List ModeMark :=
  match s.superv.state with
  | .ok =>
    if s.settings.supervisionInterval ≤ s.superv.silence + 1 then
      (enqueueAlive 1 { s with superv := ⟨.probing, s.superv.silence + 1, 1⟩ }, [.probingStart])
    else ({ s with superv := { s.superv with silence := s.superv.silence + 1 } }, [])
  | .probing =>
    if s.superv.probes < 3 then
      (enqueueAlive (s.superv.probes + 1) { s with superv := { s.superv with probes := s.superv.probes + 1 } }, [.alive])
    else (declareLost s, [.hostLost])
  | .lost => (s, [])
  | .off => (s, [])

/-- R148: the airing timers of a step in STANDBY with no burst live. -/
def waitStep (s : State) : State × List ModeMark :=
  match s.mode.nextAiring with
  | some n =>
    if n ≤ 1 then (startBurst { s with mode := { s.mode with nextAiring := some 0 } }, [.burstStart])
    else ({ s with mode := { s.mode with nextAiring := some (n - 1) } }, [])
  | none => (s, [])

/-- R148, R149: the airing timers of a step in STANDBY. -/
def airingStep (s : State) : State × List ModeMark :=
  if 0 < s.mode.airing then
    if s.mode.airing = 1 then (endBurst s, [.burstEnd])
    else ({ s with mode := { s.mode with airing := s.mode.airing - 1 } }, [])
  else waitStep s

/-- R150: the step's work in STANDBY. The standby count comes first: the step that reaches the limit does no airing work, and
a burst due at that very step does not start (DESIGN CHOICE: assumption 38). -/
def standbyStep (s : State) : State × List ModeMark :=
  let a := { s with mode := { s.mode with elapsed := s.mode.elapsed + 1 } }
  if 43200 ≤ a.mode.elapsed then (raise .modeChanged (leaveStandby .run a), [.standbyLimit]) else airingStep a

/-- R145: the step's work of the present mode. -/
def modeWork (s : State) : State × List ModeMark :=
  match s.mode.mode with
  | .standbyEntry => if bothOff s then (beginStandby s, [.standbyBegin]) else (s, [])
  | .standby => standbyStep s
  | .run => (s, [])
  | .quiet => (s, [])

/-- R145: the mode step, with what came about in it. Supervision's work comes before the mode's, so a notice built at a step
that begins or ends STANDBY carries the mode and the alert line from before it (DESIGN CHOICE: assumption 37). -/
def modeStep (s : State) : State × List ModeMark :=
  let a := superviseStep s
  let b := modeWork a.1
  (b.1, a.2 ++ b.2)

/-! ### Meanings -/

/-- R146: SET_MODE's reply carries the mode in force. -/
def modeReply (s : State) : Answer × State := (.now .ok (u8 s.mode.mode.code), s)

/-- R146: RUN or QUIET named. -/
def chooseRunning (m : Mode) (s : State) : State :=
  match s.mode.mode with
  | .standby => leaveStandby m s
  | .standbyEntry => unholdSessions (changeMode m s)
  | .run => if m = .run then s else changeMode m s
  | .quiet => if m = .quiet then s else changeMode m s

/-- R146: a fan is STARTING or RAMPING. -/
def fanUnsettled (s : State) : Bool :=
  s.fans.supply.state == .starting || s.fans.supply.state == .ramping || s.fans.extract.state == .starting ||
    s.fans.extract.state == .ramping

/-- R146: the frost stage is DEFROST, HOLD or LOCK. -/
def defrosting (s : State) : Bool :=
  s.frost.stage == .defrost || s.frost.stage == .hold || s.frost.stage == .lock

/-- R146: STANDBY named. -/
def chooseStandby (s : State) : Answer × State :=
  if s.mode.mode.inStandby then modeReply s
  else if fanUnsettled s then refuse .notNow s
  else if defrosting s then refuse .notNow s
  else modeReply (enterStandby s)

/-- R146: SET_MODE's owner. -/
def ownSetMode (mode : Byte) (s : State) : Answer × State :=
  match modeOf mode with
  | some .run => modeReply (chooseRunning .run s)
  | some .quiet => modeReply (chooseRunning .quiet s)
  | some .standby => chooseStandby s
  | _ => refuse .badValue s

/-- SET_MODE (R146). -/
def execSetMode (tag mode : Byte) (s : State) : Host.Outcome State Fault Refusal :=
  .next (whenRunning (hostRequest tag (.setMode mode) (ownSetMode mode)) s)

/-- MODE_STEP (R145). -/
def execModeStep (s : State) : Host.Outcome State Fault Refusal := .next (whenRunning (fun s => (modeStep s).1) s)

/-- STANDBY_BEGIN (R147): the mode step that finds both fans OFF in STANDBY_ENTRY. -/
def execStandbyBegin (s : State) : Host.Outcome State Fault Refusal :=
  .next (whenRunning (whenMarked .standbyBegin modeStep) s)

/-- AIRING_BURST_START (R148): the mode step at which next airing due reaches 0. -/
def execAiringBurstStart (s : State) : Host.Outcome State Fault Refusal :=
  .next (whenRunning (whenMarked .burstStart modeStep) s)

/-- AIRING_BURST_END (R149): the mode step at which airing remaining reaches 0. -/
def execAiringBurstEnd (s : State) : Host.Outcome State Fault Refusal :=
  .next (whenRunning (whenMarked .burstEnd modeStep) s)

/-- STANDBY_LIMIT (R150): the mode step at which standby elapsed reaches 43 200. -/
def execStandbyLimit (s : State) : Host.Outcome State Fault Refusal :=
  .next (whenRunning (whenMarked .standbyLimit modeStep) s)

/-- PROBING_START (R152): the mode step at which the silence timer reaches supervision_interval. -/
def execProbingStart (s : State) : Host.Outcome State Fault Refusal :=
  .next (whenRunning (whenMarked .probingStart modeStep) s)

/-- ALIVE (R152, R175): a mode step that sends a further notice. -/
def execAlive (s : State) : Host.Outcome State Fault Refusal := .next (whenRunning (whenMarked .alive modeStep) s)

/-- HOST_LOST (R153): the mode step that declares the host lost. -/
def execHostLost (s : State) : Host.Outcome State Fault Refusal :=
  .next (whenRunning (whenMarked .hostLost modeStep) s)

end Sys2Proof.Machine
end

