-- ==== Sys2Proof/Machine/SettingsStore.lean ====
section
/-! DEFINITION. The settings store (10): parameters, tables, saves, and the requests that end in a save or a reset. -/

namespace Sys2Proof.Machine

/-! ### Parameters (R167) -/

/-- A parameter's value as a reply carries it. -/
def Param.bytes (p : Param) (x : Settings) : List Byte := if p.signed then s16 (p.get x) else u16 (p.get x).toNat

/-- R20: the absence timer under a changed duty_min: it runs while the applied duty is at least duty_min. -/
def adjustAbsence (dutyMin : Nat) (f : FanRecord) : FanRecord :=
  { f with absence := if dutyMin ≤ f.applied then some (f.absence.getD 0) else none }

/-- R62, R99: what a change to q_rated or q_min_run starts: a resolution, and the ceilings formed anew. -/
def reformCeilings (s : State) : State := formCeiling .extract (formCeiling .supply (resolve s))

/-- R154: an accepted supervision_interval; the interval counts in full from it. -/
def superviseFor (interval : Nat) (x : Supervision) : Supervision :=
  if interval = 0 then ⟨.off, 0, 0⟩
  else match x.state with
    | .off => ⟨.ok, 0, 0⟩
    | .ok => { x with silence := 0 }
    | .probing => x
    | .lost => x

/-- R154: an accepted supervision_interval in force. Its own frame arrival has left the state OK or OFF; were the host LOST
(which only a request left waiting through many mode steps could meet), switching supervision off takes the FALLBACK entry
with it (assumption 9). -/
def setSupervision (s : State) : State :=
  let a := if s.settings.supervisionInterval = 0 ∧ s.superv.state = .lost
    then writeDemand (fun d => { d with fallback := none }) s else s
  { a with superv := superviseFor s.settings.supervisionInterval s.superv }

/-- What an accepted value does beside taking its place in the settings in force (R39, R62, R86, R99, R154); the other
parameters act where their rules read them. -/
def paramEffect (p : Param) (s : State) : State :=
  match p with
  | .dutyMin =>
    { s with fans := ⟨adjustAbsence s.settings.dutyMin s.fans.supply, adjustAbsence s.settings.dutyMin s.fans.extract⟩ }
  | .qRated => reformCeilings s
  | .qMinRun => reformCeilings s
  | .qQuiet => resolve s
  | .preheatFitted => if s.settings.preheatFitted then s else s.setFrost (s.frost.setDuty 0)
  | .supervisionInterval => setSupervision s
  | _ => s

/-- A parameter takes a value and acts. -/
def applyParam (p : Param) (v : Int) (s : State) : State := paramEffect p { s with settings := p.put v s.settings }

/-- R167: GET_PARAM's owner. -/
def ownGetParam (id : Byte) (s : State) : Answer × State :=
  match Param.ofId id.toNat with
  | some p => report (u8 id.toNat ++ p.bytes s.settings) s
  | none => refuse .badValue s

/-- GET_PARAM (R167). -/
def execGetParam (tag id : Byte) (s : State) : Host.Outcome State Fault Refusal :=
  .next (whenRunning (hostRequest tag (.getParam id) (ownGetParam id)) s)

/-- R11, R39, R62, R86, R104, R154, R167: an accepted SET_PARAM, its value clamped. -/
def acceptParam (p : Param) (id : Byte) (value : Half) (s : State) : Answer × State :=
  let v := p.read value
  let w := p.clamp v s.settings
  let t := applyParam p w s
  (.now (if w = v then .ok else .clamped) (u8 id.toNat ++ p.bytes t.settings), t)

/-- R167: SET_PARAM's owner. -/
def ownSetParam (id : Byte) (value : Half) (s : State) : Answer × State :=
  match Param.ofId id.toNat with
  | some .qFanMin => refuse .badValue s
  | some p => acceptParam p id value s
  | none => refuse .badValue s

/-- SET_PARAM (R167). -/
def execSetParam (tag id : Byte) (value : Half) (s : State) : Host.Outcome State Fault Refusal :=
  .next (whenRunning (hostRequest tag (.setParam id value) (ownSetParam id value)) s)

/-! ### Tables (R10, R25) -/

/-- R10: SET_TABLE's owner for the temperature table: an accepted table is pending until the next scan's start (R9). -/
def ownSetTableTemperature (points : List Half) (s : State) : Answer × State :=
  let t := points.map (·.toInt)
  if points.length ≠ 17 then refuse .badLength s
  else if tempTableOk t then
    ok { s with settings := { s.settings with cal := { s.settings.cal with temps := t } } }
  else refuse .badTable s

/-- SET_TABLE_TEMPERATURE (R9, R10). -/
def execSetTableTemperature (tag : Byte) (points : List Half) (s : State) : Host.Outcome State Fault Refusal :=
  .next (whenRunning (hostRequest tag (.setTableTemperature points) (ownSetTableTemperature points)) s)

/-- R25: SET_TABLE's owner for a feedforward table: an accepted table replaces the table in force at once. -/
def ownSetTableFeedforward (st : Stream) (points : List (Half × Half)) (s : State) : Answer × State :=
  let t : Feedforward := points.map fun p => (p.1.toNat, p.2.toNat)
  if points.length ≠ 8 then refuse .badLength s
  else if feedforwardOk t then
    ok { s with settings := { s.settings with feedforward := s.settings.feedforward.set st t } }
  else refuse .badTable s

/-- SET_TABLE_FEEDFORWARD (R25). -/
def execSetTableFeedforward (tag : Byte) (st : Stream) (points : List (Half × Half)) (s : State) :
    Host.Outcome State Fault Refusal :=
  .next (whenRunning (hostRequest tag (.setTableFeedforward st points) (ownSetTableFeedforward st points)) s)

/-! ### Saves (R168, R169) -/

/-- R169: the reply of the request whose save has completed joins the queue. -/
def releaseReply (s : State) : State :=
  match s.link.slot with
  | some x => if x.phase = .saving then reply x.kind x.tag x.request .ok [] s else s
  | none => s

/-- R168: a pending save starts. -/
def startPending (s : State) : State :=
  if s.store.savePending then startSave (s.setStore { s.store with savePending := false }) else s

/-- R168, R169: a write completes. -/
def writeComplete (s : State) : State :=
  match s.store.writing with
  | none => s
  | some image =>
    let a := s.setStore { s.store with
      image := some image, writing := none, writeMs := 0, completed := sat16 s.store.completed, releases := false }
    startPending (if s.store.releases then releaseReply a else a)

/-- SAVE_WRITE_COMPLETE (R168, R169). -/
def execSaveWriteComplete (s : State) : Host.Outcome State Fault Refusal := .next (whenRunning writeComplete s)

/-- FAN_RUNNING_HOUR (R168): the fan-running count would reach 3600. -/
def execFanRunningHour (s : State) : Host.Outcome State Fault Refusal :=
  .next (whenRunning (fun s => askSave (s.setStore { s.store with fanRunning := 0 })) s)

/-- R169: a request's own save is asked for. -/
def commitAndSave (s : State) : State := askSave (s.setStore { s.store with commitPending := true })

/-- R169: SAVE_SETTINGS's owner. -/
def ownSaveSettings (s : State) : Answer × State := (.afterSave, commitAndSave s)

/-- SAVE_SETTINGS (R169). -/
def execSaveSettings (tag : Byte) (s : State) : Host.Outcome State Fault Refusal :=
  .next (whenRunning (hostRequest tag .saveSettings ownSaveSettings) s)

/-- R169: a parameter returned to its default, as an accepted SET_PARAM of it would. One at its default is left (assumption
18), but for supervision_interval, which acts as an accepted SET_PARAM of it does whatever its value. -/
def restoreParam (s : State) (p : Param) : State :=
  if p.get s.settings = p.get .default ∧ p ≠ .supervisionInterval then s else applyParam p (p.get .default) s

/-- R169: the three tables returned to their defaults. -/
def restoreTables (s : State) : State :=
  { s with settings :=
    { s.settings with cal := { s.settings.cal with temps := Calibration.default.temps }
                      feedforward := ⟨.default, .default⟩ } }

/-- R169: every parameter and table returned to its default in force. -/
def restoreAll (s : State) : State := restoreTables (Param.all.foldl restoreParam s)

/-- R169: RESTORE_DEFAULTS's owner. -/
def ownRestoreDefaults (s : State) : Answer × State := (.afterSave, commitAndSave (restoreAll s))

/-- RESTORE_DEFAULTS (R169). -/
def execRestoreDefaults (tag : Byte) (s : State) : Host.Outcome State Fault Refusal :=
  .next (whenRunning (hostRequest tag .restoreDefaults ownRestoreDefaults) s)

/-- R169: RESET_PART's owner; the reset follows the reply's last byte (FRAME_SENT). -/
def ownResetPart (s : State) : Answer × State :=
  if s.store.writing.isSome ∨ s.store.savePending = true then refuse .notNow s
  else ok (s.setStore { s.store with closed := true })

/-- RESET_PART (R162, R169). -/
def execResetPart (tag : Byte) (s : State) : Host.Outcome State Fault Refusal :=
  .next (whenRunning (hostRequest tag .resetPart ownResetPart) s)

end Sys2Proof.Machine
end

