-- ==== Sys2Proof/Machine/Dispatch.lean ====
section
/-! DEFINITION. The meaning of every command, one arm per row of the table. -/

namespace Sys2Proof.Machine

def exec (i : Instr) (s : State) : Host.Outcome State Fault Refusal :=
  match i with
  | .powerOn => Sys2Proof.Machine.execPowerOn s
  | .resetLineAssert => Sys2Proof.Machine.execResetLineAssert s
  | .resetLineRelease => Sys2Proof.Machine.execResetLineRelease s
  | .scanStart => Sys2Proof.Machine.execScanStart s
  | .conversion raw => Sys2Proof.Machine.execConversion raw s
  | .supplyLowRecovery => Sys2Proof.Machine.execSupplyLowRecovery s
  | .pwmPeriod st => Sys2Proof.Machine.execPwmPeriod st s
  | .tachPulse st interval => Sys2Proof.Machine.execTachPulse st interval s
  | .tachAbsence st => Sys2Proof.Machine.execTachAbsence st s
  | .controlStep st => Sys2Proof.Machine.execControlStep st s
  | .startAttemptFailed st => Sys2Proof.Machine.execStartAttemptFailed st s
  | .steadyEntry st => Sys2Proof.Machine.execSteadyEntry st s
  | .retryCountClear st => Sys2Proof.Machine.execRetryCountClear st s
  | .spinTestStart st => Sys2Proof.Machine.execSpinTestStart st s
  | .spinTestFailed st => Sys2Proof.Machine.execSpinTestFailed st s
  | .fanSaturation st => Sys2Proof.Machine.execFanSaturation st s
  | .fanRecover tag stream => Sys2Proof.Machine.execFanRecover tag stream s
  | .getFlows tag => Sys2Proof.Machine.execGetFlows tag s
  | .setDemand tag source key level expiry exempt => Sys2Proof.Machine.execSetDemand tag source key level expiry exempt s
  | .clearDemand tag source key => Sys2Proof.Machine.execClearDemand tag source key s
  | .getDemands tag first => Sys2Proof.Machine.execGetDemands tag first s
  | .demandExpiry slot => Sys2Proof.Machine.execDemandExpiry slot s
  | .watchExit => Sys2Proof.Machine.execWatchExit s
  | .shedEvent => Sys2Proof.Machine.execShedEvent s
  | .icingSignDefrost => Sys2Proof.Machine.execIcingSignDefrost s
  | .deepColdDefrost => Sys2Proof.Machine.execDeepColdDefrost s
  | .recoverEntry => Sys2Proof.Machine.execRecoverEntry s
  | .recoveryGrowth => Sys2Proof.Machine.execRecoveryGrowth s
  | .holdEntry => Sys2Proof.Machine.execHoldEntry s
  | .holdCheck => Sys2Proof.Machine.execHoldCheck s
  | .lockRelease => Sys2Proof.Machine.execLockRelease s
  | .degradedTimedDefrost => Sys2Proof.Machine.execDegradedTimedDefrost s
  | .degradedDefrostEnd => Sys2Proof.Machine.execDegradedDefrostEnd s
  | .exchangerLearnComplete => Sys2Proof.Machine.execExchangerLearnComplete s
  | .overtempBlockEnd => Sys2Proof.Machine.execOvertempBlockEnd s
  | .preheatWindow => Sys2Proof.Machine.execPreheatWindow s
  | .preheatOnTimeEnd => Sys2Proof.Machine.execPreheatOnTimeEnd s
  | .forceDefrost tag => Sys2Proof.Machine.execForceDefrost tag s
  | .frostRelease tag => Sys2Proof.Machine.execFrostRelease tag s
  | .learnExchanger tag => Sys2Proof.Machine.execLearnExchanger tag s
  | .getFrost tag => Sys2Proof.Machine.execGetFrost tag s
  | .filterSample st => Sys2Proof.Machine.execFilterSample st s
  | .filterLearnComplete st => Sys2Proof.Machine.execFilterLearnComplete st s
  | .accumulationStep st => Sys2Proof.Machine.execAccumulationStep st s
  | .doseUnit st => Sys2Proof.Machine.execDoseUnit st s
  | .filterHour st => Sys2Proof.Machine.execFilterHour st s
  | .filterReset tag filter => Sys2Proof.Machine.execFilterReset tag filter s
  | .getFilter tag filter => Sys2Proof.Machine.execGetFilter tag filter s
  | .pollCycleDue => Sys2Proof.Machine.execPollCycleDue s
  | .jobStart => Sys2Proof.Machine.execJobStart s
  | .poll heldLow => Sys2Proof.Machine.execPoll s heldLow
  | .reading address rh temp kind sensorError call checkGood => Sys2Proof.Machine.execReading address rh temp kind sensorError call s checkGood
  | .wait address checkGood => Sys2Proof.Machine.execWait address s checkGood
  | .replyWindowClose => Sys2Proof.Machine.execReplyWindowClose s
  | .waitGapEnd => Sys2Proof.Machine.execWaitGapEnd s
  | .lineConflict => Sys2Proof.Machine.execLineConflict s
  | .lineHeldLowTimeout => Sys2Proof.Machine.execLineHeldLowTimeout s
  | .conflictRestEnd => Sys2Proof.Machine.execConflictRestEnd s
  | .suspensionEnd => Sys2Proof.Machine.execSuspensionEnd s
  | .callPulse => Sys2Proof.Machine.execCallPulse s
  | .discoveryTimerExpiry => Sys2Proof.Machine.execDiscoveryTimerExpiry s
  | .overcurrent => Sys2Proof.Machine.execOvercurrent s
  | .lineRestart => Sys2Proof.Machine.execLineRestart s
  | .lineSettleEnd => Sys2Proof.Machine.execLineSettleEnd s
  | .discover tag => Sys2Proof.Machine.execDiscover tag s
  | .nodePin tag address room kind => Sys2Proof.Machine.execNodePin tag address room kind s
  | .nodeUnpin tag address => Sys2Proof.Machine.execNodeUnpin tag address s
  | .nodeForget tag address => Sys2Proof.Machine.execNodeForget tag address s
  | .getNodes tag first => Sys2Proof.Machine.execGetNodes tag first s
  | .room0Sample => Sys2Proof.Machine.execRoom0Sample s
  | .sessionStep => Sys2Proof.Machine.execSessionStep s
  | .sessionTimeout room => Sys2Proof.Machine.execSessionTimeout room s
  | .callTimeEnd room => Sys2Proof.Machine.execCallTimeEnd room s
  | .overrunEnd room => Sys2Proof.Machine.execOverrunEnd room s
  | .openingTimeout room => Sys2Proof.Machine.execOpeningTimeout room s
  | .boostShort room => Sys2Proof.Machine.execBoostShort room s
  | .boostCancel tag room => Sys2Proof.Machine.execBoostCancel tag room s
  | .getRooms tag room => Sys2Proof.Machine.execGetRooms tag room s
  | .getSessions tag first => Sys2Proof.Machine.execGetSessions tag first s
  | .setMode tag mode => Sys2Proof.Machine.execSetMode tag mode s
  | .modeStep => Sys2Proof.Machine.execModeStep s
  | .standbyBegin => Sys2Proof.Machine.execStandbyBegin s
  | .airingBurstStart => Sys2Proof.Machine.execAiringBurstStart s
  | .airingBurstEnd => Sys2Proof.Machine.execAiringBurstEnd s
  | .standbyLimit => Sys2Proof.Machine.execStandbyLimit s
  | .probingStart => Sys2Proof.Machine.execProbingStart s
  | .alive => Sys2Proof.Machine.execAlive s
  | .hostLost => Sys2Proof.Machine.execHostLost s
  | .goodFrame check => Sys2Proof.Machine.execGoodFrame check s
  | .badCheckFrame check => Sys2Proof.Machine.execBadCheckFrame check s
  | .lengthError byte => Sys2Proof.Machine.execLengthError byte s
  | .interByteGap => Sys2Proof.Machine.execInterByteGap s
  | .lineErrorByte => Sys2Proof.Machine.execLineErrorByte s
  | .frameSent => Sys2Proof.Machine.execFrameSent s
  | .getEvents tag => Sys2Proof.Machine.execGetEvents tag s
  | .setEventMask tag mask => Sys2Proof.Machine.execSetEventMask tag mask s
  | .ping tag => Sys2Proof.Machine.execPing tag s
  | .getStatus tag page => Sys2Proof.Machine.execGetStatus tag page s
  | .getParam tag id => Sys2Proof.Machine.execGetParam tag id s
  | .setParam tag id value => Sys2Proof.Machine.execSetParam tag id value s
  | .setTableTemperature tag points => Sys2Proof.Machine.execSetTableTemperature tag points s
  | .setTableFeedforward tag st points => Sys2Proof.Machine.execSetTableFeedforward tag st points s
  | .saveWriteComplete => Sys2Proof.Machine.execSaveWriteComplete s
  | .fanRunningHour => Sys2Proof.Machine.execFanRunningHour s
  | .saveSettings tag => Sys2Proof.Machine.execSaveSettings tag s
  | .restoreDefaults tag => Sys2Proof.Machine.execRestoreDefaults tag s
  | .resetPart tag => Sys2Proof.Machine.execResetPart tag s
  | .byteReceived byte => Sys2Proof.Machine.execByteReceived byte s
  | .powerFail => Sys2Proof.Machine.execPowerFail s

end Sys2Proof.Machine
end

