-- ==== Sys2Proof/Safety.lean ====
section
/-! DEFINITION. The words the claims use: when a request is taken, and what holds of the part at every moment. -/

namespace Sys2Proof.Machine

/-! ### Requests -/

/-- A request command is taken by its owner: the part runs, and the request is the one waiting in the slot (R161), or its
frame finds the slot empty and the waking condition does not hold (R159, R160). -/
abbrev Accepts (tag : Byte) (q : Request) (s : State) : Prop :=
  s.power = .running ∧
    (s.link.slot = some ⟨tag, requestKind q, some q, .waiting⟩ ∨
      (s.link.slot = none ∧ ¬(s.mode.mode = .standby ∧ 1000 ≤ s.link.silence)))

/-- The state in which an accepted request's owner finds the part: its own frame has arrived (R151, R157, R159). -/
def heard (tag : Byte) (q : Request) (s : State) : State :=
  if s.link.slot = some ⟨tag, requestKind q, some q, .waiting⟩ then s else arrived s

/-- The state with an accepted request's reply in the transmit queue and the request in the slot (R161, R162). -/
def replied (tag : Byte) (q : Request) (r : Result) (payload : List Byte) (s : State) : State :=
  reply (requestKind q) tag (some q) r payload s

/-! ### Resets -/

/-- The first frame of the transmit queue is the reply of the request in the slot. -/
def replyLeaving (s : State) : Bool :=
  match s.link.tx with
  | fr :: _ => fr.cls == .slotReply
  | [] => false

/-- A command resets the part, holds it in reset or takes its power (R170). -/
def resets (c : Instr) (s : State) : Bool :=
  match c with
  | .powerOn => true
  | .resetLineAssert => s.power == .running
  | .resetLineRelease => s.power == .held
  | .powerFail => true
  | .conversion raw =>
    s.seq.next == some .vSupply && brownout (convertChannel .vSupply raw s.seq).working.vSupply
  | .frameSent => s.store.closed && replyLeaving s
  | _ => false

/-- What a reset and the first step of its start-up leave, from a good image: the stored settings in force and committed,
the stored filter records with the loading and the ceiling they give and a learn and the counts below a unit begun anew, R_x0,
the pinned rows with the rooms they bind, HOST_BASE alone in the table, mode RUN, no event set with every enable set, and every
other block at its reset values (R16, R40, R51, R61, R102, R103, R123, R125, R144, R155, R164, R165, R171). The limit of a room
that no row binds is the model's choice (assumption 4) and no part of this. -/
def StartedFrom (cause : ResetCause) (i : Image) (pending : List Instr) (t : State) : Prop :=
  t.power = .running ∧ t.startingUp = true ∧ t.fansOffAt = 0 ∧ t.resetLine = false ∧ t.cause = cause ∧ t.clock = 0 ∧
    t.settings = i.settings ∧ t.seq = .reset i.settings.cal ∧
    t.store = ⟨some i, i.settings, none, 0, false, false, false, 0, 0, true, false⟩ ∧
    t.frost = .reset i.rx0 i.settings.aNormal ∧
    t.demand = .reset (min i.settings.demandBase i.settings.qRated) ∧ t.nodes = mapVec loadRow i.rows ∧
    (∀ st, ∀ f, f = i.filters.get st → ∀ l : Option Nat, l = (match f.rf0, f.rAvg with
        | some r0, some a => some (min (max (a * 100 / r0) 50) 999)
        | _, _ => none) →
      t.filters.get st =
        { state := f.state, rf0 := f.rf0, rAvg := f.rAvg, loading := l, learnCount := 0, learnSum := 0
          lastResistance := none, lastOutcome := .noSample, dose := f.dose, doseAcc := 0, hours := f.hours, runSeconds := 0
          ceiling := if f.state = .blocked then
            min (max (i.settings.qRated * 200 / l.getD 100) i.settings.qMinRun) i.settings.qRated
          else i.settings.qRated }) ∧
    t.room 0 = ⟨true, some .house, 700, none, none, false, [], none, 0, none⟩ ∧
    (∀ k, 1 ≤ k → k ≤ 6 →
      (∀ r, some r ∈ i.rows.toList → r.room = k → (∀ r', some r' ∈ i.rows.toList → r'.room = k → r' = r) →
        ∀ limit, (r.kind, limit) ∈ [(RoomKind.kitchen, 750), (.bath, 700), (.shower, 700), (.utility, 700), (.wc, 750),
          (.other, 800), (.house, 700)] → t.room k = ⟨true, some r.kind, limit, none, none, false, [], none, 0, none⟩) ∧
      ((∀ r, some r ∈ i.rows.toList → r.room ≠ k) →
        t.room k = ⟨false, none, (t.room k).limit, none, none, false, [], none, 0, none⟩)) ∧
    t.line = .reset ∧ t.sessions = [] ∧ t.sessionChange = 0 ∧ t.mode = ⟨.run, 0, none, 0⟩ ∧
    t.superv = ⟨if i.settings.supervisionInterval = 0 then .off else .ok, 0, 0⟩ ∧ t.link = .reset ∧
    t.events = 0#30 ∧ t.mask = BitVec.allOnes 30 ∧ t.alertLow = false ∧ t.fans = ⟨.reset, .reset⟩ ∧
    t.res = ⟨0, 0, .demand, .demand, i.settings.aNormal, 16, none, 0⟩ ∧ t.pending = pending

/-! ### What holds at every moment -/

/-- Once start-up has made the first resolution, the targets stand as the seven stages give them from the inputs as they are
(R52 to R57, R61), in the fan records and in the resolution record. -/
abbrev Settled (s : State) : Prop :=
  s.power = .running → s.startingUp = false →
    s.fans.extract.qTarget = (targets s).1 ∧ s.fans.supply.qTarget = (targets s).2 ∧
      s.res.extTarget = (targets s).1 ∧ s.res.supTarget = (targets s).2

/-- The state a resolution has just left: the fan records hold the targets that the stages give, and the resolution record
holds them with their reasons, the allowance and the window in use and the governing entry (R52 to R60). -/
abbrev Resolved (s : State) : Prop :=
  s.fans.extract.qTarget = (targets s).1 ∧ s.fans.supply.qTarget = (targets s).2 ∧
    s.res = { resolution s with count := s.res.count }

/-- What the conversion that completes a start-up's first scan leaves: the scan is published, both fans are OFF with their
estimates formed on it, HOST_BASE is placed, the mode is RUN, the first resolution is made, RESET_DONE and, for a bad image,
SETTINGS_LOST are set, discovery is pending, and the frost record's first evaluation is made on it (R16, R61, R63, R171). -/
def StartUpEnds (q : Sequencer) (s t : State) : Prop :=
  t = { s with
    startingUp := false, fansOffAt := s.clock, seq := t.seq, fans := t.fans, res := t.res, frost := t.frost
    events := t.events
    demand := { s.demand with
      hostBase := ⟨min s.settings.demandBase s.settings.qRated, none, false, 0, 0⟩, airing := none, fallback := none }
    mode := ⟨.run, 0, none, 0⟩, superv := ⟨if s.settings.supervisionInterval = 0 then .off else .ok, 0, 0⟩
    sessions := s.sessions.map fun x => { x with held := false }
    line := { s.line with discPending := true } } ∧
  t.seq.published = q.working ∧ t.seq.next = none ∧
  (∀ st, t.fans.get st = { FanRecord.reset with
    qTarget := (t.fans.get st).qTarget
    loop := if (streamPressures q.working st).1.validity = .invalid ∨
      (streamPressures q.working st).2.validity = .invalid then .openLoop else .closed }) ∧
  Resolved t ∧ t.res.count = (s.res.count + if t.frost.stage = .idle then 1 else 2) % 65536 ∧
  t.hasEvent .resetDone = true ∧ (s.store.imageGood = false → t.hasEvent .settingsLost = true) ∧
  (s.mask = BitVec.allOnes 30 → t.alertLow = true) ∧ t.frost.rx0 = s.frost.rx0 ∧
  (q.working.tExh.validity ≠ .invalid → t.frost.mode = .normal ∧ t.frost.w = 16 ∧ t.frost.s = 16 ∧
    t.frost.stage = if q.working.tExh.value ≤ guardOf q.working.rhExt then .watch else .idle) ∧
  (q.working.tExh.validity = .invalid → t.frost.mode = .degraded ∧ t.hasEvent .frostDegraded = true ∧
    t.frost.stage = if q.working.tOut.validity = .invalid ∨ q.working.tOut.value ≤ -30 then .shed else .idle)

/-- The other stream. -/
def other : Stream → Stream
  | .supply => .extract
  | .extract => .supply

/-- A fan record as the work of a control step finds it: its speed measured and its flow estimated (R19, R21, R24). -/
def measured (st : Stream) (s : State) : FanRecord :=
  estimate s.settings s.seq.published st (measureSpeed (s.fans.get st))

/-- R64: the guard temperature an evaluation forms from the published humidity. -/
def guardNow (s : State) : Int := guardOf s.seq.published.rhExt

/-- R65: the exchanger resistance an evaluation forms; absent where one of the first three conditions fails. -/
def resistanceNow (s : State) : Option Nat := exchangerResistance s.fans.extract s.seq.published.dpXe

/-- R65: the ratio an evaluation forms; absent where the scan is not evaluable. -/
def ratioNow (s : State) : Option Nat := ratioOf (resistanceNow s) s.frost.rx0

/-- R74: the cleared condition. -/
abbrev Cleared (s : State) : Prop := 50 ≤ s.seq.published.tExh.value ∧ ∀ r ∈ (ratioNow s).toList, r ≤ 110

/-- R63, R80: the part runs, and an evaluation stays in NORMAL mode: the exhaust temperature can be read. -/
abbrev GuardsNormally (s : State) : Prop :=
  s.power = .running ∧ s.frost.mode = .normal ∧ s.seq.published.tExh.validity ≠ .invalid

/-- R66, R73: an evaluation brings the icing-sign count to 4. -/
abbrev IcingFound (s : State) : Prop := 130 ≤ (ratioNow s).getD 0 ∧ 3 ≤ s.frost.icing

/-- R69, R73: an evaluation brings the deep-cold count to 900. -/
abbrev DeepColdFound (s : State) : Prop := s.seq.published.tExh.value ≤ guardNow s - 30 ∧ 899 ≤ s.frost.deepCold

/-- R80: the cold condition of the degraded cycle. -/
abbrev OutsideCold (s : State) : Prop :=
  s.seq.published.tOut.validity = .invalid ∨ s.seq.published.tOut.value ≤ -30

/-- R63, step 6: an evaluation that changed the stage or W has handed its arrival to the resolver. -/
abbrev HandedOn (s t : State) : Prop := t.res.count = (s.res.count + 1) % 65536 ∧ Resolved t

/-- R63: an evaluation at which the stage goes on: the timer rises, and the stage, its window, threshold and allowance, the
events, the fans and the resolution record stay as they were. -/
abbrev StageGoesOn (s t : State) : Prop :=
  t.frost.stage = s.frost.stage ∧ t.frost.timer = min (s.frost.timer + 1) 65535 ∧ t.frost.w = s.frost.w ∧
    t.frost.s = s.frost.s ∧ t.frost.wEntry = s.frost.wEntry ∧ t.frost.allowance = s.frost.allowance ∧
    t.events = s.events ∧ t.fans = s.fans ∧ t.res = s.res

/-- R110, R113, R116: where a transaction ends, the job goes on, from the line record `l` as the outcome leaves it to the
record `l'`, over the node table as it then stands: a poll cycle to the next row after its position, a call sweep to the next
that is not LOST, a discovery sweep to the next address that no row holds, each with a transaction whose first POLL is due; and
where there is none the job ends, and a poll cycle that ends with no conflict returns the suspension interval to 60. -/
def JobGoesOn (l : LineRecord) (nodes : NodeTable) (l' : LineRecord) : Prop :=
  ∀ ended : LineRecord, ended = { l with
      job := .noJob, pos := none, sweep := none, txn := none
      interval := if l.job = .pollCycle ∧ l.conflicts = 0 then 60 else l.interval } →
    ∀ polls : NodeRow → Prop, (∀ r, polls r ↔ l.job = .pollCycle ∨ r.presence ≠ .lost) →
    (l.job = .noJob → l' = l) ∧
    (l.job = .pollCycle ∨ l.job = .callSweep → ∀ at' ∈ l.pos,
      (∀ p r, at' < p → p ≤ 6 → rowAt nodes p = some r → polls r →
        (∀ k r', at' < k → k < p → rowAt nodes k = some r' → ¬polls r') →
        l' = { l with pos := some p, txn := some ⟨r.address, r.seqBit, 1, 0, .due, 0⟩ }) ∧
      ((∀ k r', at' < k → rowAt nodes k = some r' → ¬polls r') → l' = ended)) ∧
    (l.job = .discovery → ∀ at' ∈ l.sweep,
      (∀ a, at' < a → a ≤ 30 → rowOf nodes a = none →
        (∀ k, at' < k → k < a → (rowOf nodes k).isSome = true) →
        l' = { l with sweep := some a, txn := some ⟨a, false, 1, 0, .due, 0⟩ }) ∧
      ((∀ a, at' < a → a ≤ 30 → (rowOf nodes a).isSome = true) → l' = ended))

/-- R84: the preheater duty is non-zero only while the interlock holds; R83: a duty of 0 holds the output off. -/
abbrev PreheatLegal (s : State) : Prop :=
  (s.frost.duty ≠ 0 →
    (s.frost.stage = .watch ∨ s.frost.stage = .shed ∨ s.frost.stage = .recover) ∧ s.fans.supply.running = true ∧
      150 ≤ s.fans.supply.qMeas ∧ s.seq.published.tPre.validity = .valid ∧ s.seq.supplyLow = false ∧
      s.settings.preheatFitted = true ∧ s.frost.block = 0) ∧
    (s.frost.output = true → s.frost.duty ≠ 0)

/-- R79: the window is 0 exactly in DEFROST, HOLD and LOCK, and otherwise 2..16; the threshold is 2..16. -/
abbrev WindowLegal (f : FrostRecord) : Prop :=
  (f.w = 0 ↔ f.stage = .defrost ∨ f.stage = .hold ∨ f.stage = .lock) ∧ (f.w ≠ 0 → 2 ≤ f.w ∧ f.w ≤ 16) ∧
    2 ≤ f.s ∧ f.s ≤ 16 ∧ f.wEntry ≤ 16

/-- R23: the supply commanded flow is at most the extract commanded flow. -/
abbrev Coupled (s : State) : Prop := s.fans.supply.qCmd ≤ s.fans.extract.qCmd

/-- No two rows share an address or a room, and each lies in its ranges (06, "The node table"). -/
abbrev RowsLegal {α : Type} (address room : α → Nat) (rows : List α) : Prop :=
  rows.Pairwise (fun a b => address a ≠ address b ∧ room a ≠ room b) ∧
    ∀ r ∈ rows, 1 ≤ address r ∧ address r ≤ 30 ∧ 1 ≤ room r ∧ room r ≤ 6

/-- The rows of a node table are legal. -/
abbrev NodesLegal (t : NodeTable) : Prop := RowsLegal NodeRow.address NodeRow.room (t.toList.filterMap id)

/-- The rows of an image are legal. -/
abbrev ImageLegal (o : Option Image) : Prop :=
  ∀ i ∈ o.toList, RowsLegal StoredRow.address StoredRow.room (i.rows.toList.filterMap id)

/-- The node table, the store's image and the snapshot being written hold legal rows, and a transaction polls an address
of 1..30. -/
abbrev TablesLegal (s : State) : Prop :=
  NodesLegal s.nodes ∧ ImageLegal s.store.image ∧ ImageLegal s.store.writing ∧
    ∀ x ∈ s.line.txn.toList, 1 ≤ x.address ∧ x.address ≤ 30

/-- R42, R131, R132, R139: at most one session is open for a room, and a room has a BOOST entry exactly while it has a
session, at the session's level and with the exemption of its urgency. -/
abbrev BoostsMatch (s : State) : Prop :=
  (s.sessions.map (·.room)).Nodup ∧ (∀ x ∈ s.sessions, x.room ≤ 6) ∧
    ∀ room ≤ 6, (s.demand.boostOf room).map (fun e => (e.level, e.exempt)) =
      (s.session room).map fun x => (x.level, x.urgency.exempt)

/-- R147 to R150: next airing due is present exactly in STANDBY, and an AIRING entry lives exactly while airing remaining is
above 0, which it is in STANDBY alone. -/
abbrev AiringLegal (s : State) : Prop :=
  (s.mode.nextAiring.isSome ↔ s.mode.mode = .standby) ∧ (s.demand.airing.isSome ↔ 0 < s.mode.airing) ∧
    (0 < s.mode.airing → s.mode.mode = .standby)

/-- R140: the sessions are HELD exactly in standby. -/
abbrev HeldLegal (s : State) : Prop := ∀ x ∈ s.sessions, x.held = s.mode.mode.inStandby

/-- R151, R153: the FALLBACK entry lives exactly while the host is LOST. -/
abbrev FallbackLegal (s : State) : Prop := s.demand.fallback.isSome ↔ s.superv.state = .lost

/-- R162: the transmit queue holds at most one reply of the slot, two BUSY or WAKING replies and one notice, and a reply of
the slot waits only while the request it answers holds the slot. -/
abbrev QueueLegal (s : State) : Prop :=
  waitingOf .slotReply s ≤ 1 ∧ waitingOf .answer s ≤ 2 ∧ waitingOf .notice s ≤ 1 ∧
    (waitingOf .slotReply s = 1 ↔ s.link.slot.map (·.phase) = some .replied)

/-- R172 and 09, "Frames": every queued frame has a body of 2..48 bytes. -/
abbrev FramesFit (s : State) : Prop := ∀ fr ∈ s.link.tx, 2 ≤ fr.body.length ∧ fr.body.length ≤ 48

end Sys2Proof.Machine
end

