-- ==== Sys2Proof/Certificates/Slice0/Obligations.lean ====
section
/-! DEFINITION. The claims about the part: what its commands do, where they complete, and what every step keeps. Each
claim's note names the rules of spec/ it follows. A claim on a request's row speaks of the request that waits in the slot and
also of its whole good frame, which the row stands for where none waits (the model's reading, log 7: `Accepts`, `heard`). A
claim on a row that names what a periodic step brings about speaks of that step (the model's reading, log 6). -/

open Sys2Proof Sys2Proof.Machine

/-! ### The queue, and commands in general -/

/-- A step carries out the command at the front of the queue with the queue's rest. With none waiting, a running part moves
its timers one millisecond on (R20, R49, R83, R106, R111, R113, R117, R118, R158, R168) and the rows that fall due join the
queue, the request that waits in the slot first; any other part stands still. That such a step is one millisecond, what it
counts in parts of a second, and the moments at which its rows fall due are the model's choice (log 8). -/
def Obligations.StepRunsFrontCommand : Prop :=
  (∀ (c : Instr) (rest : List Instr) (s : State),
    step { s with pending := c :: rest } = exec c { s with pending := rest }) ∧
  ∀ s : State, s.pending = [] → (s.power ≠ .running → step s = .next s) ∧ (s.power = .running →
    ∃ t, step s = .next t ∧
      t = { s with
        clock := s.clock + 1, fans := t.fans, demand := { s.demand with timed := t.demand.timed }
        frost := { s.frost with windowMs := min (s.frost.windowMs + 1) 10000 }
        line := { s.line with
          discTimer := if 999 ≤ s.line.discMs then min (s.line.discTimer + 1) 86400 else s.line.discTimer
          discMs := if 999 ≤ s.line.discMs then 0 else s.line.discMs + 1
          suspension := t.line.suspension, restart := t.line.restart, lineMs := t.line.lineMs
          txn := s.line.txn.map fun x => { x with ms := min (x.ms + 1) 100 } }
        nodes := t.nodes
        link := { s.link with silence := min (s.link.silence + 1) 1000, txMs := min (s.link.txMs + 1) 1000 }
        store := { s.store with
          writeMs := min (s.store.writeMs + 1) 180
          fanRunning := if (s.clock + 1) % 1000 = 0 ∧ (0 < s.fans.supply.qMeas ∨ 0 < s.fans.extract.qMeas) ∧
            s.store.fanRunning < 3599 then s.store.fanRunning + 1 else s.store.fanRunning }
        pending := t.pending } ∧
      (∀ st, t.fans.get st =
        { s.fans.get st with absence := (s.fans.get st).absence.map fun a => min (a + 1) 2000 }) ∧
      (∀ k, t.demand.slot k = (s.demand.slot k).map fun e =>
        if e.expiry = none then e
        else if 999 ≤ e.ms ∧ 2 ≤ e.expiry.getD 0 then { e with expiry := e.expiry.map (· - 1), ms := 0 }
        else { e with ms := min (e.ms + 1) 1000 }) ∧
      (∀ p, rowAt t.nodes p = (rowAt s.nodes p).map fun r =>
        if r.age = none then r
        else if 999 ≤ r.ageMs then { r with age := r.age.map fun a => min (a + 1) 65534, ageMs := 0 }
        else { r with ageMs := r.ageMs + 1 }) ∧
      (s.line.state = .active → t.line.suspension = s.line.suspension ∧ t.line.restart = s.line.restart ∧
        t.line.lineMs = s.line.lineMs) ∧
      (s.line.state = .fault → t.line.restart = s.line.restart ∧
        t.line.suspension = (if 999 ≤ s.line.lineMs then s.line.suspension - 1 else s.line.suspension) ∧
        t.line.lineMs = if 999 ≤ s.line.lineMs then 0 else s.line.lineMs + 1) ∧
      (s.line.state = .off → s.line.powered = false → t.line.suspension = s.line.suspension ∧
        t.line.restart = (if 999 ≤ s.line.lineMs then s.line.restart - 1 else s.line.restart) ∧
        t.line.lineMs = if 999 ≤ s.line.lineMs then 0 else s.line.lineMs + 1) ∧
      (s.line.state = .off → s.line.powered = true → t.line.suspension = s.line.suspension ∧
        t.line.restart = s.line.restart ∧ t.line.lineMs = min (s.line.lineMs + 1) 100) ∧
      (∀ x q, s.link.slot = some x → x.request = some q → x.phase = .waiting →
        t.pending.head? = some (q.toInstr x.tag)) ∧
      (s.line.state = .active → s.line.job = .noJob →
        s.line.callPending = true ∨ s.line.cycleDue = true ∨ s.line.discPending = true → .jobStart ∈ t.pending) ∧
      (s.line.heldLow = false → (s.line.txn.map (·.phase)) = some .due → .poll false ∈ t.pending) ∧
      ∀ (c : Instr) (due : Prop),
        ((c = .scanStart ∧ (due ↔ s.clock % 1000 = 0)) ∨
          (∃ st, c = .controlStep st ∧ (due ↔ s.startingUp = false ∧ s.fansOffAt ≤ s.clock ∧
            (s.clock + 1 - s.fansOffAt) % 1000 = 0)) ∨
          (∃ st, c = .pwmPeriod st ∧ (due ↔ (s.fans.get st).duty ≠ (s.fans.get st).applied)) ∨
          (∃ st, c = .tachAbsence st ∧ (due ↔ (t.fans.get st).absence = some 2000)) ∨
          (∃ k, c = .demandExpiry k ∧ (due ↔ k ≤ 4 ∧ ∃ e ∈ t.demand.slot k, e.expiry = some 1 ∧ 1000 ≤ e.ms)) ∨
          (c = .preheatWindow ∧ (due ↔ (s.clock + 1) % 10000 = 0)) ∨
          (c = .preheatOnTimeEnd ∧ (due ↔ s.frost.output = true ∧ s.frost.duty < 100 ∧
            s.frost.duty * 100 ≤ t.frost.windowMs)) ∨
          (∃ st, (c = .filterSample st ∧ (due ↔ (s.clock + 1) % 60000 = 0)) ∨
            (c = .accumulationStep st ∧ (due ↔ (s.clock + 1) % 1000 = 0))) ∨
          ((c = .pollCycleDue ∨ c = .room0Sample) ∧ (due ↔ (s.clock + 1) % 30000 = 0)) ∨
          ((c = .sessionStep ∨ c = .modeStep) ∧ (due ↔ (s.clock + 1) % 1000 = 0)) ∨
          (∃ ph ms, ((c = .replyWindowClose ∧ ph = .exchange ∧ ms = 40) ∨ (c = .waitGapEnd ∧ ph = .gap ∧ ms = 90) ∨
            (c = .conflictRestEnd ∧ ph = .rest ∧ ms = 100)) ∧ (due ↔ ∃ x ∈ t.line.txn, x.phase = ph ∧ ms ≤ x.ms)) ∨
          (c = .suspensionEnd ∧ (due ↔ s.line.state = .fault ∧ t.line.suspension = 0)) ∨
          (c = .discoveryTimerExpiry ∧ (due ↔ 86400 ≤ t.line.discTimer ∧ s.line.discPending = false ∧
            s.line.job ≠ .discovery)) ∨
          (c = .lineRestart ∧ (due ↔ s.line.state = .off ∧ s.line.powered = false ∧ t.line.restart = 0)) ∨
          (c = .lineSettleEnd ∧ (due ↔ s.line.state = .off ∧ s.line.powered = true ∧ 100 ≤ t.line.lineMs)) ∨
          (c = .interByteGap ∧ (due ↔ s.link.rx ≠ .hunting ∧ 10 ≤ t.link.silence)) ∨
          (c = .frameSent ∧ (due ↔ ∃ fr ∈ s.link.tx.head?, (fr.body.length + 3) * 25 ≤ t.link.txMs * 48)) ∨
          (c = .saveWriteComplete ∧ (due ↔ s.store.writing.isSome = true ∧ 180 ≤ t.store.writeMs)) ∨
          (c = .fanRunningHour ∧ (due ↔ (s.clock + 1) % 1000 = 0 ∧
            (0 < s.fans.supply.qMeas ∨ 0 < s.fans.extract.qMeas) ∧ 3599 ≤ s.store.fanRunning))) →
        (c ∈ t.pending ↔ due))

/-- R170: every command answers a next state and leaves the queue as it is, and a part that is held in reset or has no power
does nothing at any row but the four of its power and reset input (the model's choice: log 1 and 11). -/
def Obligations.EveryCommandAnswersNext : Prop :=
  ∀ (c : Instr) (s : State), (∃ t, exec c s = .next t ∧ t.pending = s.pending) ∧
    (s.power ≠ .running → c ∉ [Instr.powerOn, .resetLineAssert, .resetLineRelease, .powerFail] → exec c s = .next s)

/-- R161: a request that is refused leaves every piece of state as its own frame's arrival left it, but for the reply in
the link. -/
def Obligations.RefusedRequestChangesNothing : Prop :=
  ∀ (tag : Byte) (q : Request) (s t : State) (r : Result), Accepts tag q s → 16 ≤ r.code →
    exec (q.toInstr tag) s = .next t →
    t.link.tx = (heard tag q s).link.tx ++ [⟨.slotReply, replyBody (requestKind q) tag r []⟩] →
    t = { heard tag q s with link := t.link }

/-! ### Resets and start-up -/

/-- R166, R171 and the reset rules of every block: a start-up that finds a bad image begins from the values of `State.reset`.
The limit of an unbound room there (log 4), the working copy's contents (log 33), an unfinished tach interval's loss (log 34),
the first scan's being rows of its own (log 5), a POWER_ON of a part that runs (log 11) and the kept queue (log 27) are the
model's choices. -/
def Obligations.StartUpOnBadImage : Prop :=
  ∀ s : State, s.resetLine = false → s.store.image = none ∨ s.store.writing.isSome = true →
    exec .powerOn s = .next { State.reset with pending := s.pending }

/-- R16, R61, R170, R171: power on, and the release of the reset input, load the stored image where it is good; the
conversion that ends the first scan, the second step of start-up, is followed by its steps 3 to 8 and then by the scan's
arrivals. The model's choices here: the first scan is the rows SCAN_START and CONVERSION, and what a command changes during
it stays but for what steps 3 to 8 set (log 5); the working copy's contents (log 33) and the loss of an unfinished tach
interval (log 34); POWER_ON of a part that runs is a new start-up (log 11); the queue is kept (log 27). -/
def Obligations.StartUpLoadsTheImage : Prop :=
  (∀ (s : State) (i : Image), s.store.image = some i → s.store.writing = none →
    (s.resetLine = false → ∃ t, exec .powerOn s = .next t ∧ StartedFrom .powerOn i s.pending t) ∧
      (s.power = .held → ∃ t, exec .resetLineRelease s = .next t ∧ StartedFrom s.cause i s.pending t)) ∧
  ∀ (raw : Nat) (s : State), s.power = .running → s.startingUp = true → s.seq.next = some .vSupply →
    (16 ≤ raw ∧ raw ≤ 4079 → 168 ≤ convert s.seq.cal .vSupply raw) →
    ∃ t, exec (.conversion raw) s = .next t ∧ StartUpEnds (convertChannel .vSupply raw s.seq) s t

/-- R15, R170: resets of every kind act alike apart from the cause: a start-up on the release of the reset input, which
bears the cause of the reset that was held, the reset after an accepted RESET_PART, and a brownout, in the first scan of a
start-up as in any other. -/
def Obligations.ResetsActAlike : Prop :=
  ∀ s u : State, exec .powerOn { s with resetLine := false } = .next u →
    (s.power = .held → exec .resetLineRelease s = .next { u with cause := s.cause }) ∧
      (s.power = .running → s.store.closed = true → replyLeaving s = true →
        exec .frameSent s = .next { u with cause := .command }) ∧
      (s.power = .running → s.seq.next = some .vSupply → ∀ raw, 16 ≤ raw → raw ≤ 4079 →
        convert s.seq.cal .vSupply raw < 168 → exec (.conversion raw) s = .next { u with cause := .brownout })

/-- R164, R165, R166, R170: an asserted reset input holds a running part in reset with the cause RESET_LINE, power that
returns while it is asserted holds it with the cause POWER_ON, and a loss of power ends the part's work; each way the alert
line is released, the link is cleared, and a write in progress leaves a bad image. What a part holds that is held or without
power, its cause and its input kept, is the model's choice (log 26), as are RESET_LINE_ASSERT and RESET_LINE_RELEASE of any
other part, which change the input alone (log 11). -/
def Obligations.ResetHeldAndPowerLost : Prop :=
  ∀ s : State,
    (∀ (c : Instr) (cause : ResetCause), (c = .resetLineAssert ∧ s.power = .running ∧ cause = .resetLine) ∨
        (c = .powerOn ∧ s.resetLine = true ∧ cause = .powerOn) →
      ∃ t, exec c s = .next t ∧ t.power = .held ∧ t.resetLine = true ∧
        t.cause = cause ∧ t.alertLow = false ∧ t.events = 0#30 ∧ t.link = .reset ∧ t.sessions = [] ∧
        t.fans = ⟨.reset, .reset⟩ ∧ t.store.writing = none ∧
        (t.store.image = if s.store.writing.isSome then none else s.store.image) ∧
        ∃ u, exec .resetLineRelease t = .next u ∧ u.power = .running ∧ u.resetLine = false ∧ u.cause = cause) ∧
    (s.power ≠ .running → exec .resetLineAssert s = .next { s with resetLine := true }) ∧
    (s.power ≠ .held → exec .resetLineRelease s = .next { s with resetLine := false }) ∧
    ∃ t, exec .powerFail s = .next t ∧ t.power = .unpowered ∧ t.resetLine = s.resetLine ∧ t.cause = s.cause ∧
      t.alertLow = false ∧ t.link = .reset ∧ t.sessions = [] ∧ t.fans = ⟨.reset, .reset⟩ ∧ t.store.writing = none ∧
      t.store.image = if s.store.writing.isSome then none else s.store.image

/-- The state after reset has every property that each step keeps. -/
def Obligations.ResetMeetsTheInvariants : Prop :=
  Settled State.reset ∧ WindowLegal State.reset.frost ∧ PreheatLegal State.reset ∧ Coupled State.reset ∧
    TablesLegal State.reset ∧
    BoostsMatch State.reset ∧ AiringLegal State.reset ∧ HeldLegal State.reset ∧ FallbackLegal State.reset ∧
    QueueLegal State.reset ∧ FramesFit State.reset

/-! ### Measurement -/

/-- R1, R2, R5, R6, R7, R9: a scan begins by copying the published records and taking the calibration in force, pending
changes and all; a conversion of any channel but the last changes that channel's working record alone, by the class of its
code, and the channel after it is next. The filter's weights are 1/4 and 1/8, V_SUPPLY is not filtered, and a filtered value
never leaves the span between the old one and the new engineering value. -/
def Obligations.ScansConvertInTurn : Prop :=
  (∀ ch ∈ [Channel.tOut, .tPre, .tSup, .tExt, .tExh, .rhExt], ∀ f v : Int,
      filterToward ch f v = f + Int.tdiv (v - f) 4 ∧ (|v - f| ≤ 3 → filterToward ch f v = f)) ∧
  (∀ ch ∈ [Channel.dpFs, .dpFe, .dpXs, .dpXe], ∀ f v : Int,
      filterToward ch f v = f + Int.tdiv (v - f) 8 ∧ (|v - f| ≤ 7 → filterToward ch f v = f)) ∧
  (∀ f v : Int, filterToward .vSupply f v = v) ∧
  (∀ (ch : Channel) (f v : Int), min f v ≤ filterToward ch f v ∧ filterToward ch f v ≤ max f v) ∧
  (∀ s : State, s.power = .running → s.seq.next = none →
      exec .scanStart s = .next { s with seq :=
        { s.seq with working := s.seq.published, cal := s.settings.cal, next := some .tOut, faultRaised := false
                     restoredRaised := false } }) ∧
  ∀ (ch : Channel) (raw : Nat) (s : State), s.power = .running → s.seq.next = some ch → ch ≠ .vSupply →
    let r := s.seq.working.get ch
    (16 ≤ raw → raw ≤ 4079 → exec (.conversion raw) s = .next { s with seq :=
      { s.seq with
        working := s.seq.working.set ch
          { raw := raw, engineering := some (convert s.seq.cal ch raw)
            filtered := some (if r.validity = .invalid then convert s.seq.cal ch raw
              else match r.filtered with
                | some f => filterToward ch f (convert s.seq.cal ch raw)
                | none => convert s.seq.cal ch raw)
            validity := .valid, faultKind := .noFault, faultCount := 0 }
        restoredRaised := s.seq.restoredRaised || (r.validity == .invalid && r.faultCount == 3)
        next := ch.succ } }) ∧
    (raw < 16 ∨ 4080 ≤ raw → exec (.conversion raw) s = .next { s with seq :=
      { s.seq with
        working := s.seq.working.set ch
          { r with
            raw := raw, faultKind := if raw < 16 then .openFault else .shortFault
            faultCount := min (r.faultCount + 1) 3
            validity := if r.validity = .invalid ∨ r.filtered = none ∨ 2 ≤ r.faultCount then .invalid else .held }
        faultRaised := s.seq.faultRaised || r.faultCount == 2
        next := ch.succ } })

/-- R3, and the conversions of R4: a scan takes the temperature table in force at its start; a good code on any of the five
temperature channels is converted through the table that the scan took, and one on any other channel by that channel's gain
and offset. -/
def Obligations.ConversionsFollowTheirFormulas : Prop :=
  (∀ s : State, s.power = .running → s.seq.next = none →
    ∃ t, exec .scanStart s = .next t ∧ t.seq.cal = s.settings.cal) ∧
  (∀ (x : Settings) (s : State), (snapshot x s).settings.cal.temps = x.cal.temps) ∧
  (∀ ch ∈ [Channel.tOut, .tPre, .tSup, .tExt, .tExh], ∀ (raw : Nat) (s : State), s.power = .running →
    s.seq.next = some ch → 16 ≤ raw → raw ≤ 4079 → ∀ i, i = raw / 256 →
    ∀ a b : Int, s.seq.cal.temps[i]? = some a → s.seq.cal.temps[i + 1]? = some b →
    ∃ t, exec (.conversion raw) s = .next t ∧ (t.seq.working.get ch).engineering = some
      (max (-400) (min 800 (a + Int.tdiv (((raw : Int) - 256 * i) * (b - a)) (if i = 15 then 255 else 256))))) ∧
  (∀ c ∈ [(Channel.dpFs, fun c : Calibration => c.dpFs), (.dpFe, fun c => c.dpFe), (.dpXs, fun c => c.dpXs),
      (.dpXe, fun c => c.dpXe)], ∀ (raw : Nat) (s : State), s.power = .running → s.seq.next = some c.1 → 16 ≤ raw →
    raw ≤ 4079 → ∃ t, exec (.conversion raw) s = .next t ∧ (t.seq.working.get c.1).engineering = some
      (max 0 (min 5000 (((raw * (c.2 s.seq.cal).gain / 4096 : Nat) : Int) + (c.2 s.seq.cal).offset)))) ∧
  (∀ (raw : Nat) (s : State), s.power = .running → s.seq.next = some .rhExt → 16 ≤ raw → raw ≤ 4079 →
    ∃ t, exec (.conversion raw) s = .next t ∧ t.seq.working.rhExt.engineering = some
      (max 0 (min 1000 (((raw * s.seq.cal.rhExt.gain / 4096 : Nat) : Int) + s.seq.cal.rhExt.offset)))) ∧
  ∀ (raw : Nat) (s : State), s.power = .running → s.seq.next = some .vSupply → 16 ≤ raw → raw ≤ 4079 →
    ∀ v, v = max 0 (min 400 (((raw * s.seq.cal.vSupply.gain / 4096 : Nat) : Int) + s.seq.cal.vSupply.offset)) →
    168 ≤ v → ∃ t, exec (.conversion raw) s = .next t ∧ t.seq.published.vSupply.engineering = some v

/-- R8, R13, R14, R24, R63, R84: the last conversion of a scan after start-up (StartUpLoadsTheImage speaks of the first) that
does not brown out publishes the working copy, which gives the state `u`: the sensor events are raised, SUPPLY_LOW and its
recovery count change by the rail, both fans form their flow estimates, and a preheater whose interlock they break is
dropped. The frost evaluation of `u` follows (FrostEvaluationChanges says what it does). The publication at which the
recovery count reaches 10 ends SUPPLY_LOW and raises no event for it. That SUPPLY_LOW and both flow estimates come before the
frost evaluation is the model's choice (log 15). That SUPPLY_LOW_RECOVERY is only the SUPPLY_LOW part of that publication,
taken on the records as published, so that the row changes nothing else but the preheater, is the model's choice (log 6): a
publication itself changes all that the first part says. -/
def Obligations.LastConversionPublishes : Prop :=
  (∀ (raw : Nat) (s : State), s.power = .running → s.startingUp = false → s.seq.next = some .vSupply →
    (16 ≤ raw ∧ raw ≤ 4079 → 168 ≤ convert s.seq.cal .vSupply raw) →
    let q := convertChannel .vSupply raw s.seq
    let v := convert s.seq.cal .vSupply raw
    let good := 16 ≤ raw ∧ raw ≤ 4079
    ∃ t u, exec (.conversion raw) s = .next t ∧ t = (frostEvaluate u).1 ∧
      u = { s with
        seq := { q with
          published := q.working, next := none, supplyLow := t.seq.supplyLow, recovery := t.seq.recovery }
        fans := u.fans
        frost := { s.frost with duty := u.frost.duty, output := u.frost.output }
        events := s.events ||| (if q.faultRaised then Event.sensorFault.bit else 0#30) |||
          (if q.restoredRaised then Event.sensorRestored.bit else 0#30) |||
          (if t.seq.supplyLow = true ∧ s.seq.supplyLow = false then Event.supplyLow.bit else 0#30) } ∧
      (∀ st, ∀ c : ChannelRecord × ChannelRecord,
        c = (if st = .supply then (q.working.dpFs, q.working.dpXs) else (q.working.dpFe, q.working.dpXe)) →
        ∀ press : ChannelRecord → Nat, press = (fun r => if r.validity = .invalid then 0 else (r.filtered.getD 0).toNat) →
        u.fans.get st = { s.fans.get st with
          qMeas := min ((s.fans.get st).n * s.settings.fanKn / 256 -
            (press c.1 + press c.2) * s.settings.fanKp / 64) 1200
          loop := if c.1.validity = .invalid ∨ c.2.validity = .invalid then .openLoop else .closed }) ∧
      (∀ holds : Prop, (holds ↔ (s.frost.stage = .watch ∨ s.frost.stage = .shed ∨ s.frost.stage = .recover) ∧
          (s.fans.supply.state = .ramping ∨ s.fans.supply.state = .steady) ∧ 150 ≤ u.fans.supply.qMeas ∧
          q.working.tPre.validity = .valid ∧ t.seq.supplyLow = false ∧ s.settings.preheatFitted = true ∧
          s.frost.block = 0) →
        (¬holds → u.frost = { s.frost with duty := 0, output := false }) ∧
        (holds → s.seq.supplyLow = false → u.frost = s.frost)) ∧
      t = { s with seq := t.seq, fans := t.fans, frost := t.frost, res := t.res, events := t.events, store := t.store } ∧
      t.seq.published = q.working ∧ t.seq.next = none ∧
      (q.faultRaised = true → t.hasEvent .sensorFault = true) ∧
      (q.restoredRaised = true → t.hasEvent .sensorRestored = true) ∧
      (good → v < 204 → t.seq.supplyLow = true ∧ t.seq.recovery = 0 ∧
        (s.seq.supplyLow = false → t.hasEvent .supplyLow = true)) ∧
      (good → 204 ≤ v → s.seq.supplyLow = false → t.seq.supplyLow = false ∧ t.seq.recovery = s.seq.recovery) ∧
      (good → 204 ≤ v → v < 216 → s.seq.supplyLow = true → t.seq.supplyLow = true ∧ t.seq.recovery = 0) ∧
      (good → 216 ≤ v → s.seq.supplyLow = true →
        t.seq.supplyLow = decide (s.seq.recovery + 1 < 10) ∧
          t.seq.recovery = if s.seq.recovery + 1 < 10 then s.seq.recovery + 1 else 0) ∧
      (¬good → t.seq.supplyLow = s.seq.supplyLow ∧ t.seq.recovery = s.seq.recovery) ∧
      ∀ st, (t.fans.get st).qMeas =
          flowOf (s.fans.get st).n s.settings.fanKn
            (pressureOf (streamPressures q.working st).1 + pressureOf (streamPressures q.working st).2)
            s.settings.fanKp ∧
        ((t.fans.get st).loop = .openLoop ↔ (streamPressures q.working st).1.validity = .invalid ∨
          (streamPressures q.working st).2.validity = .invalid)) ∧
  ∀ (s : State) (v : Int), s.power = .running → s.seq.supplyLow = true → s.seq.recovery = 9 →
    s.seq.published.vSupply.faultKind = .noFault → s.seq.published.vSupply.engineering = some v → 216 ≤ v →
    ∃ t, exec .supplyLowRecovery s = .next t ∧
      t = { s with
        seq := { s.seq with supplyLow := false, recovery := 0 }
        frost := { s.frost with duty := t.frost.duty, output := t.frost.output } }

/-! ### Fan channels -/

/-- R18, R19, R20, R29, R32, R57: a PWM period applies the pending duty, which starts, keeps or stops the absence timer, and
a tach pulse restarts a running absence timer and ends the interval that a pulse before it began. A tach absence stalls a
RAMPING or STEADY fan and is disregarded in STARTING, and a normal start that reaches its fifth step without speed stalls; a
stall stops both targets and raises FAN_STALLED, and an extract stall takes the supply's commanded flow to 0 with its own. -/
def Obligations.DriveTachAndStalls : Prop :=
  (∀ (st : Stream) (s : State), s.power = .running →
    let f := s.fans.get st
    exec (.pwmPeriod st) s = .next { s with fans := s.fans.set st { f with
      applied := f.duty
      absence := if f.duty < s.settings.dutyMin then none
        else if f.applied < s.settings.dutyMin then some 0 else f.absence } } ∧
    ∀ interval, exec (.tachPulse st interval) s = .next { s with fans := s.fans.set st { f with
      tachSeen := true
      tachCount := if f.tachSeen then f.tachCount + 1 else 0
      tachSpan := if f.tachSeen then f.tachSpan + interval else 0
      absence := if f.absence.isSome then some 0 else none } }) ∧
  ∀ (st : Stream) (s : State), s.power = .running →
    (∀ f, f = s.fans.get st → f.absence.isSome = true →
      (f.state = .ramping ∨ f.state = .steady → ∃ t, exec (.tachAbsence st) s = .next t ∧
        t.fans.get st = { f with
          state := .stalled, startKind := .normal, qTarget := 0, duty := 0, qCmd := 0, trim := 0, steadyCount := 0
          satCount := 0, satCap := none, absence := some 0
          timer := if f.retry = 0 then 10 else if f.retry = 1 then 20 else 40 } ∧
        t.fans.get (other st) = { s.fans.get (other st) with
          qTarget := 0, qCmd := if st = .extract ∧ 0 < f.qCmd then 0 else (s.fans.get (other st)).qCmd } ∧
        (t.fans.get (other st)).qTarget = 0 ∧ t.res.extTarget = 0 ∧ t.res.supTarget = 0 ∧
        t.hasEvent .fanStalled = true) ∧
      (f.state = .starting → exec (.tachAbsence st) s =
        .next { s with fans := s.fans.set st { f with absence := some 0 } })) ∧
    ∀ g, g = measured st s → g.state = .starting → g.startKind = .normal → 60 ≤ g.qTarget → g.n < 200 → 4 ≤ g.timer →
      ∃ t, exec (.startAttemptFailed st) s = .next t ∧
        t.fans.get st = { g with
          state := .stalled, qTarget := 0, duty := 0, qCmd := 0, trim := 0, steadyCount := 0, satCount := 0
          satCap := none, timer := if g.retry = 0 then 10 else if g.retry = 1 then 20 else 40 } ∧
        t.fans.get (other st) = { s.fans.get (other st) with
          qTarget := 0, qCmd := if st = .extract ∧ 0 < g.qCmd then 0 else (s.fans.get (other st)).qCmd } ∧
        (t.fans.get (other st)).qTarget = 0 ∧ t.res.extTarget = 0 ∧ t.res.supTarget = 0 ∧
        t.hasEvent .fanStalled = true

/-- R19, R21 to R28: every control step measures the speed from the intervals that ended, 30 000 000 × k / span truncated and
at most 6000 (what a span of 0 gives is left free: log 2), and forms the flow estimate from that speed and the stream's two
published pressures, of which an INVALID one counts as 0; a fan in OFF starts by its target and, for the supply fan, by the
extract flow; and a running fan ramps by at most 30 up or 60 down, the supply bounded by the extract flow, and drives at its
feedforward duty and its trim, unless it stops. An extract step that lowers its commanded flow clips the supply's to it at
once, and any other leaves the supply's as it was. The feedforward duty lies on the line between the points around the flow,
and is the last point's at and beyond it. -/
def Obligations.ControlStepMeasuresAndRamps : Prop :=
  (∀ (table : Feedforward) (q : Nat), feedforwardOk table = true →
    (∀ i p p', table[i]? = some p → table[i + 1]? = some p' → p.1 ≤ q → q < p'.1 →
      feedforwardDuty table q = p.2 + (q - p.1) * (p'.2 - p.2) / (p'.1 - p.1)) ∧
    (∀ p, table[7]? = some p → p.1 ≤ q → feedforwardDuty table q = p.2)) ∧
  ∀ (st : Stream) (s : State), s.power = .running →
    let f := s.fans.get st
    let g := measured st s
    let bound := if st = .supply then s.fans.extract.qCmd else 1200
    let ramp := if g.qCmd < g.qTarget then min (g.qCmd + 30) g.qTarget
      else if g.qTarget < g.qCmd then max (g.qCmd - 60) g.qTarget else g.qCmd
    let cmd := if st = .supply then min ramp s.fans.extract.qCmd else ramp
    let ff : Int := feedforwardDuty (s.settings.feedforward.get st) cmd
    let err : Int := (cmd : Int) - g.qMeas
    let candidate : Int := f.trim + Int.tdiv (err * s.settings.fanKi) 32
    let trim := if cmd = 0 then 0
      else if g.loop = .openLoop ∨ s.seq.supplyLow = true then f.trim
      else if (1000 < ff + candidate ∧ 0 < err) ∨ (ff + candidate < s.settings.dutyMin ∧ err < 0) then f.trim
      else min (max candidate (-250)) 250
    ∃ t, exec (.controlStep st) s = .next t ∧
      (f.tachCount = 0 → (t.fans.get st).n = 0) ∧
      (f.tachCount ≠ 0 → f.tachSpan ≠ 0 → (t.fans.get st).n = min (30000000 * f.tachCount / f.tachSpan) 6000) ∧
      (t.fans.get st).n ≤ 6000 ∧
      (st = .extract → t.fans.supply.qCmd = if t.fans.extract.qCmd < s.fans.extract.qCmd then
        min s.fans.supply.qCmd t.fans.extract.qCmd else s.fans.supply.qCmd) ∧
      (∀ c : ChannelRecord × ChannelRecord, c = (if st = .supply then (s.seq.published.dpFs, s.seq.published.dpXs)
          else (s.seq.published.dpFe, s.seq.published.dpXe)) →
        ∀ press : ChannelRecord → Nat, press = (fun r => if r.validity = .invalid then 0 else (r.filtered.getD 0).toNat) →
        ((t.fans.get st).qMeas : Int) = max 0 (min 1200 ((((t.fans.get st).n * s.settings.fanKn / 256 : Nat) : Int) -
          (((press c.1 + press c.2) * s.settings.fanKp / 64 : Nat) : Int))) ∧
        (t.fans.get st).loop =
          if c.1.validity = .invalid ∨ c.2.validity = .invalid then .openLoop else .closed) ∧
      (t.fans.get st).tachCount = 0 ∧ (t.fans.get st).tachSpan = 0 ∧
      (t.fans.get st).qMeas = g.qMeas ∧ (t.fans.get st).loop = g.loop ∧
      (f.state = .off → 60 ≤ f.qTarget → 60 ≤ bound →
        (t.fans.get st).state = .starting ∧ (t.fans.get st).startKind = .normal ∧ (t.fans.get st).timer = 0 ∧
          (t.fans.get st).duty = s.settings.dutyStart) ∧
      (f.state = .off → f.qTarget < 60 ∨ bound < 60 → (t.fans.get st).state = .off ∧ (t.fans.get st).duty = 0) ∧
      (f.running = true → 60 ≤ f.qTarget ∨ 60 < cmd → (t.fans.get st).running = true ∧ (t.fans.get st).qCmd = cmd ∧
        (t.fans.get st).trim = trim ∧ (t.fans.get st).duty =
          if cmd = 0 then 0 else (min (max (ff + trim) s.settings.dutyMin) 1000).toNat) ∧
      (f.running = true → f.qTarget < 60 → cmd ≤ 60 →
        (t.fans.get st).state = .off ∧ (t.fans.get st).qCmd = 0 ∧ (t.fans.get st).duty = 0 ∧
          (t.fans.get st).trim = 0 ∧ (t.fans.get st).satCap = none)

/-- R29, R30, R33 to R38: what a control step does in STARTING, STALLED and FAILED, the control steps at which a fan enters
and leaves STEADY, its retry count clears, a spin test begins, passes or fails, and saturation is set, renewed or cleared by
the target, and the rise and the return to 0 of the steady and the saturation count at a RAMPING or STEADY step that does not
stop. A row that names such a step is that step (the model's reading: log 6); the step into RAMPING integrates no trim (log
13); and a step that changes both the state and the saturation hands the resolver one arrival, and so makes one resolution
(the model's reading: log 12). -/
def Obligations.ControlStepOccasions : Prop :=
  ∀ (st : Stream) (s : State), s.power = .running → ∀ g, g = measured st s → ∀ e, e = fanEnv s st →
    (∀ f, (g.state = .starting ∧ g.startKind = .normal ∧ g.qTarget < 60 ∧
          f = { g with state := .off, qCmd := 0, duty := 0, timer := 0 }) ∨
        (g.state = .starting ∧ g.startKind = .normal ∧ 60 ≤ g.qTarget ∧ 200 ≤ g.n ∧ ∃ c,
          c = (if st = .supply then min (min g.qMeas g.qTarget) s.fans.extract.qCmd else min g.qMeas g.qTarget) ∧
          f = { g with
            state := .ramping, qCmd := c, steadyCount := 0, satCount := 0, timer := 0, trim := if c = 0 then 0 else g.trim
            duty := if c = 0 then 0 else (min (max ((feedforwardDuty (s.settings.feedforward.get st) c : Int) + g.trim)
              s.settings.dutyMin) 1000).toNat }) ∨
        (g.state = .starting ∧ g.startKind = .spinTest ∧ 200 ≤ g.n ∧
          f = { g with state := .off, startKind := .normal, qCmd := 0, duty := 0, trim := 0, timer := 0 }) →
      ∃ t, exec (.controlStep st) s = .next t ∧ t.events = s.events ∧ Resolved t ∧
        t.res.count = (s.res.count + 1) % 65536 ∧
        t.fans.get st = { f with qTarget := (t.fans.get st).qTarget }) ∧
    (∀ f, (g.state = .starting ∧ g.startKind = .normal ∧ 60 ≤ g.qTarget ∧ g.n < 200 ∧ g.timer < 4 ∧
          f = { g with qCmd := 0, timer := g.timer + 1 }) ∨
        (g.state = .starting ∧ g.startKind = .spinTest ∧ g.n < 200 ∧ g.timer < 4 ∧
          f = { g with timer := g.timer + 1 }) ∨
        (g.state = .stalled ∧ 2 ≤ g.timer ∧ f = { g with duty := 0, qCmd := 0, trim := 0, timer := g.timer - 1 }) ∨
        (g.state = .failed ∧ f = { g with duty := 0, qCmd := 0, trim := 0, timer := 0 }) →
      ∃ t, exec (.controlStep st) s = .next t ∧ t.events = s.events ∧ t.res = s.res ∧ t.fans.get st = f) ∧
    (g.state = .steady → g.qTarget ≠ g.qCmd → 60 ≤ g.qTarget → ∃ t, exec (.controlStep st) s = .next t ∧
      (t.fans.get st).state = .ramping ∧ (t.fans.get st).timer = 0) ∧
    (g.state = .steady → g.qTarget = g.qCmd → 60 ≤ g.qTarget → g.timer ≠ 59 → ∃ t, exec (.controlStep st) s = .next t ∧
      (t.fans.get st).state = .steady ∧ (t.fans.get st).timer = min (g.timer + 1) 60 ∧
      (t.fans.get st).retry = g.retry ∧ (t.fans.get st).steadyCount = g.steadyCount) ∧
    (g.state = .ramping ∨ g.state = .steady → ∃ t, exec (.controlStep st) s = .next t ∧ ∀ f, f = t.fans.get st →
      (∀ c, g.satCap = some c → g.qTarget + 20 ≤ c → f.satCap = none ∧ HandedOn s t) ∧
      (60 ≤ g.qTarget ∨ 60 < f.qCmd →
        (g.state = .ramping ∨ g.qTarget ≠ g.qCmd →
          ∀ count, count = (if g.state = .ramping then g.steadyCount else 0) →
          ∀ met : Prop, (met ↔ f.qCmd = g.qTarget ∧
            (g.loop = .openLoop ∨ (f.qCmd ≤ g.qMeas + 20 ∧ g.qMeas ≤ f.qCmd + 20))) →
          (met → count < 4 → f.state = .ramping ∧ f.steadyCount = count + 1) ∧
          (met → 4 ≤ count → f.state = .steady ∧ f.steadyCount = 0 ∧ f.timer = 0) ∧
          (¬met → f.state = .ramping ∧ f.steadyCount = 0)) ∧
        ∀ cleared : Prop, (cleared ↔ ∃ c ∈ g.satCap, g.qTarget + 20 ≤ c) →
        ∀ count, (cleared → count = 0) → (¬cleared → count = g.satCount) →
        ∀ met : Prop, (met ↔ g.loop = .closed ∧ f.duty = 1000 ∧ g.qMeas + 20 < f.qCmd) →
          (¬met → f.satCount = 0) ∧ (met → count < 59 → f.satCount = count + 1) ∧
          (¬met ∨ count < 59 → ¬cleared → f.satCap = g.satCap) ∧
          (met → 59 ≤ count → exec (.fanSaturation st) s = .next t ∧ f.satCount = 0 ∧ f.satCap = some g.qMeas ∧
            t.hasEvent .fanSaturated = true ∧ HandedOn s t))) ∧
    (g.state = .ramping → 60 ≤ g.qTarget → coupled e (rampTo g.qCmd g.qTarget) = g.qTarget → 4 ≤ g.steadyCount →
      g.loop = .openLoop ∨ (g.qTarget ≤ g.qMeas + 20 ∧ g.qMeas ≤ g.qTarget + 20) →
      ∃ t, exec (.steadyEntry st) s = .next t ∧ (t.fans.get st).state = .steady ∧ (t.fans.get st).timer = 0 ∧
        (t.fans.get st).steadyCount = 0 ∧ (t.fans.get st).qCmd = g.qTarget) ∧
    (g.state = .steady → 60 ≤ g.qTarget → g.qTarget = g.qCmd → g.timer = 59 →
      ∃ t, exec (.retryCountClear st) s = .next t ∧ (t.fans.get st).state = .steady ∧ (t.fans.get st).retry = 0 ∧
        (t.fans.get st).timer = 60) ∧
    (g.state = .stalled → g.timer ≤ 1 →
      ∃ t, exec (.spinTestStart st) s = .next t ∧ (t.fans.get st).state = .starting ∧
        (t.fans.get st).startKind = .spinTest ∧ (t.fans.get st).timer = 0 ∧
        (t.fans.get st).duty = s.settings.dutyStart ∧ (t.fans.get st).retry = g.retry) ∧
    (g.state = .starting → g.startKind = .spinTest → g.n < 200 → 4 ≤ g.timer →
      ∃ t, exec (.spinTestFailed st) s = .next t ∧ (t.fans.get st).duty = 0 ∧ t.res.extTarget = 0 ∧
        t.res.supTarget = 0 ∧
        (g.retry < 2 → (t.fans.get st).state = .stalled ∧ (t.fans.get st).retry = g.retry + 1 ∧
          (t.fans.get st).timer = (if g.retry = 0 then 20 else 40) ∧ t.events = s.events) ∧
        (2 ≤ g.retry → (t.fans.get st).state = .failed ∧ (t.fans.get st).retry = 3 ∧ (t.fans.get st).timer = 0 ∧
          t.hasEvent .fanFailed = true)) ∧
    ∀ h, h = rampAndDrive e (targetCheck (steadyCheck g).1) →
      g.state = .ramping ∨ g.state = .steady → 60 ≤ g.qTarget → g.loop = .closed → 59 ≤ h.satCount →
      h.duty = 1000 → g.qMeas + 20 < h.qCmd →
      ∃ t, exec (.fanSaturation st) s = .next t ∧ (t.fans.get st).satCap = some g.qMeas ∧
        (t.fans.get st).saturated = true ∧ (t.fans.get st).satCount = 0 ∧ t.hasEvent .fanSaturated = true

/-- R35, R84: FAN_RECOVER returns a FAILED fan to OFF with retry count 0, is refused NOT_NOW for a fan in any other state, and
is refused BAD_VALUE for a stream that is neither SUPPLY nor EXTRACT. The supply fan's change of state tests the preheater
interlock, which an OFF fan breaks; of the frost record nothing else changes. -/
def Obligations.FanRecover : Prop :=
  ∀ (tag stream : Byte) (s : State), Accepts tag (.fanRecover stream) s →
    ∀ h, h = heard tag (.fanRecover stream) s →
      (∀ st, streamOf stream = some st → (h.fans.get st).state = .failed →
        ∃ u, exec (.fanRecover tag stream) s = .next (replied tag (.fanRecover stream) .ok [] u) ∧
          u = { h with
            fans := u.fans, res := u.res
            frost := if st = .supply then { h.frost with duty := 0, output := false } else h.frost } ∧
          u.fans.get st = { h.fans.get st with
            state := .off, retry := 0, startKind := .normal, qTarget := (u.fans.get st).qTarget } ∧
          u.fans.get (other st) =
            { h.fans.get (other st) with qTarget := (u.fans.get (other st)).qTarget } ∧
          u.res.count = (h.res.count + 1) % 65536 ∧ Resolved u) ∧
      (∀ st, streamOf stream = some st → (h.fans.get st).state ≠ .failed →
        exec (.fanRecover tag stream) s = .next (replied tag (.fanRecover stream) .notNow [] h)) ∧
      (2 ≤ stream.toNat →
        exec (.fanRecover tag stream) s = .next (replied tag (.fanRecover stream) .badValue [] h))

/-- R23: no command lets the supply commanded flow exceed the extract commanded flow. -/
def Obligations.SupplyNeverExceedsExtract : Prop :=
  ∀ s t : State, Coupled s → step s = .next t → Coupled t

/-! ### Demand and resolution -/

/-- R46: an accepted SET_DEMAND on HOST_BASE replaces the level with the clamped level, keeps the entry's created-at, raises
the change count and starts a resolution; demand_base is not changed. -/
def Obligations.SetDemandBase : Prop :=
  ∀ (tag : Byte) (level : Half) (s : State) (q : Request), q = .setDemand 0 0 level 0 0 → Accepts tag q s →
    ∀ h, h = heard tag q s →
      let l := min level.toNat h.settings.qRated
      ∃ u, exec (.setDemand tag 0 0 level 0 0) s =
          .next (replied tag q (if level.toNat ≤ h.settings.qRated then .ok else .clamped) (u16 l) u) ∧
        u = { h with
          demand := { h.demand with
            hostBase := { h.demand.hostBase with level := l }, changeCount := (h.demand.changeCount + 1) % 256 }
          fans := u.fans, res := u.res } ∧
        (∀ st, u.fans.get st = { h.fans.get st with qTarget := (u.fans.get st).qTarget }) ∧
        Resolved u ∧ u.res.count = (h.res.count + 1) % 65536

/-- R47: an accepted SET_DEMAND on HOST_TIMED inserts the entry of its slot with created-at the present uptime, or replaces
it and keeps its created-at; either way the expiry is the one carried, in full. -/
def Obligations.SetDemandTimed : Prop :=
  ∀ (tag key : Byte) (level expiry : Half) (exempt : Byte) (s : State) (q : Request),
    q = .setDemand 1 key level expiry exempt → 1 ≤ key.toNat → key.toNat ≤ 4 → expiry ≠ 0 → Accepts tag q s →
    ∀ h, h = heard tag q s →
      let l := min level.toNat h.settings.qRated
      ∃ u, exec (.setDemand tag 1 key level expiry exempt) s =
          .next (replied tag q (if level.toNat ≤ h.settings.qRated then .ok else .clamped) (u16 l) u) ∧
        u = { h with
          demand := { h.demand with timed := u.demand.timed, changeCount := (h.demand.changeCount + 1) % 256 }
          fans := u.fans, res := u.res } ∧
        (u.demand.slot key.toNat = some
          { level := l, expiry := some expiry.toNat, exempt := exempt != 0
            createdAt := match h.demand.slot key.toNat with
              | some old => old.createdAt
              | none => h.uptime
            ms := 0 }) ∧
        (∀ slot ≠ key.toNat, u.demand.slot slot = h.demand.slot slot) ∧
        (∀ st, u.fans.get st = { h.fans.get st with qTarget := (u.fans.get st).qTarget }) ∧
        Resolved u ∧ u.res.count = (h.res.count + 1) % 65536

/-- R45, R48: CLEAR_DEMAND, by source and key; and a SET_DEMAND that fails a check is refused BAD_VALUE and changes nothing. -/
def Obligations.ClearDemandAndRefusals : Prop :=
  (∀ (tag source key : Byte) (s : State) (q : Request), q = .clearDemand source key → Accepts tag q s →
    ∀ h, h = heard tag q s →
      (source = 0 → key = 0 → ∃ u, exec (.clearDemand tag source key) s = .next (replied tag q .ok [] u) ∧
        u = { h with
          demand := { h.demand with
            hostBase := { h.demand.hostBase with level := min h.settings.demandBase h.settings.qRated }
            changeCount := (h.demand.changeCount + 1) % 256 }
          fans := u.fans, res := u.res } ∧
        Resolved u ∧ u.res.count = (h.res.count + 1) % 65536) ∧
      (source = 1 → 1 ≤ key.toNat → key.toNat ≤ 4 → (h.demand.slot key.toNat).isSome = true →
        ∃ u, exec (.clearDemand tag source key) s = .next (replied tag q .ok [] u) ∧
          u = { h with
            demand := { h.demand with timed := u.demand.timed, changeCount := (h.demand.changeCount + 1) % 256 }
            fans := u.fans, res := u.res } ∧
          u.demand.slot key.toNat = none ∧ (∀ slot ≠ key.toNat, u.demand.slot slot = h.demand.slot slot) ∧
          Resolved u ∧ u.res.count = (h.res.count + 1) % 65536) ∧
      (source = 1 → 1 ≤ key.toNat → key.toNat ≤ 4 → h.demand.slot key.toNat = none →
        exec (.clearDemand tag source key) s = .next (replied tag q .noSuch [] h)) ∧
      (source = 1 → key = 0 ∨ 5 ≤ key.toNat →
        exec (.clearDemand tag source key) s = .next (replied tag q .badValue [] h)) ∧
      (source = 0 → key ≠ 0 → exec (.clearDemand tag source key) s = .next (replied tag q .badValue [] h)) ∧
      (2 ≤ source.toNat → exec (.clearDemand tag source key) s = .next (replied tag q .badValue [] h))) ∧
  ∀ (tag source key : Byte) (level expiry : Half) (exempt : Byte) (s : State) (q : Request),
    q = .setDemand source key level expiry exempt → Accepts tag q s →
    2 ≤ source.toNat ∨ (source = 0 ∧ (key ≠ 0 ∨ expiry ≠ 0 ∨ exempt ≠ 0)) ∨
      (source = 1 ∧ (key = 0 ∨ 5 ≤ key.toNat ∨ expiry = 0)) →
    exec (.setDemand tag source key level expiry exempt) s = .next (replied tag q .badValue [] (heard tag q s))

/-- R49: at its expiry a timed entry is removed, the change count rises, DEMAND_EXPIRED is raised and a resolution starts,
in every mode; for a slot with no entry, and for one whose entry a SET_DEMAND has replaced at that moment, so that it would
not fall from 1 to 0, nothing happens. -/
def Obligations.DemandExpiry : Prop :=
  ∀ (slot : Nat) (s : State), s.power = .running →
    (∀ e, s.demand.slot slot = some e → e.expiry = some 1 → 1000 ≤ e.ms → ∃ t, exec (.demandExpiry slot) s = .next t ∧
      t = { s with
        demand := { s.demand with timed := t.demand.timed, changeCount := (s.demand.changeCount + 1) % 256 }
        fans := t.fans, res := t.res, events := s.events ||| Event.demandExpired.bit } ∧
      t.demand.slot slot = none ∧ (∀ k ≠ slot, t.demand.slot k = s.demand.slot k) ∧
      (∀ st, t.fans.get st = { s.fans.get st with qTarget := (t.fans.get st).qTarget }) ∧
      Resolved t ∧ t.res.count = (s.res.count + 1) % 65536) ∧
    (s.demand.slot slot = none → exec (.demandExpiry slot) s = .next s) ∧
    ∀ e, s.demand.slot slot = some e → e.expiry ≠ some 1 ∨ e.ms < 1000 → exec (.demandExpiry slot) s = .next s

/-- R52 to R57, R59, R60: a resolution, stage by stage: the eligible entries and their levels, the largest of which is the
demand; the run band; each stream's cap; the supply before balance, by the window and the fan minimum; the extract, by the
allowance and the fan minimum; the stop on a fan fault or LOCK; and then the record with its reasons and its governing entry,
the first in table order. Nothing but the targets and the record changes. -/
def Obligations.ResolutionFollowsItsStages : Prop :=
  ∀ s : State, ∀ x, x = s.settings →
    ∀ eligibles : List (Source × Nat × DemandEntry), eligibles = s.demand.entries.filter (fun e =>
      decide (s.mode.mode = .run ∨ s.mode.mode = .quiet ∨ e.1 = .airing)) →
    ∀ level : Source × Nat × DemandEntry → Nat, level = (fun e =>
      if s.mode.mode = .quiet ∧ e.2.2.exempt = false then min e.2.2.level x.qQuiet else e.2.2.level) →
    ∀ d, ((eligibles = [] ∧ d = 0) ∨ ∃ e ∈ eligibles, level e = d) → (∀ e ∈ eligibles, level e ≤ d) →
    ∀ q, q = (if d = 0 then 0 else min (max d x.qMinRun) x.qRated) →
    ∀ cap : Stream → Nat, cap = (fun st =>
      let c := min x.qRated (s.filters.get st).ceiling
      match (s.fans.get st).satCap with
      | none => c
      | some sat => min c sat) →
    ∀ e0, e0 = min q (cap .extract) →
    ∀ windowed, windowed = e0 * s.frost.w / 16 →
    ∀ s0, s0 = (if min windowed (cap .supply) < 60 then 0 else min windowed (cap .supply)) →
    ∀ e1, e1 = (if min e0 (s0 + s.frost.allowance) < 60 then 0 else min e0 (s0 + s.frost.allowance)) →
    ∀ stopReason : Option Reason, stopReason = (if s.frost.stage = .lock then some .frostLock
      else if ∃ st ∈ [Stream.supply, .extract], (s.fans.get st).state = .stalled ∨ (s.fans.get st).state = .failed then
        some .fanFault
      else none) →
    ∀ capReason : Stream → Reason, capReason = (fun st =>
      if (s.fans.get st).satCap = some (cap st) then .saturation else .ceiling) →
    ∀ pre, pre = (if e0 < q then capReason .extract
      else if (s.mode.mode = .standby ∨ s.mode.mode = .standbyEntry) ∧ eligibles = [] then .standby
      else if s.mode.mode = .quiet ∧ ∃ e ∈ eligibles, d < e.2.2.level then .quiet
      else .demand) →
    ∀ r : Resolution, r =
      { extTarget := if stopReason.isSome then 0 else e1
        supTarget := if stopReason.isSome then 0 else min s0 e1
        extReason := stopReason.getD (if e1 = 0 ∧ 0 < e0 then .fanMin else if e1 < e0 then .allowance else pre)
        supReason := stopReason.getD
          (if (0 < min windowed (cap .supply) ∧ min windowed (cap .supply) < 60) ∨ (e1 = 0 ∧ 0 < s0) then .fanMin
          else if cap .supply < windowed then capReason .supply
          else if windowed < e0 then .window
          else pre)
        allowance := s.frost.allowance
        window := s.frost.w
        governing := (eligibles.find? fun e => level e == d).map fun e => (e.1, e.2.1)
        count := (s.res.count + 1) % 65536 } →
    targets s = (r.extTarget, r.supTarget) ∧ resolve s = { s with
      res := r
      fans := ⟨{ s.fans.supply with qTarget := r.supTarget }, { s.fans.extract with qTarget := r.extTarget }⟩ }

/-- R58: the five laws of the targets, which hold of what the stages give in every state, and each target's being 0 or at
least q_fan_min. -/
def Obligations.LawsOfTheTargets : Prop :=
  ∀ s : State,
    let e := (targets s).1
    let q := (targets s).2
    q ≤ e ∧ e ≤ q + s.frost.allowance ∧
      (fanFault s = true ∨ s.frost.stage = .lock → e = 0 ∧ q = 0) ∧
      (e ≤ s.filters.extract.ceiling ∧ e ≤ s.settings.qRated ∧ ∀ c, s.fans.extract.satCap = some c → e ≤ c) ∧
      (q ≤ s.filters.supply.ceiling ∧ q ≤ s.settings.qRated ∧ ∀ c, s.fans.supply.satCap = some c → q ≤ c) ∧
      (s.mode.mode.inStandby = true → s.demand.airing = none → e = 0 ∧ q = 0) ∧
      (e = 0 ∨ 60 ≤ e) ∧ (q = 0 ∨ 60 ≤ q)

/-- R44, R52, R57, R61: from the first resolution of a start-up on, while the part runs, the targets in the fan records and in
the resolution record are at every moment those that the stages give from the inputs as they stand: no step changes an input
without a resolution. -/
def Obligations.TargetsAreAlwaysSettled : Prop :=
  ∀ s t : State, Settled s → step s = .next t → Settled t

/-! ### Frost guarding -/

/-- R69 to R72: the evaluations that leave WATCH, shed, enter RECOVER and grow the window, each where no defrost trigger is
met at the same evaluation. The row is that evaluation (the model's reading: log 6). -/
def Obligations.FrostGuardingRows : Prop :=
  ∀ s : State, GuardsNormally s → WindowLegal s.frost → ¬IcingFound s → ¬DeepColdFound s →
    ∀ f, f = s.frost → ∀ d : Int, d = s.seq.published.tExh.value - guardNow s →
    (f.stage = .watch → 20 ≤ d → 299 ≤ f.watchExit → ∃ t, exec .watchExit s = .next t ∧ t.frost.stage = .idle ∧
      t.frost.w = f.w ∧ t.frost.s = f.s ∧ t.frost.allowance = s.settings.aNormal ∧ t.events = s.events ∧
      HandedOn s t) ∧
    (f.stage = .watch ∨ f.stage = .shed ∨ f.stage = .recover → d ≤ -10 → 119 ≤ f.cold →
      s.settings.preheatFitted = false ∨ f.duty = 100 → ∃ t, exec .shedEvent s = .next t ∧ HandedOn s t ∧
        t.frost.cold = 0 ∧
        (2 < f.w → t.frost.stage = .shed ∧ t.frost.s = max (f.w / 2) 2 ∧ t.frost.w = max (f.w / 2) 2 ∧
          t.frost.allowance = (if f.stage = .shed then f.allowance else s.settings.aShed) ∧
          t.frost.timer = (if f.stage = .shed then min (f.timer + 1) 65535 else 0) ∧
          t.events = s.events ||| Event.frostShed.bit) ∧
        (f.w = 2 → t.frost.stage = .defrost ∧ t.frost.wEntry = 2 ∧ t.frost.w = 0 ∧
          t.frost.allowance = s.settings.aDefrost ∧ t.frost.duty = 0 ∧
          t.events = s.events ||| Event.defrostStarted.bit)) ∧
    (f.stage = .shed → 0 < d → 119 ≤ f.warm → ∃ t, exec .recoverEntry s = .next t ∧ t.frost.stage = .recover ∧
      t.frost.w = f.w ∧ t.frost.s = f.s ∧ t.frost.allowance = s.settings.aNormal ∧ t.events = s.events ∧
      HandedOn s t) ∧
    (f.stage = .recover → 0 < d → 59 ≤ f.warm → ∃ t, exec .recoveryGrowth s = .next t ∧ t.frost.warm = 0 ∧
      t.frost.s = f.s ∧ t.events = s.events ∧ HandedOn s t ∧
      t.frost.stage = (if f.w < 16 then .recover else .idle) ∧
      t.frost.w = if f.w < f.s then min (2 * f.w) f.s else min (f.w + 1) 16)

/-- R73, R74, R75, R76: the evaluations that enter DEFROST by icing or deep cold, enter HOLD, make a hold check and leave
LOCK. The row is that evaluation (the model's reading: log 6). -/
def Obligations.FrostDefrostRows : Prop :=
  ∀ s : State, GuardsNormally s → ∀ f, f = s.frost →
    (∀ c, (c = .icingSignDefrost ∧ IcingFound s) ∨ (c = .deepColdDefrost ∧ DeepColdFound s) →
      f.stage = .idle ∨ f.stage = .watch ∨ f.stage = .shed ∨ f.stage = .recover → ∃ t, exec c s = .next t ∧
        t.frost.stage = .defrost ∧ t.frost.wEntry = f.w ∧ t.frost.w = 0 ∧ t.frost.s = f.s ∧ t.frost.timer = 0 ∧
        t.frost.icing = 0 ∧ t.frost.cold = 0 ∧ t.frost.deepCold = 0 ∧ t.frost.duty = 0 ∧
        t.frost.allowance = s.settings.aDefrost ∧ t.events = s.events ||| Event.defrostStarted.bit ∧ HandedOn s t) ∧
    (f.stage = .defrost → ¬Cleared s → 599 ≤ f.timer → ∃ t, exec .holdEntry s = .next t ∧ t.frost.stage = .hold ∧
      t.frost.holdInterval = 60 ∧ t.frost.holdChecks = 0 ∧ t.frost.timer = 0 ∧ t.frost.w = f.w ∧
      t.frost.allowance = s.settings.aDefrost ∧ t.events = s.events ||| Event.frostHold.bit ∧ HandedOn s t) ∧
    (f.stage = .hold → f.timer < 65535 → f.timer + 1 = f.holdInterval → ∃ t, exec .holdCheck s = .next t ∧
      t.frost.timer = 0 ∧
      (Cleared s → t.frost.stage = .recover ∧ t.frost.s = max (f.wEntry / 2) 2 ∧ t.frost.w = 2 ∧
        t.frost.allowance = s.settings.aNormal ∧ t.events = s.events ||| Event.defrostEnded.bit ∧ HandedOn s t) ∧
      (¬Cleared s → f.holdChecks < 4 → t.frost.stage = .hold ∧ t.frost.holdChecks = f.holdChecks + 1 ∧
        t.frost.holdInterval = min (2 * f.holdInterval) 960 ∧ t.frost.w = f.w ∧ t.events = s.events) ∧
      (¬Cleared s → 4 ≤ f.holdChecks → t.frost.stage = .lock ∧ t.frost.holdChecks = 5 ∧ t.frost.release = 0 ∧
        t.frost.w = f.w ∧ t.frost.allowance = 0 ∧ t.events = s.events ||| Event.frostLock.bit ∧ HandedOn s t ∧
        t.res.extTarget = 0 ∧ t.res.supTarget = 0)) ∧
    (f.stage = .lock → s.seq.published.tOut.validity ≠ .invalid → 30 ≤ s.seq.published.tOut.value →
      599 ≤ f.release → ∃ t, exec .lockRelease s = .next t ∧ t.frost.stage = .defrost ∧ t.frost.wEntry = 2 ∧
        t.frost.w = 0 ∧ t.frost.timer = 0 ∧ t.frost.allowance = s.settings.aDefrost ∧
        t.events = s.events ||| Event.defrostStarted.bit ∧ HandedOn s t)

/-- R63 to R67, R69, R70, R74, R76, R80 to R85: what one frost evaluation, the shared step of every frost row and of every
publication, does: T_g, the ratio, a learn that goes on or begins again, the icing-sign count, the block, the duty under the
interlock and the output; the four temperature counts of a guarding stage, the entry from IDLE to WATCH, and the evaluations
at which a stage goes on as it was, in either mode; a defrost that is cleared, the exhaust temperature's loss and return,
SHED and IDLE of the degraded cycle, and LOCK, in either mode and across a change of mode. -/
def Obligations.FrostEvaluationChanges : Prop :=
  ∀ s : State, s.power = .running → ∀ f, f = s.frost → ∀ t, t = (frostEvaluate s).1 → ∀ p, p = s.seq.published →
    ∀ ext, ext = s.fans.extract →
    (t.frost.tg = guardNow s ∧ t.frost.ratio = ratioNow s ∧
      (∀ h : Int, h = (if p.rhExt.validity = .invalid then 800 else p.rhExt.filtered.getD 800) →
        guardNow s = min (10 + Int.tdiv (max 0 (h - 400)) 20) 40) ∧
      resistanceNow s = (if 200 ≤ ext.qMeas ∧ ext.loop = .closed ∧ p.dpXe.validity = .valid then
        some ((p.dpXe.filtered.getD 0).toNat * 65536 / (ext.qMeas * ext.qMeas)) else none) ∧
      (∀ r r0, resistanceNow s = some r → f.rx0 = some r0 → ratioNow s = some (min (r * 100 / r0) 65534)) ∧
      (resistanceNow s = none ∨ f.rx0 = none → ratioNow s = none) ∧
      t.frost.block = (if p.tPre.validity = .valid ∧ 150 ≤ p.tPre.filtered.getD 0 then 120 else f.block - 1) ∧
      (∀ holds : Prop, (holds ↔ (t.frost.stage = .watch ∨ t.frost.stage = .shed ∨ t.frost.stage = .recover) ∧
          (s.fans.supply.state = .ramping ∨ s.fans.supply.state = .steady) ∧ 150 ≤ s.fans.supply.qMeas ∧
          p.tPre.validity = .valid ∧ s.seq.supplyLow = false ∧ s.settings.preheatFitted = true ∧ t.frost.block = 0) →
        (holds → t.frost.duty = (max 0 (min 100 ((s.settings.tPs - p.tPre.filtered.getD 0) * 2))).toNat) ∧
        (¬holds → t.frost.duty = 0)) ∧
      t.frost.windowMs = f.windowMs ∧
      t.frost.output = (f.output && decide (f.windowMs < t.frost.duty * 100))) ∧
    (∀ qualifies : Prop, (qualifies ↔ p.tOut.validity = .valid ∧ 50 ≤ p.tOut.filtered.getD 0 ∧ ext.state = .steady ∧
        f.stage = .idle ∧ ∃ r ∈ resistanceNow s, 1 ≤ r) →
      (f.learnActive = false → f.rx0.isSome = true → t.frost.learnActive = false ∧ t.frost.rx0 = f.rx0 ∧
        t.frost.learnCount = f.learnCount ∧ t.frost.learnSum = f.learnSum) ∧
      (f.learnActive = true ∨ f.rx0 = none → ¬qualifies → t.frost.learnActive = true ∧ t.frost.rx0 = f.rx0 ∧
        t.frost.learnCount = 0 ∧ t.frost.learnSum = 0) ∧
      (f.learnActive = true ∨ f.rx0 = none → qualifies → f.learnCount < 15 → t.frost.learnActive = true ∧
        t.frost.rx0 = f.rx0 ∧ t.frost.learnCount = f.learnCount + 1 ∧
        t.frost.learnSum = f.learnSum + (resistanceNow s).getD 0)) ∧
    (f.mode = .degraded ∨ f.stage = .defrost ∨ f.stage = .hold ∨ f.stage = .lock → t.frost.icing = 0) ∧
    (GuardsNormally s → t.frost.stage ≠ f.stage → t.frost.timer = 0 ∧ t.frost.warm = 0 ∧ t.frost.watchExit = 0) ∧
    (GuardsNormally s → f.stage = .defrost ∨ f.stage = .hold ∨ f.stage = .lock → t.frost.cold = 0 ∧
      t.frost.deepCold = 0 ∧ t.frost.warm = 0 ∧ t.frost.watchExit = 0) ∧
    (GuardsNormally s → f.stage = .idle ∨ f.stage = .watch ∨ f.stage = .shed ∨ f.stage = .recover →
      ¬IcingFound s → ¬DeepColdFound s → ∀ d : Int, d = p.tExh.filtered.getD 0 - guardNow s →
      (t.frost.stage ≠ .defrost → t.frost.deepCold = if d ≤ -30 then min (f.deepCold + 1) 900 else 0) ∧
      (t.frost.stage ≠ .defrost → f.learnCount < 15 ∨ f.stage ≠ .idle → t.frost.icing = (match ratioNow s with
        | some r => if 130 ≤ r then f.icing + 1 else 0
        | none => f.icing)) ∧
      (f.stage = .idle → d ≤ 0 → t.frost.stage = .watch ∧ t.frost.w = f.w ∧ t.frost.s = f.s ∧
        t.frost.allowance = s.settings.aNormal ∧ t.frost.cold = (if d ≤ -10 then min (f.cold + 1) 120 else 0) ∧
        t.events = s.events ∧ HandedOn s t) ∧
      ((f.stage = .idle ∧ 0 < d) ∨
        ((-10 < d ∨ f.cold < 119 ∨ (s.settings.preheatFitted = true ∧ f.duty ≠ 100)) ∧
          ((f.stage = .watch ∧ (d < 20 ∨ f.watchExit < 299)) ∨ (f.stage = .shed ∧ (d ≤ 0 ∨ f.warm < 119)) ∨
            (f.stage = .recover ∧ (d ≤ 0 ∨ f.warm < 59)))) → StageGoesOn s t ∧
        t.frost.cold = (if d ≤ -10 then min (f.cold + 1) 120 else 0) ∧
        t.frost.warm = (if 0 < d then min (f.warm + 1) 120 else 0) ∧
        t.frost.watchExit =
          if f.stage = .watch then (if 20 ≤ d then min (f.watchExit + 1) 300 else 0) else f.watchExit)) ∧
    (GuardsNormally s → (f.stage = .defrost ∧ ¬Cleared s ∧ f.timer < 599) ∨
      (f.stage = .hold ∧ min (f.timer + 1) 65535 ≠ f.holdInterval) → StageGoesOn s t) ∧
    (f.mode = .degraded → p.tExh.validity = .invalid → t.frost.mode = .degraded ∧
      (f.stage = .idle → OutsideCold s → t.frost.stage = .shed ∧ t.frost.w = 8 ∧ t.frost.s = 8 ∧ t.frost.timer = 0 ∧
        t.frost.allowance = s.settings.aShed ∧ t.events = s.events ||| Event.frostShed.bit ∧ HandedOn s t) ∧
      (f.stage = .shed → ¬OutsideCold s → t.frost.stage = .idle ∧ t.frost.w = 16 ∧ t.frost.s = 16 ∧
        t.frost.allowance = s.settings.aNormal ∧ t.events = s.events ∧ HandedOn s t) ∧
      ((f.stage = .idle ∧ ¬OutsideCold s) ∨ (f.stage = .shed ∧ OutsideCold s ∧ f.timer < 1799) ∨
        (f.stage = .defrost ∧ f.timer < 299) → StageGoesOn s t)) ∧
    (GuardsNormally s → f.stage = .defrost → Cleared s → t.frost.stage = .recover ∧
      t.frost.s = max (f.wEntry / 2) 2 ∧ t.frost.w = 2 ∧ t.frost.allowance = s.settings.aNormal ∧
      t.events = s.events ||| Event.defrostEnded.bit) ∧
    (f.mode = .normal → s.seq.published.tExh.validity = .invalid → t.frost.mode = .degraded ∧
      t.hasEvent .frostDegraded = true ∧ t.frost.icing = 0 ∧ t.frost.cold = 0 ∧ t.frost.deepCold = 0 ∧
      t.frost.warm = 0 ∧ t.frost.watchExit = 0 ∧
      (f.stage = .idle ∨ f.stage = .watch ∨ f.stage = .shed ∨ f.stage = .recover →
        (OutsideCold s → t.frost.stage = .shed ∧ t.frost.w = 8 ∧ t.frost.s = 8 ∧ t.frost.timer = 0 ∧
          t.hasEvent .frostShed = true) ∧
        (¬OutsideCold s → t.frost.stage = .idle ∧ t.frost.w = 16 ∧ t.frost.s = 16)) ∧
      (f.stage = .defrost ∨ f.stage = .hold → t.frost.stage = .defrost ∧ t.frost.timer = 0 ∧ t.frost.w = 0 ∧
        t.frost.wEntry = f.wEntry)) ∧
    (f.mode = .degraded → s.seq.published.tExh.validity ≠ .invalid → t.frost.mode = .normal ∧
      (f.stage = .idle ∨ f.stage = .shed → ¬DeepColdFound s → f.cold < 119 → t.frost.stage = .recover ∧
          t.frost.w = f.w ∧ t.frost.s = max (f.w / 2) 2 ∧
          t.frost.timer = 0 ∧ t.frost.allowance = s.settings.aNormal ∧ t.events = s.events) ∧
      (f.stage = .defrost → ¬Cleared s → t.frost.stage = .defrost ∧ t.frost.timer = 0 ∧
        t.frost.wEntry = f.wEntry ∧ t.events = s.events)) ∧
    (f.stage = .lock → t.frost.mode = (if s.seq.published.tExh.validity = .invalid then .degraded else .normal) ∧
      ∀ warm : Prop, (warm ↔ s.seq.published.tOut.validity ≠ .invalid ∧ 30 ≤ s.seq.published.tOut.value) →
        (¬warm → t.frost.release = 0) ∧
        (warm → f.release < 599 → t.frost.release = f.release + 1) ∧
        (¬warm ∨ f.release < 599 → t.frost.stage = .lock ∧ t.frost.w = f.w ∧ t.frost.s = f.s ∧
          t.frost.allowance = f.allowance ∧ t.events = if f.mode = .normal ∧ t.frost.mode = .degraded then
            s.events ||| Event.frostDegraded.bit else s.events) ∧
        (warm → 599 ≤ f.release → exec .lockRelease s = .next t ∧ t.frost.stage = .defrost ∧ t.frost.wEntry = 2 ∧
          t.frost.w = 0 ∧ t.frost.timer = 0 ∧ t.frost.allowance = s.settings.aDefrost ∧
          t.hasEvent .defrostStarted = true ∧ HandedOn s t))

/-- R67, R81, R83, R85: the rows of the degraded cycle, of a completed learn, of the overtemperature block's end and of the
preheater output. A row of the first three is its evaluation (the model's reading: log 6). That PREHEAT_ON_TIME_END moves the
window's elapsed time up to duty × 100 ms whatever it shows is the model's choice (log 10). -/
def Obligations.DegradedLearnAndPreheatRows : Prop :=
  ∀ s : State, s.power = .running → ∀ f, f = s.frost →
    (f.mode = .degraded → s.seq.published.tExh.validity = .invalid →
      (f.stage = .shed → OutsideCold s → 1799 ≤ f.timer → ∃ t, exec .degradedTimedDefrost s = .next t ∧
        t.frost.stage = .defrost ∧ t.frost.wEntry = 8 ∧ t.frost.w = 0 ∧ t.frost.timer = 0 ∧
        t.frost.allowance = s.settings.aDefrost ∧ t.events = s.events ||| Event.defrostStarted.bit ∧
        HandedOn s t) ∧
      (f.stage = .defrost → 299 ≤ f.timer → ∃ t, exec .degradedDefrostEnd s = .next t ∧ HandedOn s t ∧
        (OutsideCold s → t.frost.stage = .shed ∧ t.frost.w = 8 ∧ t.frost.s = 8 ∧ t.frost.timer = 0 ∧
          t.frost.allowance = s.settings.aShed ∧
          t.events = s.events ||| Event.defrostEnded.bit ||| Event.frostShed.bit) ∧
        (¬OutsideCold s → t.frost.stage = .idle ∧ t.frost.w = 16 ∧ t.frost.s = 16 ∧
          t.frost.allowance = s.settings.aNormal ∧ t.events = s.events ||| Event.defrostEnded.bit))) ∧
    (∀ r, resistanceNow s = some r → 1 ≤ r → s.seq.published.tOut.validity = .valid →
      50 ≤ s.seq.published.tOut.value → s.fans.extract.state = .steady → f.stage = .idle → 15 ≤ f.learnCount →
      f.learnActive = true ∨ f.rx0 = none → ∃ t, exec .exchangerLearnComplete s = .next t ∧
        t.frost.rx0 = some ((f.learnSum + r) / 16) ∧ t.frost.learnActive = false ∧ t.frost.learnCount = 0 ∧
        t.frost.learnSum = 0 ∧ t.frost.icing = 0 ∧
        (s.store.closed = false → s.store.writing = none →
          t.store.writing.map (·.rx0) = some (some ((f.learnSum + r) / 16))) ∧
        (s.store.closed = false → s.store.writing.isSome = true → t.store.savePending = true)) ∧
    (f.block = 1 → s.seq.published.tPre.validity ≠ .valid ∨ s.seq.published.tPre.value < 150 →
      ∃ t, exec .overtempBlockEnd s = .next t ∧ t.frost.block = 0) ∧
    exec .preheatWindow s = .next { s with frost := { f with windowMs := 0, output := decide (0 < f.duty) } } ∧
    (f.output = true → f.duty < 100 → exec .preheatOnTimeEnd s =
      .next { s with frost := { f with windowMs := max f.windowMs (f.duty * 100), output := false } })

/-- R68, R73, R76, R77, R78, R84: FORCE_DEFROST, FROST_RELEASE and LEARN_EXCHANGER, with their refusals. -/
def Obligations.FrostRequests : Prop :=
  ∀ (tag : Byte) (s : State),
    (∀ (q : Request) (w : Nat), Accepts tag q s → ∀ h, h = heard tag q s →
      (q = .forceDefrost ∧ w = h.frost.w ∧ h.frost.stage ≠ .defrost ∧ h.frost.stage ≠ .hold ∧
        h.frost.stage ≠ .lock) ∨ (q = .frostRelease ∧ w = 2 ∧ h.frost.stage = .lock) →
      ∃ u, exec (q.toInstr tag) s = .next (replied tag q .ok [] u) ∧
        u = { h with
          frost := { h.frost with
            stage := .defrost, wEntry := w, w := 0, timer := 0, icing := 0, cold := 0, deepCold := 0, warm := 0
            watchExit := 0, allowance := h.settings.aDefrost, duty := 0, output := false }
          fans := u.fans, res := u.res, events := h.events ||| Event.defrostStarted.bit } ∧
        (∀ st, u.fans.get st = { h.fans.get st with qTarget := (u.fans.get st).qTarget }) ∧ HandedOn h u) ∧
    (∀ q : Request, Accepts tag q s → ∀ h, h = heard tag q s →
      (q = .forceDefrost ∧ (h.frost.stage = .defrost ∨ h.frost.stage = .hold ∨ h.frost.stage = .lock)) ∨
        (q = .frostRelease ∧ h.frost.stage ≠ .lock) →
      exec (q.toInstr tag) s = .next (replied tag q .notNow [] h)) ∧
    ∀ q, q = .learnExchanger → Accepts tag q s → ∀ h, h = heard tag q s →
      exec (.learnExchanger tag) s = .next (replied tag q .ok []
        { h with frost := { h.frost with learnActive := true, learnCount := 0, learnSum := 0 } })

/-- R79: on every step the window stays 0 exactly in DEFROST, HOLD and LOCK and 2..16 elsewhere, and the threshold stays
2..16. -/
def Obligations.WindowStaysLegal : Prop :=
  ∀ s t : State, WindowLegal s.frost → step s = .next t → WindowLegal t.frost

/-- R83, R84: on every step the preheater duty stays 0 unless the interlock holds, and a duty of 0 holds the output off. -/
def Obligations.PreheatOnlyUnderInterlock : Prop :=
  ∀ s t : State, PreheatLegal s → step s = .next t → PreheatLegal t


/-! ### Filter supervision -/

/-- R89, R90, R91, R92, R93, R94: a sample's judgement, and what it does to the record by its outcome and the record's state;
the sample that completes a learn is FILTER_LEARN_COMPLETE. -/
def Obligations.FilterSamples : Prop :=
  ∀ (st : Stream) (s : State), s.power = .running → ∀ f, f = s.filters.get st → ∀ fan, fan = s.fans.get st →
    ∀ dp, dp = (if st = .supply then s.seq.published.dpFs else s.seq.published.dpFe) →
    ∀ r, r = (dp.filtered.getD 0).toNat * 65536 / (fan.qMeas * fan.qMeas) →
    ∃ t, exec (.filterSample st) s = .next t ∧ ∀ g, g = t.filters.get st →
      g.lastOutcome =
        (if fan.state ≠ .steady then .fanNotSteady
        else if fan.loop ≠ .closed then .openLoop
        else if fan.qMeas < 200 then .lowFlow
        else if dp.validity ≠ .valid then .channelNotValid
        else if s.frost.stage = .defrost ∨ s.frost.stage = .hold ∨ s.frost.stage = .lock then .frost
        else if r = 0 then .zeroResistance
        else .valid) ∧
      (g.lastOutcome ≠ .valid ∨ f.state = .unknown → g =
        { f with
          lastOutcome := g.lastOutcome, state := g.state, ceiling := g.ceiling
          lastResistance := if g.lastOutcome = .valid then some r else f.lastResistance }) ∧
      (g.lastOutcome = .valid → f.state = .learning → f.learnCount < 15 → g =
        { f with
          lastOutcome := .valid, lastResistance := some r, ceiling := g.ceiling, learnCount := f.learnCount + 1
          learnSum := f.learnSum + r }) ∧
      (g.lastOutcome = .valid → f.state = .learning → 15 ≤ f.learnCount →
        exec (.filterLearnComplete st) s = .next t ∧ t.hasEvent .filterLearned = true ∧ 2 ≤ g.state.rank ∧ g =
          { f with
            lastOutcome := .valid, lastResistance := some r, ceiling := g.ceiling, state := g.state
            rf0 := some ((f.learnSum + r) / 16), rAvg := some ((f.learnSum + r) / 16), loading := some 100
            learnCount := 0, learnSum := 0 }) ∧
      (g.lastOutcome = .valid → 2 ≤ f.state.rank → ∀ a, f.rAvg = some a → ∀ rf0, f.rf0 = some rf0 →
        ∀ a', a' = ((a : Int) + Int.tdiv ((r : Int) - a) 16).toNat → g =
          { f with
            lastOutcome := .valid, lastResistance := some r, ceiling := g.ceiling, state := g.state
            rAvg := some a', loading := some (max 50 (min (a' * 100 / rf0) 999)) })

/-- R97, R99: at each sample the record steps to the highest state whose condition holds, with that state's event and a save,
and its ceiling is formed anew; a changed ceiling starts a resolution. -/
def Obligations.FilterSteps : Prop :=
  ∀ (st : Stream) (s : State), s.power = .running → ∀ f, f = s.filters.get st →
    ∃ t, exec (.filterSample st) s = .next t ∧ ∀ g, g = t.filters.get st → ∀ l, l = g.loading.getD 0 →
      ∀ done, done = (g.lastOutcome == .valid && f.state == .learning && 15 ≤ f.learnCount) →
      ∀ base : FilterState, base = (if done = true then .clean else f.state) →
      g.state =
        (if base = .unknown ∨ base = .learning ∨ base = .blocked then base
        else if 400 ≤ l then .blocked
        else if base = .due ∨ 250 ≤ l ∨ s.settings.doseLimit ≤ g.dose ∨ s.settings.hoursLimit ≤ g.hours then .due
        else if base = .loaded ∨ 150 ≤ l then .loaded
        else .clean) ∧
      t.events = (s.events ||| (if done = true then Event.filterLearned.bit else 0#30) |||
        if g.state = base then 0#30 else if g.state = .loaded then Event.filterLoaded.bit
        else if g.state = .due then Event.filterDue.bit else Event.filterBlocked.bit) ∧
      g.ceiling = (if g.state = .blocked then
          clampN (s.settings.qRated * 200 / g.loading.getD 100) s.settings.qMinRun s.settings.qRated
        else s.settings.qRated) ∧
      (g.ceiling = f.ceiling → t.fans = s.fans ∧ t.res = s.res) ∧ (g.ceiling ≠ f.ceiling → HandedOn s t) ∧
      (done = false → g.state = base → t.store = s.store) ∧
      (done = true ∨ g.state ≠ base → s.store.closed = false → s.store.writing = none →
        t.store.writing.isSome = true ∧ t.store.image = none)

/-- R95, R96, R97, R99: an accumulation step adds the flow to the dose and a second to the hours; the steps at which the dose
or the hours rise are DOSE_UNIT and FILTER_HOUR, and they alone may step the record's state, each to the highest state whose
condition holds above the present one, with its event, its ceiling and a save, or to none. That the dose part and its check
come before the hours part is the model's choice (log 35). -/
def Obligations.FilterAccumulation : Prop :=
  ∀ (st : Stream) (s : State), s.power = .running → ∀ f, f = s.filters.get st → ∀ q, q = (s.fans.get st).qMeas →
    ∃ t, exec (.accumulationStep st) s = .next t ∧ ∀ g, g = t.filters.get st →
      (f.doseAcc + q < 100000 → g.doseAcc = f.doseAcc + q ∧ g.dose = f.dose) ∧
      (100000 ≤ f.doseAcc + q → g.doseAcc = f.doseAcc + q - 100000 ∧
        (f.dose < 65535 → g.dose = f.dose + 1 ∧ exec (.doseUnit st) s = .next t) ∧
        (65535 ≤ f.dose → g.dose = f.dose)) ∧
      (q = 0 → g.runSeconds = f.runSeconds ∧ g.hours = f.hours) ∧
      (0 < q → f.runSeconds < 3599 → g.runSeconds = f.runSeconds + 1 ∧ g.hours = f.hours) ∧
      (0 < q → 3599 ≤ f.runSeconds → g.runSeconds = 0 ∧
        (f.hours < 65535 → g.hours = f.hours + 1 ∧ exec (.filterHour st) s = .next t) ∧
        (65535 ≤ f.hours → g.hours = f.hours)) ∧
      g = { f with
        doseAcc := g.doseAcc, dose := g.dose, runSeconds := g.runSeconds, hours := g.hours, state := g.state
        ceiling := g.ceiling } ∧
      (g.dose = f.dose → g.hours = f.hours → g.state = f.state ∧ g.ceiling = f.ceiling) ∧
      (∀ stepped : FilterState → Nat → Nat → FilterState, stepped = (fun x dose hours =>
          if x = .unknown ∨ x = .learning ∨ x = .blocked then x
          else if 400 ≤ f.loading.getD 0 then .blocked
          else if x = .due ∨ 250 ≤ f.loading.getD 0 ∨ s.settings.doseLimit ≤ dose ∨ s.settings.hoursLimit ≤ hours then .due
          else if x = .loaded ∨ 150 ≤ f.loading.getD 0 then .loaded
          else .clean) →
        ∀ raised : FilterState → FilterState → BitVec 30, raised = (fun x y =>
          if y = x then 0#30 else if y = .loaded then Event.filterLoaded.bit
          else if y = .due then Event.filterDue.bit else Event.filterBlocked.bit) →
        ∀ m, m = (if g.dose = f.dose then f.state else stepped f.state g.dose f.hours) →
        g.state = (if g.hours = f.hours then m else stepped m g.dose g.hours) ∧
        t.events = (s.events ||| raised f.state m ||| raised m g.state) ∧
        (g.state = f.state → g.ceiling = f.ceiling ∧ t.store = s.store) ∧
        (g.state ≠ f.state → g.ceiling = (if g.state = .blocked then
            clampN (s.settings.qRated * 200 / f.loading.getD 100) s.settings.qMinRun s.settings.qRated
          else s.settings.qRated)) ∧
        (g.state ≠ f.state → s.store.closed = false → s.store.writing = none → t.store.writing.isSome = true ∧
          t.store.image = none) ∧
        (g.ceiling = f.ceiling → t.fans = s.fans ∧ t.res = s.res) ∧ (g.ceiling ≠ f.ceiling → HandedOn s t)) ∧
      (g.dose ≠ f.dose ∨ g.hours ≠ f.hours → f.state = .clean → f.loading.getD 0 < 250 →
        s.settings.doseLimit ≤ g.dose ∨ s.settings.hoursLimit ≤ g.hours → g.state = .due ∧
          t.hasEvent .filterDue = true)

/-- R37, R99, R100: FILTER_RESET makes the record a new filter's, opens its ceiling, clears its own fan's saturation, if it
has one, and asks for a save, and changes of the fans nothing but that and the targets; each of a ceiling opened and a
saturation cleared starts a resolution, and where there is neither no target and no resolution changes. A request that names
no filter is refused. -/
def Obligations.FilterReset : Prop :=
  ∀ (tag filter : Byte) (s : State) (q : Request), q = .filterReset filter → Accepts tag q s →
    ∀ h, h = heard tag q s →
      (∀ st, streamOf filter = some st → ∃ u, exec (.filterReset tag filter) s = .next (replied tag q .ok [] u) ∧
        u = askSave { h with filters := u.filters, fans := u.fans, res := u.res } ∧
        (∀ f, f = h.fans.get st → u.fans.get st = { f with
          qTarget := (u.fans.get st).qTarget, satCap := none, satCount := if f.satCap = none then f.satCount else 0 }) ∧
        u.fans.get (other st) =
          { h.fans.get (other st) with qTarget := (u.fans.get (other st)).qTarget } ∧
        ((h.filters.get st).ceiling = h.settings.qRated → (h.fans.get st).satCap = none →
          u.fans = h.fans ∧ u.res = h.res) ∧
        ((h.filters.get st).ceiling ≠ h.settings.qRated ∨ (h.fans.get st).satCap ≠ none → Resolved u ∧
          u.res.count = (h.res.count + (if (h.filters.get st).ceiling = h.settings.qRated then 0 else 1) +
            (if (h.fans.get st).satCap = none then 0 else 1)) % 65536) ∧
        u = { h with filters := u.filters, fans := u.fans, res := u.res, store := u.store } ∧
        u.filters.get st =
          { state := .learning, rf0 := none, rAvg := none, loading := none, learnCount := 0, learnSum := 0
            lastResistance := none, lastOutcome := (h.filters.get st).lastOutcome, dose := 0, doseAcc := 0
            hours := 0, runSeconds := 0, ceiling := h.settings.qRated } ∧
        u.filters.get (other st) = h.filters.get (other st) ∧ (u.fans.get st).saturated = false ∧
        (h.store.closed = false → h.store.writing = none → u.store.writing.isSome = true) ∧
        (h.store.closed = false → h.store.writing.isSome = true → u.store.savePending = true)) ∧
      (2 ≤ filter.toNat → exec (.filterReset tag filter) s = .next (replied tag q .badValue [] h))

/-- R21, R23, R32, R38, R63, R67, R83, R84, R89, R95, R97: what the rows of the fans, of frost guarding and of the filters
may change. A fan row: the two fans, the resolution record, the events and the preheater, and of the other fan only its
target and, where an extract row lowers its commanded flow, the supply's, which is clipped to it. A frost row: the frost
record, each fan's target, the resolution record and the events, and, at the sixteenth scan of a learn that was active or had
no reference, the store by one ask for a save. A filter row: that filter's record, each fan's target, the resolution record,
the events and the store. -/
def Obligations.FanFrostAndFilterFrames : Prop :=
  (∀ (st : Stream) (s t : State), ∀ c ∈ [Instr.controlStep st, .startAttemptFailed st, .steadyEntry st,
      .retryCountClear st, .spinTestStart st, .spinTestFailed st, .fanSaturation st, .tachAbsence st],
    exec c s = .next t →
      t = { s with
        fans := t.fans, res := t.res, events := t.events
        frost := { s.frost with duty := t.frost.duty, output := t.frost.output } } ∧
      t.fans.get (other st) = { s.fans.get (other st) with
        qTarget := (t.fans.get (other st)).qTarget, qCmd := (t.fans.get (other st)).qCmd } ∧
      (st = .supply → t.fans.extract.qCmd = s.fans.extract.qCmd) ∧
      (st = .extract → t.fans.supply.qCmd = if t.fans.extract.qCmd < s.fans.extract.qCmd then
        min s.fans.supply.qCmd t.fans.extract.qCmd else s.fans.supply.qCmd)) ∧
  (∀ s t : State, ∀ c ∈ [Instr.watchExit, .shedEvent, .icingSignDefrost, .deepColdDefrost, .recoverEntry,
      .recoveryGrowth, .holdEntry, .holdCheck, .lockRelease, .degradedTimedDefrost, .degradedDefrostEnd,
      .exchangerLearnComplete, .overtempBlockEnd, .preheatWindow, .preheatOnTimeEnd],
    exec c s = .next t →
      t = { s with frost := t.frost, fans := t.fans, res := t.res, events := t.events, store := t.store } ∧
      (∀ st, t.fans.get st = { s.fans.get st with qTarget := (t.fans.get st).qTarget }) ∧
      (t.store = s.store ∨ ((s.frost.learnActive = true ∨ s.frost.rx0 = none) ∧ 15 ≤ s.frost.learnCount ∧
        t.frost.rx0.isSome = true ∧ t.frost.learnActive = false ∧ t.frost.learnCount = 0 ∧ s.store.closed = false ∧
        exec .exchangerLearnComplete s = .next t ∧
        t = askSave { s with frost := t.frost, fans := t.fans, res := t.res, events := t.events }))) ∧
  ∀ (st : Stream) (s t : State), ∀ c ∈ [Instr.filterSample st, .filterLearnComplete st, .accumulationStep st,
      .doseUnit st, .filterHour st],
    exec c s = .next t →
      t = { s with filters := t.filters, fans := t.fans, res := t.res, events := t.events, store := t.store } ∧
      t.filters.get (other st) = s.filters.get (other st) ∧
      ∀ st', t.fans.get st' = { s.fans.get st' with qTarget := (t.fans.get st').qTarget }

/-- R98: between resets no command moves a filter's state down its order or lowers its dose or hours, but a FILTER_RESET
of that filter. -/
def Obligations.FilterNeverGoesBack : Prop :=
  ∀ (c : Instr) (s t : State) (st : Stream), exec c s = .next t → resets c s = false →
    (∀ tag filter, c = .filterReset tag filter → streamOf filter ≠ some st) →
    (s.filters.get st).state.rank ≤ (t.filters.get st).state.rank ∧
      (s.filters.get st).dose ≤ (t.filters.get st).dose ∧ (s.filters.get st).hours ≤ (t.filters.get st).hours


/-! ### The room line -/

/-- R106, R107, R108, R110, R113, R115, R117, R118: the line's timed rows, each where it acts and where it does not. A POLL
carries the line's level, which holds it back while a node holds the line low. That a row which marks the passing of time
compares no timer, and that DISCOVERY_TIMER_EXPIRY moves the timer to 86 400, is the model's choice (log 10), as are how the
level is held (log 22) and a call pulse's being disregarded in the settling time (log 36). -/
def Obligations.LineTimedRows : Prop :=
  ∀ s : State, s.power = .running → ∀ l, l = s.line →
    exec .pollCycleDue s = .next { s with line := { l with cycleDue := l.state == .active } } ∧
    (∀ x, l.txn = some x →
      (x.phase = .due → exec (.poll false) s =
        .next { s with line := { l with heldLow := false, txn := some { x with phase := .exchange, ms := 0 } } }) ∧
      (x.phase = .gap → exec .waitGapEnd s =
        .next { s with line := { l with txn := some { x with phase := .due, ms := 0 } } }) ∧
      (x.phase = .rest → exec .conflictRestEnd s =
        .next { s with line := { l with txn := some { x with phase := .due, ms := 0 } } })) ∧
    exec (.poll true) s = .next { s with line := { l with heldLow := true } } ∧
    ((l.txn.map (·.phase)) ≠ some .due → exec (.poll false) s = .next { s with line := { l with heldLow := false } }) ∧
    ((l.txn.map (·.phase)) ≠ some .gap → exec .waitGapEnd s = .next s) ∧
    ((l.txn.map (·.phase)) ≠ some .rest → exec .conflictRestEnd s = .next s) ∧
    (l.state = .fault → exec .suspensionEnd s =
      .next { s with line := { l with state := .active, suspension := 0, cycleDue := true } }) ∧
    (l.state ≠ .fault → exec .suspensionEnd s = .next s) ∧
    (l.state ≠ .off → (l.txn.map (·.phase)) ≠ some .exchange →
      exec .callPulse s = .next { s with line := { l with callPending := true, heldLow := true } }) ∧
    (l.state = .off ∨ (l.txn.map (·.phase)) = some .exchange → exec .callPulse s = .next s) ∧
    exec .discoveryTimerExpiry s = .next { s with line := { l with discTimer := 86400, discPending := true } } ∧
    (l.powered = true → exec .overcurrent s = .next { s with
      line := { l with
        state := .off, powered := false, heldLow := false, suspension := 0, restart := 60, lineMs := 0, job := .noJob
        pos := none, sweep := none, txn := none, callPending := l.callPending || l.job == .callSweep
        discPending := l.discPending || l.job == .discovery }
      events := s.events ||| Event.lineFault.bit }) ∧
    (l.powered = false → exec .overcurrent s = .next s) ∧
    (l.state = .off → l.powered = false → exec .lineSettleEnd s = .next s ∧ exec .lineRestart s =
      .next { s with line := { l with powered := true, restart := 0, lineMs := 0 } }) ∧
    (l.state = .off → l.powered = true → exec .lineRestart s = .next s ∧ exec .lineSettleEnd s =
      .next { s with line := { l with state := .active, conflicts := 0, cycleDue := true } }) ∧
    (l.state ≠ .off → exec .lineRestart s = .next s ∧ exec .lineSettleEnd s = .next s)

/-- R109, R110, R113, R116: the idle ACTIVE line starts the call sweep first, then the poll cycle, then the discovery sweep,
clears that job's flag, and polls the first row or the lowest free address. -/
def Obligations.JobsStartInOrder : Prop :=
  ∀ s : State, s.power = .running → s.line.state = .active → s.line.job = .noJob → ∀ l, l = s.line →
    (∀ p r, 1 ≤ p → p ≤ 6 → rowAt s.nodes p = some r →
      (l.callPending = true → r.presence ≠ .lost →
        (∀ k r', 1 ≤ k → k < p → rowAt s.nodes k = some r' → r'.presence = .lost) → exec .jobStart s = .next { s with
          line := { l with
            callPending := false, job := .callSweep, pos := some p
            txn := some ⟨r.address, r.seqBit, 1, 0, .due, 0⟩ } }) ∧
      (l.callPending = false → l.cycleDue = true → (∀ k, 1 ≤ k → k < p → rowAt s.nodes k = none) →
        exec .jobStart s = .next { s with
          line := { l with
            cycleDue := false, job := .pollCycle, conflicts := 0, pos := some p
            txn := some ⟨r.address, r.seqBit, 1, 0, .due, 0⟩ } })) ∧
    (∀ a, 1 ≤ a → a ≤ 30 → rowOf s.nodes a = none → (∀ k, 1 ≤ k → k < a → (rowOf s.nodes k).isSome = true) →
      l.callPending = false → l.cycleDue = false → l.discPending = true → exec .jobStart s = .next { s with
        line := { l with
          discPending := false, job := .discovery, ignored := 0, discTimer := 0, discMs := 0, sweep := some a
          txn := some ⟨a, false, 1, 0, .due, 0⟩ } }) ∧
    (l.callPending = true → (∀ k r', rowAt s.nodes k = some r' → r'.presence = .lost) → exec .jobStart s = .next { s with
      line := { l with callPending := false, job := .noJob, pos := none, sweep := none, txn := none } }) ∧
    (l.callPending = false → l.cycleDue = true → (∀ k, rowAt s.nodes k = none) → exec .jobStart s = .next { s with
      line := { l with
        cycleDue := false, job := .noJob, conflicts := 0, interval := 60, pos := none, sweep := none, txn := none } }) ∧
    (l.callPending = false → l.cycleDue = false → l.discPending = false → exec .jobStart s = .next s) ∧
    exec .jobStart { s with line := { l with state := .fault } } = .next { s with line := { l with state := .fault } } ∧
    ∀ j, j ≠ .noJob →
      exec .jobStart { s with line := { l with job := j } } = .next { s with line := { l with job := j } }

/-- R106, R107, R110, R112, R113, R116, R122, R126, R129, R137: waits, refused frames and closed windows: three waits of an
attempt are followed by a gap, whose time counts on from the POLL; a fourth wait, a WAIT or READING that fails a test of
R106, or a closed window ends the attempt as no reply: a first attempt is followed by a second, and a second ends as a miss,
which acts on the polled row in a poll cycle alone, and after which the job goes on or ends (`JobGoesOn`). Outside an
exchange a WAIT does nothing. A row that falls SILENT empties its room's ring and takes its session's sensing, and a row
removed unbinds its room and takes its session's sensing for good (`sensingLost`, which CallsLossesAndCancels spells); the
limit that an unbound room keeps is the model's choice (log 40). That a refused frame ends the exchange at once, and the one
phase of an exchange, are the model's reading (log 22). -/
def Obligations.WaitsAndMisses : Prop :=
  ∀ (s : State) (x : Txn), s.power = .running → s.line.txn = some x → NodesLegal s.nodes →
    (x.phase ≠ .exchange → ∀ a good, exec (.wait a good) s = .next s ∧ exec .replyWindowClose s = .next s) ∧
    (x.phase = .exchange → x.waits < 3 → exec (.wait x.address true) s = .next { s with
      line := { s.line with txn := some { x with waits := x.waits + 1, phase := .gap } } }) ∧
    ∀ c, x.phase = .exchange → (c = .replyWindowClose ∨ (c = .wait x.address true ∧ 3 ≤ x.waits) ∨
        (∃ a good, c = .wait a good ∧ (good = false ∨ a ≠ x.address)) ∨
        ∃ a rh temp kind err call good, c = .reading a rh temp kind err call good ∧ (good = false ∨ a ≠ x.address ∨
          1000 < rh ∨ temp < -400 ∨ 800 < temp ∨ 6 ≤ kind)) →
    (x.attempt = 1 → exec c s = .next { s with
      line := { s.line with txn := some { x with attempt := 2, waits := 0, phase := .due, ms := 0 } } }) ∧
    (x.attempt ≠ 1 → ∃ t, exec c s = .next t ∧
      t = { s with
        line := t.line, nodes := t.nodes, rooms := t.rooms, sessions := t.sessions, events := t.events } ∧
      (s.line.job ≠ .noJob → t.line.txn ≠ some x) ∧
      JobGoesOn { s.line with changeCount := t.line.changeCount } t.nodes t.line ∧
      (∀ removed : Prop, (removed ↔ s.line.job = .pollCycle ∧ ∃ p r, rowOf s.nodes x.address = some (p, r) ∧
          r.missed = 9 ∧ r.presence ≠ .lost ∧ r.origin = .learned) →
        (removed → t.line.changeCount = (s.line.changeCount + 1) % 256) ∧
        (¬removed → t.line.changeCount = s.line.changeCount)) ∧
      (s.line.job ≠ .pollCycle ∨ rowOf s.nodes x.address = none → t = { s with line := t.line }) ∧
      (s.line.job ≠ .pollCycle → t.nodes = s.nodes ∧ t.rooms = s.rooms ∧ t.sessions = s.sessions ∧
        t.events = s.events) ∧
      (s.line.job = .pollCycle → ∀ p r, rowOf s.nodes x.address = some (p, r) →
        (r.missed = 2 → r.presence = .present →
          t = { sensingLost r.room false { s with
            nodes := setRow s.nodes p (some { r with missed := 3, presence := .silent })
            rooms := s.rooms.setIfInBounds r.room { s.room r.room with ring := [], rise := none }
            events := s.events ||| Event.nodeSilent.bit } with line := t.line }) ∧
        (r.missed = 9 → r.presence ≠ .lost → r.origin = .learned →
          t = { sensingLost r.room true { s with
            nodes := setRow s.nodes p none
            rooms := s.rooms.setIfInBounds r.room { s.room r.room with
              bound := false, kind := none, rh := none, temp := none, rise := none, ring := [], sensorError := false }
            events := s.events ||| Event.nodeLost.bit } with line := t.line }) ∧
        ((r.missed = 9 ∧ r.presence ≠ .lost ∧ r.origin = .pinned) ∨
            (¬(r.missed = 2 ∧ r.presence = .present) ∧ ¬(r.missed = 9 ∧ r.presence ≠ .lost)) →
          t = { s with line := t.line, nodes := t.nodes, events := t.events })) ∧
      (s.line.job = .pollCycle → ∀ p r, 1 ≤ p → p ≤ 6 → rowAt s.nodes p = some r → r.address = x.address →
        (∀ k, k ≠ p → rowAt t.nodes k = rowAt s.nodes k) ∧
        (r.missed = 2 → r.presence = .present → t.events = s.events ||| Event.nodeSilent.bit ∧
          rowAt t.nodes p = some { r with missed := 3, presence := .silent } ∧ (t.room r.room).ring = [] ∧
          (t.room r.room).rise = none) ∧
        (r.missed = 9 → r.presence ≠ .lost → t.events = s.events ||| Event.nodeLost.bit ∧
          (r.origin = .learned → rowAt t.nodes p = none ∧ (t.room r.room).bound = false ∧
            t.line.changeCount = (s.line.changeCount + 1) % 256) ∧
          (r.origin = .pinned → rowAt t.nodes p = some { r with missed := 10, presence := .lost } ∧
            t.line.changeCount = s.line.changeCount)) ∧
        (¬(r.missed = 2 ∧ r.presence = .present) → ¬(r.missed = 9 ∧ r.presence ≠ .lost) → t.events = s.events ∧
          rowAt t.nodes p = some { r with missed := min (r.missed + 1) 255 })))

/-- R106, R110, R111, R113, R116, R122, R126, R128, R129, R136, R137: an accepted READING acts on the row of the polled
address, in its order: a row that was not PRESENT hands its return to its room's session, the reading is a new sample of the
room or a sensor error, a LEARNED row's new kind is the room's, and a call flag is a CALL arrival (`roomReturned` and
`callArrival` are spelled in CallsLossesAndCancels, `newSample` in SamplesActOnRooms). A discovery sweep learns it as a row,
with its binding, before the same. It is dropped where no row holds the address, or, for a sweep, where one does. Either way
the job then goes on or ends (`JobGoesOn`). Outside an exchange a READING is disregarded. One that fails a test of R106 ends
the exchange as no reply (WaitsAndMisses; log 22). -/
def Obligations.ReadingsTaken : Prop :=
  ∀ (s : State) (x : Txn) (a rh kind : Nat) (temp : Int) (err call : Bool), s.power = .running →
    s.line.txn = some x → NodesLegal s.nodes →
    (x.phase ≠ .exchange → ∀ good, exec (.reading a rh temp kind err call good) s = .next s) ∧
    (x.phase = .exchange → x.address = a → rh ≤ 1000 → -400 ≤ temp → temp ≤ 800 → ∀ k, RoomKind.ofCode kind = some k →
      ∃ t, exec (.reading a rh temp kind err call true) s = .next t ∧
        (s.line.job ≠ .noJob → t.line.txn ≠ some x) ∧
        JobGoesOn { s.line with changeCount := t.line.changeCount, ignored := t.line.ignored } t.nodes t.line ∧
        (call = true → (rowOf s.nodes a).isSome = true → s.line.job ≠ .discovery → t.hasEvent .nodeCall = true) ∧
        (s.line.job ≠ .discovery → ∀ p r, 1 ≤ p → p ≤ 6 → rowAt s.nodes p = some r → r.address = a →
          rowAt t.nodes p = some { r with
            missed := 0, presence := .present, seqBit := !r.seqBit
            lastRh := if err then r.lastRh else some rh, lastT := if err then r.lastT else some temp
            age := if err then r.age else some 0, ageMs := if err then r.ageMs else 0, sensorError := err
            kind := if r.origin = .learned then k else r.kind } ∧
          (∀ q, q ≠ p → rowAt t.nodes q = rowAt s.nodes q) ∧
          ((s.room r.room).bound = true → (t.room r.room).sensorError = err ∧
            (t.room r.room).rh = if err then (s.room r.room).rh else some rh)) ∧
        (∀ room c, (s.line.job ≠ .discovery ∧ ∃ p r b, rowOf s.nodes a = some (p, r) ∧ room = r.room ∧
              b = { s with nodes := setRow s.nodes p (some { r with
                missed := 0, presence := .present, seqBit := !r.seqBit
                lastRh := if err then r.lastRh else some rh, lastT := if err then r.lastT else some temp
                age := if err then r.age else some 0, ageMs := if err then r.ageMs else 0, sensorError := err }) } ∧
              c = if r.presence = .present then b else roomReturned r.room b) ∨
            (s.line.job = .discovery ∧ rowOf s.nodes a = none ∧ ∃ p, emptyPos s.nodes = some p ∧
              freeRoom s.nodes = some room ∧ c = { s with
                nodes := setRow s.nodes p (some
                  { address := a, room := room, kind := k, origin := .learned, presence := .present, missed := 0
                    lastRh := if err then none else some rh, lastT := if err then none else some temp
                    age := if err then none else some 0, sensorError := err, seqBit := true, ageMs := 0 })
                line := { s.line with changeCount := (s.line.changeCount + 1) % 256 }
                rooms := s.rooms.setIfInBounds room
                  ⟨true, some k, k.limit, none, none, false, [], none, 0, (s.room room).lastClose⟩
                events := s.events ||| Event.nodeLearned.bit }) →
          ∀ d, d = (if err = true then { c with
              rooms := c.rooms.setIfInBounds room { c.room room with sensorError := true } }
            else newSample room rh (some temp) c) →
          ∀ rekind : Prop, (rekind ↔ s.line.job ≠ .discovery ∧ ∃ p r, rowOf s.nodes a = some (p, r) ∧
            r.origin = .learned ∧ r.kind ≠ k) →
          ∀ e : State, (¬rekind → e = d) →
            (rekind → ∀ p r, rowOf d.nodes a = some (p, r) → e = { d with
              nodes := setRow d.nodes p (some { r with kind := k })
              line := { d.line with changeCount := (d.line.changeCount + 1) % 256 }
              rooms := d.rooms.setIfInBounds room { d.room room with kind := some k, limit := k.limit } }) →
          t = { (if call = true then { callArrival room e with
              events := (callArrival room e).events ||| Event.nodeCall.bit } else e) with line := t.line } ∧
            t.line.changeCount = e.line.changeCount ∧ t.line.ignored = s.line.ignored) ∧
        ((s.line.job = .discovery ↔ (rowOf s.nodes a).isSome = true) → t = { s with line := t.line } ∧
          t.line.changeCount = s.line.changeCount ∧ t.line.ignored = s.line.ignored) ∧
        (s.line.job = .discovery → rowOf s.nodes a = none → ∀ p, emptyPos s.nodes = some p →
          t.hasEvent .nodeLearned = true ∧ t.line.changeCount = (s.line.changeCount + 1) % 256 ∧
          (∀ q, q ≠ p → rowAt t.nodes q = rowAt s.nodes q) ∧
          ∃ room, freeRoom s.nodes = some room ∧ rowAt t.nodes p = some
            { address := a, room := room, kind := k, origin := .learned, presence := .present, missed := 0
              lastRh := if err then none else some rh, lastT := if err then none else some temp
              age := if err then none else some 0, sensorError := err, seqBit := true, ageMs := 0 } ∧
            (t.room room).bound = true ∧ (t.room room).kind = some k) ∧
        (s.line.job = .discovery → rowOf s.nodes a = none → emptyPos s.nodes = none → t = { s with line := t.line } ∧
          t.line.changeCount = s.line.changeCount ∧ t.nodes = s.nodes ∧ t.rooms = s.rooms ∧ t.line.ignored = min (s.line.ignored + 1) 255))

/-- R106, R108, R117: a conflict counts while the line is ACTIVE, and the fifth enters FAULT, abandons the job and raises
LINE_FAULT; a conflict of a POLL makes the line rest, and has no occurrence outside one. A LINE_CONFLICT's being taken while
the POLL is due as well as in the exchange, and the level that a LINE_HELD_LOW_TIMEOUT leaves, are the model's reading
(log 22). -/
def Obligations.ConflictsAndFault : Prop :=
  ∀ s : State, s.power = .running →
    (∀ (c : Instr) (l : LineRecord), (c = .lineHeldLowTimeout ∧
          l = { s.line with heldLow := s.line.heldLow || s.line.state != .off }) ∨
        (c = .lineConflict ∧ ∃ x ∈ s.line.txn, (x.phase = .due ∨ x.phase = .exchange) ∧
          l = { s.line with txn := some { x with phase := .rest, ms := 0 } }) →
      (s.line.state ≠ .active → exec c s = .next { s with line := l }) ∧
      (s.line.state = .active → s.line.conflicts < 4 →
        exec c s = .next { s with line := { l with conflicts := s.line.conflicts + 1 } }) ∧
      (s.line.state = .active → 4 ≤ s.line.conflicts → exec c s = .next { s with
        line := { l with
          state := .fault, suspension := s.line.interval, interval := min (2 * s.line.interval) 960, conflicts := 0
          job := .noJob, pos := none, sweep := none, txn := none, lineMs := 0
          callPending := s.line.callPending || s.line.job == .callSweep
          discPending := s.line.discPending || s.line.job == .discovery }
        events := s.events ||| Event.lineFault.bit })) ∧
    ((s.line.txn.map (·.phase)) ≠ some .due → (s.line.txn.map (·.phase)) ≠ some .exchange →
      exec .lineConflict s = .next s)

/-- R114, R119, R120, R121, R126, R137: DISCOVER, NODE_PIN, NODE_UNPIN and NODE_FORGET, with each refusal in the order of its
checks. A row removed unbinds its room, which takes its session's sensing for good (`sensingLost`, which
CallsLossesAndCancels spells). Each change to the table asks for a save (R168), so a request that makes two, a PIN of another
origin and kind or an UNPIN of a LOST row, leaves save-pending set, unless RESET_PART was accepted (R169). The model's choices
here: the limit that an unbound room keeps (log 40), the change count's rising twice at an UNPIN of a LOST row (log 24), and that
a PIN changes the origin before the kind (log 41). -/
def Obligations.LineRequests : Prop :=
  ∀ (tag : Byte) (s : State) (q : Request), Accepts tag q s → ∀ h, h = heard tag q s →
    (q = .discover → h.line.job ≠ .discovery → h.line.discPending = false → exec (q.toInstr tag) s =
      .next (replied tag q .ok [] { h with line := { h.line with discPending := true } })) ∧
    (q = .discover → h.line.job = .discovery ∨ h.line.discPending = true →
      exec (q.toInstr tag) s = .next (replied tag q .notNow [] h)) ∧
    (∀ a m k, q = .nodePin a m k →
      (a = 0 ∨ 31 ≤ a.toNat ∨ m = 0 ∨ 7 ≤ m.toNat ∨ 6 ≤ k.toNat →
        exec (q.toInstr tag) s = .next (replied tag q .badValue [] h)) ∧
      (1 ≤ a.toNat → a.toNat ≤ 30 → 1 ≤ m.toNat → m.toNat ≤ 6 → ∀ kd, RoomKind.ofCode k.toNat = some kd →
        ∀ byA, byA = rowOf h.nodes a.toNat → ∀ byM, byM = findRow h.nodes (fun r => r.room == m.toNat) →
        (∀ p r, byA = some (p, r) → r.room ≠ m.toNat →
          exec (q.toInstr tag) s = .next (replied tag q .duplicate [] h)) ∧
        (byA = none → byM.isSome = true → exec (q.toInstr tag) s = .next (replied tag q .duplicate [] h)) ∧
        (byA = none → byM = none → emptyPos h.nodes = none →
          exec (q.toInstr tag) s = .next (replied tag q .tableFull [] h)) ∧
        (byA = none → byM = none → ∀ p, emptyPos h.nodes = some p → exec (q.toInstr tag) s =
          .next (replied tag q .ok [] (askSave { h with
            nodes := setRow h.nodes p (some (.unheard a.toNat m.toNat kd))
            line := { h.line with changeCount := (h.line.changeCount + 1) % 256 }
            rooms := h.rooms.setIfInBounds m.toNat
              { RoomRecord.ofKind kd with lastClose := (h.room m.toNat).lastClose } }))) ∧
        (∀ p r, byA = some (p, r) → r.room = m.toNat → ∃ u, exec (q.toInstr tag) s =
            .next (replied tag q .ok [] u) ∧
          u = { h with nodes := u.nodes, line := u.line, rooms := u.rooms, store := u.store } ∧
          u.nodes = setRow h.nodes p (some { r with origin := .pinned, kind := kd }) ∧
          (r.origin = .pinned → r.kind = kd → u.store = h.store ∧ u.line = h.line ∧ u.rooms = h.rooms) ∧
          (∀ b, b = (if r.origin = .pinned then h else askSave { h with
              nodes := setRow h.nodes p (some { r with origin := .pinned })
              line := { h.line with changeCount := (h.line.changeCount + 1) % 256 } }) →
            u = if r.kind = kd then b else askSave { b with
              nodes := setRow b.nodes p (some { r with origin := .pinned, kind := kd })
              line := { b.line with changeCount := (b.line.changeCount + 1) % 256 }
              rooms := b.rooms.setIfInBounds r.room { b.room r.room with kind := some kd, limit := kd.limit } }) ∧
          (r.origin ≠ .pinned ∨ r.kind ≠ kd → u.line.changeCount = (h.line.changeCount +
            (if r.origin = .pinned then 0 else 1) + (if r.kind = kd then 0 else 1)) % 256) ∧
          (r.origin ≠ .pinned → r.kind ≠ kd → h.store.closed = false → u.store.savePending = true)))) ∧
    (∀ a, q = .nodeUnpin a ∨ q = .nodeForget a →
      (a = 0 ∨ 31 ≤ a.toNat → exec (q.toInstr tag) s = .next (replied tag q .badValue [] h)) ∧
      (1 ≤ a.toNat → a.toNat ≤ 30 → rowOf h.nodes a.toNat = none →
        exec (q.toInstr tag) s = .next (replied tag q .noSuch [] h)) ∧
      (1 ≤ a.toNat → a.toNat ≤ 30 → ∀ p r, rowOf h.nodes a.toNat = some (p, r) →
        (q = .nodeUnpin a → r.origin = .learned → exec (q.toInstr tag) s = .next (replied tag q .ok [] h)) ∧
        (q = .nodeUnpin a → r.origin = .pinned → r.presence ≠ .lost → exec (q.toInstr tag) s =
          .next (replied tag q .ok [] (askSave { h with
            nodes := setRow h.nodes p (some { r with origin := .learned })
            line := { h.line with changeCount := (h.line.changeCount + 1) % 256 } }))) ∧
        (q = .nodeForget a ∨ (r.origin = .pinned ∧ r.presence = .lost) → ∃ u, exec (q.toInstr tag) s =
            .next (replied tag q .ok [] (askSave u)) ∧
          (∀ b, b = (if q = .nodeForget a then h else askSave { h with
              nodes := setRow h.nodes p (some { r with origin := .learned })
              line := { h.line with changeCount := (h.line.changeCount + 1) % 256 } }) →
            u = { b with nodes := u.nodes, line := u.line, rooms := u.rooms, sessions := u.sessions } ∧
            u = sensingLost r.room true { b with
              nodes := setRow b.nodes p none
              line := { b.line with changeCount := (b.line.changeCount + 1) % 256 }
              rooms := b.rooms.setIfInBounds r.room { b.room r.room with
                bound := false, kind := none, rh := none, temp := none, rise := none, ring := []
                sensorError := false } }) ∧
          u.line.changeCount = (h.line.changeCount + if q = .nodeForget a then 1 else 2) % 256 ∧
          (q = .nodeUnpin a → h.store.closed = false → (askSave u).store.savePending = true) ∧
          rowAt u.nodes p = none ∧ (∀ k, k ≠ p → rowAt u.nodes k = rowAt h.nodes k) ∧
          (r.room ≤ 6 → (u.room r.room).bound = false))))

/-- 06, "The node table": on every step the table and the stored rows keep distinct addresses and rooms within their ranges,
and the line polls an address of 1..30. -/
def Obligations.TablesStayLegal : Prop :=
  ∀ s t : State, TablesLegal s → step s = .next t → TablesLegal t


/-! ### Rooms and boost sessions -/

/-- R125, R127, R128, R130, R131, R133, R135: a sample joins the bound room's record; with no session open it opens a LIMIT
or a RISE session with its BOOST entry, and on an open session it makes the peak, the raise to LIMIT, with the BOOST entry's
level and exemption following and its created-at kept, and the release test, which a CALL session has none of. The NORMAL
levels of the kinds are those of R131's table, and their limits those of R125's. Room 0's sample is such a sample where
RH_EXT is VALID, and sets its sensor error otherwise. -/
def Obligations.SamplesActOnRooms : Prop :=
  (∀ (k : RoomKind) (level limit : Nat), (k, level, limit) ∈ [(RoomKind.kitchen, 600, 750), (.bath, 500, 700),
      (.shower, 550, 700), (.utility, 450, 700), (.wc, 350, 750), (.other, 400, 800), (.house, 450, 700)] →
    k.normalLevel = level ∧ k.limit = limit) ∧
  (∀ (room rh : Nat) (temp : Option Int) (s t : State), room ≤ 6 → (s.room room).bound = true →
    t = newSample room rh temp s → ∀ r, r = s.room room →
    ∀ ring, ring = (if 10 ≤ r.ring.length then r.ring.tail else r.ring) ++ [rh] →
    ∀ rise : Option Int, rise = (if ring.length = 10 then some ((rh : Int) - (ring.head?.getD rh : Nat)) else none) →
      t.room room = { r with rh := some rh, temp := temp, sensorError := false, ring := ring, rise := rise } ∧
      (∀ k, k ≠ room → t.room k = s.room k) ∧
      t = { s with rooms := t.rooms, sessions := t.sessions, sessionChange := t.sessionChange, demand := t.demand
                   fans := t.fans, res := t.res, events := t.events } ∧
      (s.session room = none → ∀ k, r.kind = some k →
        ∀ (trig : Trigger) (urg : Urgency) (level : Nat),
        (trig = .limit ∧ urg = .high ∧ level = k.normalLevel + k.normalLevel / 4 ∧ r.limit ≤ rh) ∨
          (trig = .rise ∧ urg = .normal ∧ level = k.normalLevel ∧ rh < r.limit ∧ r.cooldown = 0 ∧
            ∃ d ∈ rise, 80 ≤ d) →
        t.sessions = s.sessions ++ [⟨room, trig, urg, .opening, s.mode.mode.inStandby, level, some rh, some rh, 0,
          none, none, false, false, 0, false⟩] ∧
        t.sessionChange = (s.sessionChange + 1) % 256 ∧
        t.demand.boostOf room = some ⟨level, none, urg == .high, s.uptime, 0⟩ ∧
        t.demand.changeCount = (s.demand.changeCount + 1) % 256 ∧
        t.events = s.events ||| Event.boostOpened.bit ∧ HandedOn s t) ∧
      (s.session room = none → rh < r.limit → r.cooldown ≠ 0 ∨ (∀ d ∈ rise, d < 80) → t = { s with rooms := t.rooms }) ∧
      ∀ x, s.session room = some x → ∃ y, t.session room = some y ∧ t.sessions.length = s.sessions.length ∧
        y.rhPeak = some (max (x.rhPeak.getD 0) rh) ∧ y.age = x.age ∧ y.held = x.held ∧
        (r.limit ≤ rh → y.trigger = .limit ∧ y.urgency = .high ∧ y.callTime = none ∧ ∀ k, r.kind = some k →
          y.level = k.normalLevel + k.normalLevel / 4) ∧
        (rh < r.limit → y.trigger = x.trigger ∧ y.urgency = x.urgency ∧ y.level = x.level ∧
          (x.trigger = .call → y.phase = x.phase ∧ y.overrun = x.overrun ∧ y.callTime = x.callTime)) ∧
        (y.level = x.level → y.urgency = x.urgency →
          t = { s with rooms := t.rooms, sessions := t.sessions }) ∧
        (y.level ≠ x.level ∨ y.urgency ≠ x.urgency →
          t.demand.boostOf room = (s.demand.boostOf room).map (fun e =>
            { e with level := y.level, exempt := y.urgency == .high }) ∧
          (∀ k ≠ room, t.demand.boostOf k = s.demand.boostOf k) ∧
          t.demand.changeCount = (s.demand.changeCount + 1) % 256 ∧ t.events = s.events ∧ HandedOn s t) ∧
        ∀ met : Bool, (y.trigger = .limit ∧ met = decide (rh + 50 ≤ r.limit)) ∨
            (y.trigger = .rise ∧ met = (match x.rhStart with
              | some a => decide (rh ≤ a + 30)
              | none => false)) →
          (x.phase = .opening → y.phase = .opening) ∧
          (x.phase = .active → met = false → y.phase = .active ∧ y.overrun = x.overrun) ∧
          (x.phase = .active → met = true → y.phase = .releasing ∧ y.overrun = some 600 ∧ y.callTime = none ∧
            y.shortCount = 0) ∧
          (x.phase = .releasing → met = true ∨ x.sensingLost = true → y.phase = .releasing ∧ y.overrun = x.overrun) ∧
          (x.phase = .releasing → met = false → x.sensingLost = false → y.phase = .active ∧ y.overrun = none)) ∧
  ∀ s : State, s.power = .running → ∀ c, c = s.seq.published.rhExt →
    (∀ rh, c.validity = .valid → c.filtered = some rh → exec .room0Sample s = .next (newSample 0 rh.toNat
      (if s.seq.published.tExt.validity = .invalid then (s.room 0).temp else s.seq.published.tExt.filtered) s)) ∧
    (c.validity ≠ .valid → exec .room0Sample s =
      .next { s with rooms := s.rooms.setIfInBounds 0 { s.room 0 with sensorError := true } })

/-- R129, R130, R131, R133, R136, R137, R139, R141: what a CALL arrival, a loss of sensing, a return and BOOST_CANCEL do to a
room and its session: a return of the same row clears the loss, which a row gone does not (how the model tells them apart:
log 20); a CALL opens a session with a call time of 1200, renews one that releases and closes one that a CALL opened. -/
def Obligations.CallsLossesAndCancels : Prop :=
  (∀ (room : Nat) (s : State), room ≤ 6 →
    (s.session room = none → (s.room room).bound = true → ∀ k, (s.room room).kind = some k →
      ∀ t, t = callArrival room s →
        t = { s with sessions := t.sessions, sessionChange := t.sessionChange, demand := t.demand
                     fans := t.fans, res := t.res, events := t.events } ∧
        t.sessions = s.sessions ++ [⟨room, .call, .normal, .opening, s.mode.mode.inStandby, k.normalLevel,
          (s.room room).rh, (s.room room).rh, 0, none, some 1200, false, false, 0, false⟩] ∧
        t.sessionChange = (s.sessionChange + 1) % 256 ∧
        t.demand.boostOf room = some ⟨k.normalLevel, none, false, s.uptime, 0⟩ ∧
        t.demand.changeCount = (s.demand.changeCount + 1) % 256 ∧
        t.events = s.events ||| Event.boostOpened.bit ∧ HandedOn s t) ∧
    ((s.room room).bound = false → callArrival room s = s) ∧
    (∀ x, s.session room = some x → (s.room room).bound = true →
      (x.held = true → callArrival room s = s) ∧
      (x.held = false → x.phase = .releasing → callArrival room s = { s with
        sessions := s.sessions.map fun y => if y.room = x.room then
          { x with phase := .active, trigger := .call, callTime := some 1200, overrun := none, sensingLost := false
                   shortCount := 0, rowGone := false } else y }) ∧
      (x.held = false → x.phase ≠ .releasing → x.trigger = .call →
        callArrival room s = closeSession room .cancelled s) ∧
      (x.held = false → x.phase ≠ .releasing → x.trigger ≠ .call → callArrival room s = s)) ∧
    (∀ x gone, s.session room = some x → sensingLost room gone s = { s with
      sessions := s.sessions.map fun y => if y.room = x.room then
        { x with
          phase := .releasing, sensingLost := true, rowGone := x.rowGone || gone
          overrun := if x.phase = .releasing then x.overrun else some 600
          callTime := if x.phase = .releasing then x.callTime else none
          shortCount := if x.phase = .releasing then x.shortCount else 0 } else y }) ∧
    (s.session room = none → sensingLost room true s = s ∧ sensingLost room false s = s ∧ roomReturned room s = s) ∧
    (∀ x, s.session room = some x → (x.rowGone = true → roomReturned room s = s) ∧
      (x.rowGone = false → roomReturned room s = { s with
        sessions := s.sessions.map fun y => if y.room = x.room then { x with sensingLost := false } else y })) ∧
    ∀ why t, t = closeSession room why s → t.session room = none ∧ t.demand.boostOf room = none ∧
      t.sessions = s.sessions.filter (fun y => y.room != room) ∧ t.sessionChange = (s.sessionChange + 1) % 256 ∧
      (t.room room).lastClose = some why ∧
      (t.room room).cooldown = (if why = .released then (s.room room).cooldown else 1800) ∧
      t.events = s.events ||| Event.boostClosed.bit ∧ HandedOn s t ∧
      t = { s with rooms := t.rooms, sessions := t.sessions, sessionChange := t.sessionChange, demand := t.demand
                   fans := t.fans, res := t.res, events := t.events }) ∧
  ∀ (tag room : Byte) (s : State) (q : Request), q = .boostCancel room → Accepts tag q s → ∀ h, h = heard tag q s →
    (7 ≤ room.toNat → exec (.boostCancel tag room) s = .next (replied tag q .badValue [] h)) ∧
    (room.toNat ≤ 6 → h.session room.toNat = none →
      exec (.boostCancel tag room) s = .next (replied tag q .noSuch [] h)) ∧
    (room.toNat ≤ 6 → (h.session room.toNat).isSome = true →
      exec (.boostCancel tag room) s = .next (replied tag q .ok [] (closeSession room.toNat .cancelled h)))

/-- R134, R138, R139: the session step on a room's session: its age, its timeout, the end of its call time, of its overrun
and of its opening, by age or by flow, its ordinary step in OPENING and in ACTIVE with the rise and the return to 0 of its
short counter, and its being served short; and the fall of the cooldowns. -/
def Obligations.SessionStepRows : Prop :=
  ∀ s : State, s.power = .running → BoostsMatch s → ∃ t, exec .sessionStep s = .next t ∧
    t = { s with rooms := t.rooms, sessions := t.sessions, sessionChange := t.sessionChange, demand := t.demand
                 fans := t.fans, res := t.res, events := t.events } ∧
    (∀ k ≤ 6, s.session k = none → t.session k = none ∧
      t.room k = { s.room k with cooldown := (s.room k).cooldown - 1 }) ∧
    ((∀ y ∈ s.sessions, y.age < 7199 ∧ ∀ o ∈ y.overrun, 2 ≤ o) → ∀ x ∈ s.sessions, x.overrun = none →
      ∀ target, target = s.fans.extract.qTarget → ∀ a, a = { x with age := x.age + 1, callTime := x.callTime.map (· - 1) } →
      (x.phase = .opening → x.age < 119 → x.held = true ∨ s.fans.extract.qMeas + 20 < min x.level target →
        t.session x.room = some a) ∧
      (x.phase = .opening → x.age < 119 → x.held = false → min x.level target ≤ s.fans.extract.qMeas + 20 →
        x.shortCount < 59 → t.session x.room = some { a with
          phase := .active, shortCount := if target < x.level then x.shortCount + 1 else 0 }) ∧
      (x.phase = .active → x.held = true → x.callTime ≠ some 1 → t.session x.room = some a) ∧
      (x.phase = .active → x.held = false → x.callTime ≠ some 1 → x.shortCount < 59 ∨ x.servedShort = true →
        t.session x.room = some { a with
          shortCount := if target < x.level then min (x.shortCount + 1) 60 else 0 })) ∧
    ∀ x ∈ s.sessions,
      (7199 ≤ x.age → exec (.sessionTimeout x.room) s = .next t ∧ t.session x.room = none ∧
        t.demand.boostOf x.room = none ∧ t.hasEvent .boostClosed = true ∧
        t.room x.room = { s.room x.room with lastClose := some .timeout, cooldown := 1799 }) ∧
      (x.age < 7199 → x.phase = .releasing → ∀ o, x.overrun = some o → o ≤ 1 →
        exec (.overrunEnd x.room) s = .next t ∧ t.session x.room = none ∧ t.demand.boostOf x.room = none ∧
        t.hasEvent .boostClosed = true ∧
        t.room x.room = { s.room x.room with
          lastClose := some .released, cooldown := (s.room x.room).cooldown - 1 }) ∧
      (x.age < 7199 → x.phase = .releasing → ∀ o, x.overrun = some o → 2 ≤ o → x.callTime = none →
        t.session x.room = some { x with age := x.age + 1, overrun := some (o - 1) }) ∧
      (x.age < 7199 → x.phase = .active → x.callTime = some 1 → x.overrun = none →
        exec (.callTimeEnd x.room) s = .next t ∧ t.session x.room = some { x with
          age := x.age + 1, phase := .releasing, overrun := some 600, callTime := none, shortCount := 0 }) ∧
      (119 ≤ x.age → x.age < 7199 → x.phase = .opening → x.overrun = none →
        exec (.openingTimeout x.room) s = .next t ∧ (t.session x.room).map (·.phase) = some .active) ∧
      (x.age < 7199 → x.phase = .active → x.held = false → x.overrun = none → x.callTime ≠ some 1 →
        x.servedShort = false → 59 ≤ x.shortCount → s.fans.extract.qTarget < x.level →
        (∀ y ∈ s.sessions, y.age < 7199 ∧ ∀ o ∈ y.overrun, 2 ≤ o) → exec (.boostShort x.room) s = .next t ∧
          t.session x.room = some { x with
            age := x.age + 1, callTime := x.callTime.map (· - 1), shortCount := 60, servedShort := true } ∧
          t.hasEvent .boostShort = true)

/-- R42, R131, R132, R139: on every step the rooms' BOOST entries stay those of the open sessions, at their levels and
exemptions, and no room has two sessions. -/
def Obligations.BoostsStayMatched : Prop :=
  ∀ s t : State, BoostsMatch s → step s = .next t → BoostsMatch t


/-! ### Modes and supervision -/

/-- R145 to R148, R150: SET_MODE, by the mode it names and the mode in force. Leaving STANDBY removes a live burst's AIRING
entry and changes nothing else of the demand table; entering it with both fans OFF schedules the first burst. -/
def Obligations.SetMode : Prop :=
  ∀ (tag code : Byte) (s : State) (q : Request), q = .setMode code → Accepts tag q s → ∀ h, h = heard tag q s →
    (3 ≤ code.toNat → exec (.setMode tag code) s = .next (replied tag q .badValue [] h)) ∧
    (∀ m, (code = 0 ∧ m = Mode.run) ∨ (code = 1 ∧ m = Mode.quiet) →
      (h.mode.mode = m → exec (.setMode tag code) s = .next (replied tag q .ok (u8 m.code) h)) ∧
      (h.mode.mode ≠ m → ∃ u, exec (.setMode tag code) s = .next (replied tag q .ok (u8 m.code) u) ∧
        u = { h with
          mode := u.mode, demand := u.demand, fans := u.fans, res := u.res, sessions := u.sessions } ∧
        u.mode.mode = m ∧ Resolved u ∧
        (∀ st, u.fans.get st = { h.fans.get st with qTarget := (u.fans.get st).qTarget }) ∧
        u.demand = (if h.mode.mode = .standby ∧ 0 < h.mode.airing then
          { h.demand with airing := none, changeCount := (h.demand.changeCount + 1) % 256 } else h.demand) ∧
        (h.mode.mode ≠ .standby → u.mode = { h.mode with mode := m } ∧ u.demand = h.demand ∧
          u.res.count = (h.res.count + 1) % 65536) ∧
        (h.mode.mode = .standby → u.mode = ⟨m, 0, none, 0⟩ ∧ (0 < h.mode.airing → u.demand.airing = none) ∧
          u.res.count = (h.res.count + if 0 < h.mode.airing then 2 else 1) % 65536) ∧
        u.sessions = if h.mode.mode.inStandby then h.sessions.map fun x => { x with held := false }
          else h.sessions)) ∧
    (code = 2 → h.mode.mode.inStandby = true →
      exec (.setMode tag code) s = .next (replied tag q .ok (u8 h.mode.mode.code) h)) ∧
    (code = 2 → h.mode.mode.inStandby = false →
      (∃ st, (h.fans.get st).state = .starting ∨ (h.fans.get st).state = .ramping) ∨ h.frost.stage = .defrost ∨
        h.frost.stage = .hold ∨ h.frost.stage = .lock →
      exec (.setMode tag code) s = .next (replied tag q .notNow [] h)) ∧
    (code = 2 → h.mode.mode.inStandby = false →
      (∀ st, (h.fans.get st).state ≠ .starting ∧ (h.fans.get st).state ≠ .ramping) → h.frost.stage ≠ .defrost →
      h.frost.stage ≠ .hold → h.frost.stage ≠ .lock → ∃ u,
        exec (.setMode tag code) s = .next (replied tag q .ok (u8 u.mode.mode.code) u) ∧
        u = { h with mode := u.mode, fans := u.fans, res := u.res, sessions := u.sessions, events := u.events } ∧
        u.sessions = h.sessions.map (fun x => { x with held := true, shortCount := 0 }) ∧ Resolved u ∧
        (∀ st, u.fans.get st = { h.fans.get st with qTarget := (u.fans.get st).qTarget }) ∧
        (∀ wait, wait = (if h.seq.published.rhExt.validity = .invalid ∨ 650 ≤ h.seq.published.rhExt.filtered.getD 0 then
            h.settings.airingInterval / 2 else h.settings.airingInterval) →
          h.fans.supply.state = .off → h.fans.extract.state = .off → u.mode = ⟨.standby, 0, some wait, 0⟩) ∧
        u.res.count = (h.res.count +
          if h.fans.supply.state = .off ∧ h.fans.extract.state = .off then 2 else 1) % 65536 ∧
        (h.fans.supply.state = .off ∧ h.fans.extract.state = .off → u.mode.mode = .standby ∧ u.mode.elapsed = 0 ∧
          u.mode.airing = 0 ∧ u.mode.nextAiring.isSome = true ∧
          u.events = h.events ||| Event.modeChanged.bit) ∧
        (h.fans.supply.state ≠ .off ∨ h.fans.extract.state ≠ .off →
          u.mode = { h.mode with mode := .standbyEntry } ∧ u.events = h.events))

/-- R145, R147, R148, R149, R150: the mode steps that begin STANDBY, start and end an airing burst, and reach the standby
limit, and the steps in STANDBY_ENTRY at which a fan is not yet OFF, which leave the mode. Of the demand table a mode step
changes the AIRING and the FALLBACK entry alone. That the step at which the limit is reached starts no burst is the model's
choice (log 38). -/
def Obligations.StandbyRows : Prop :=
  ∀ s : State, s.power = .running → AiringLegal s → ∃ t, exec .modeStep s = .next t ∧
    ∀ wait, wait = (if s.seq.published.rhExt.validity = .invalid ∨ 650 ≤ s.seq.published.rhExt.filtered.getD 0 then
      s.settings.airingInterval / 2 else s.settings.airingInterval) →
    (s.mode.mode = .standbyEntry → s.fans.supply.state ≠ .off ∨ s.fans.extract.state ≠ .off →
      t.mode = s.mode ∧ t.sessions = s.sessions ∧ exec .standbyBegin s = .next s) ∧
    (∀ lost : Prop, (lost ↔ s.superv.state = .probing ∧ 3 ≤ s.superv.probes) →
      (∀ st, t.fans.get st = { s.fans.get st with qTarget := (t.fans.get st).qTarget }) ∧
      t.demand = { s.demand with
        airing := t.demand.airing, fallback := t.demand.fallback, changeCount := t.demand.changeCount } ∧
      (lost → t.demand.fallback = some ⟨s.settings.qFallback, none, false, s.uptime, 0⟩ ∧
        t.demand.changeCount =
          (s.demand.changeCount + if t.demand.airing = s.demand.airing then 1 else 2) % 256) ∧
      (¬lost → t.demand.fallback = s.demand.fallback ∧
        (t.demand.airing = s.demand.airing → t.demand = s.demand) ∧
        (t.demand.airing ≠ s.demand.airing → t.demand.changeCount = (s.demand.changeCount + 1) % 256) ∧
        (t.mode.mode = s.mode.mode → t.demand.airing = s.demand.airing → t.res = s.res ∧ t.fans = s.fans))) ∧
    (s.mode.mode = .standby → 2 ≤ s.mode.airing → s.mode.elapsed < 43199 → t.demand.airing = s.demand.airing) ∧
    (s.mode.mode ≠ .standby → t.demand.airing = s.demand.airing) ∧
    (s.mode.mode = .standby → s.mode.elapsed < 43199 → s.mode.airing = 0 → (∀ n ∈ s.mode.nextAiring, 2 ≤ n) →
      t.demand.airing = none) ∧
    (s.mode.mode = .standbyEntry → s.fans.supply.state = .off → s.fans.extract.state = .off →
      exec .standbyBegin s = .next t ∧ t.mode = ⟨.standby, 0, some wait, 0⟩ ∧ t.hasEvent .modeChanged = true ∧
      Resolved t) ∧
    (s.mode.mode = .standby → s.mode.elapsed < 43199 → s.mode.airing = 0 → ∀ n, s.mode.nextAiring = some n →
      (n ≤ 1 → exec .airingBurstStart s = .next t ∧
        t.mode = ⟨.standby, s.mode.elapsed + 1, some wait, 600⟩ ∧
        t.demand.airing = some ⟨s.settings.qAiring, none, false, s.uptime, 0⟩ ∧ Resolved t) ∧
      (2 ≤ n → t.mode = ⟨.standby, s.mode.elapsed + 1, some (n - 1), 0⟩)) ∧
    (s.mode.mode = .standby → s.mode.elapsed < 43199 →
      (s.mode.airing = 1 → exec .airingBurstEnd s = .next t ∧ t.demand.airing = none ∧
        t.mode = ⟨.standby, s.mode.elapsed + 1, s.mode.nextAiring, 0⟩ ∧ Resolved t) ∧
      (2 ≤ s.mode.airing →
        t.mode = ⟨.standby, s.mode.elapsed + 1, s.mode.nextAiring, s.mode.airing - 1⟩)) ∧
    (s.mode.mode = .standby → 43199 ≤ s.mode.elapsed → exec .standbyLimit s = .next t ∧
      t.mode = ⟨.run, 0, none, 0⟩ ∧ t.demand.airing = none ∧ t.hasEvent .modeChanged = true ∧ Resolved t ∧
      t.sessions = s.sessions.map fun x => { x with held := false }) ∧
    t = { s with
      mode := t.mode, superv := t.superv, demand := t.demand, fans := t.fans, res := t.res, sessions := t.sessions
      link := t.link, events := t.events }

/-- R152, R153, R162, R175: supervision at a mode step: the count of silence, the three notices at one a second, and the loss
of the host one second after the third; a notice is dropped where one waits. That a notice which is leaving the line counts
as waiting is the model's reading (log 14), and that a notice carries the mode and the alert line from before the step's mode
work is the model's choice (log 37). -/
def Obligations.SupervisionRows : Prop :=
  ∀ s : State, s.power = .running → ∃ t, exec .modeStep s = .next t ∧
    ∀ notice : Nat → List TxFrame, notice = (fun k => if waitingOf .notice s = 0 then
      s.link.tx ++ [⟨.notice, [0x60#8, 0#8] ++ u8 k ++ u8 s.mode.mode.code ++ u8 s.alertLow.toNat⟩] else s.link.tx) →
    (s.superv.state = .ok → s.superv.silence + 1 < s.settings.supervisionInterval →
      t.superv = { s.superv with silence := s.superv.silence + 1 } ∧ t.link = s.link) ∧
    (s.superv.state = .ok → s.settings.supervisionInterval ≤ s.superv.silence + 1 →
      exec .probingStart s = .next t ∧ t.superv = ⟨.probing, s.superv.silence + 1, 1⟩ ∧ t.link.tx = notice 1) ∧
    (s.superv.state = .probing → s.superv.probes < 3 → exec .alive s = .next t ∧
      t.superv = { s.superv with probes := s.superv.probes + 1 } ∧ t.link.tx = notice (s.superv.probes + 1)) ∧
    (s.superv.state = .probing → 3 ≤ s.superv.probes → exec .hostLost s = .next t ∧
      t.superv = { s.superv with state := .lost } ∧ t.link = s.link ∧ t.hasEvent .hostLost = true ∧
      t.demand.fallback = some ⟨s.settings.qFallback, none, false, s.uptime, 0⟩ ∧ Resolved t) ∧
    (s.superv.state = .lost ∨ s.superv.state = .off → t.superv = s.superv ∧ t.link = s.link) ∧
    (s.mode.mode = .run ∨ s.mode.mode = .quiet → t.mode = s.mode ∧ t.sessions = s.sessions)

/-- R140, R147 to R150, R151, R153: on every step next airing due stands exactly in STANDBY, an AIRING entry exactly during a
burst, the sessions are HELD exactly in standby, and a FALLBACK entry lives exactly while the host is LOST. -/
def Obligations.ModesStayLegal : Prop :=
  ∀ s t : State, AiringLegal s → HeldLegal s → FallbackLegal s → step s = .next t →
    AiringLegal t ∧ HeldLegal t ∧ FallbackLegal t

/-! ### The service link -/

/-- R157, R158: the receiver, byte by byte, its dropped and abandoned frames, and their counters. -/
def Obligations.ReceiverRows : Prop :=
  ∀ s : State, s.power = .running → ∀ l, l = s.link → ∀ k, k = l.counters →
    (∀ b, l.rx = .hunting → exec (.byteReceived b) s = .next { s with link := { l with
      rx := if b = 0x5A#8 then .length else .hunting, silence := 0
      afterSilence := if b = 0x5A#8 then decide (1000 ≤ l.silence) else l.afterSilence } }) ∧
    (∀ b : Byte, l.rx = .length → 2 ≤ b.toNat → b.toNat ≤ 48 → exec (.byteReceived b) s =
      .next { s with link := { l with rx := .body, len := b.toNat, body := [], silence := 0 } }) ∧
    (∀ b, l.rx = .body → exec (.byteReceived b) s = .next { s with link := { l with
      rx := if l.body.length + 1 < l.len then .body else .check, body := l.body ++ [b], silence := 0 } }) ∧
    (∀ b : Byte, l.rx = .length → b.toNat < 2 ∨ 48 < b.toNat → exec (.lengthError b) s = .next { s with link := { l with
      rx := .hunting, len := 0, body := [], silence := 0
      counters := { k with lengthErrors := min (k.lengthErrors + 1) 65535 } } }) ∧
    (∀ b, l.rx = .check → BitVec.ofNat 8 l.len + byteSum l.body + b ≠ 0 →
      exec (.badCheckFrame b) s = .next { s with link := { l with
        rx := .hunting, len := 0, body := [], silence := 0
        counters := { k with checkErrors := min (k.checkErrors + 1) 65535 } } }) ∧
    (l.rx ≠ .hunting → exec .interByteGap s = .next { s with link := { l with
      rx := .hunting, len := 0, body := [], counters := { k with gapAbandons := min (k.gapAbandons + 1) 65535 } } }) ∧
    (l.rx = .hunting → exec .interByteGap s = .next s) ∧
    exec .lineErrorByte s = .next { s with link := { l with
      rx := .hunting, len := 0, body := [], silence := 0
      counters := { k with lineErrors := min (k.lineErrors + 1) 65535 } } }

/-- R151, R157, R159, R160, R161, R162, R172, R173: what the link's checks make of a kind and payload: an unlisted kind is
UNKNOWN_KIND, a listed one of another length BAD_LENGTH, a SET_TABLE whose id is above 2 BAD_VALUE, and any other payload the
kind's request, its fields little-endian in the catalogue's order. A good frame is counted and acts on supervision; it is
answered BUSY while the slot holds a request, WAKING in STANDBY after silence, and otherwise enters the slot, waiting for its
owner or refused by those checks. That a reply which is leaving the line counts among those waiting is the model's reading
(log 14), and so is the KIND byte of a reply to a kind of 0x80 or more (log 39). -/
def Obligations.GoodFrames : Prop :=
  (∀ lo hi : Byte, (fromLe lo hi).toNat = lo.toNat + 256 * hi.toNat) ∧
  (∀ (kind : Nat) (payload : List Byte), ∀ lengths : List (Nat × Nat), lengths =
      [(0x01, 0), (0x02, 1), (0x03, 0), (0x04, 4), (0x10, 7), (0x11, 2), (0x12, 1), (0x13, 0), (0x14, 1), (0x18, 0),
        (0x19, 0), (0x1A, 0), (0x1B, 0), (0x20, 1), (0x21, 1), (0x28, 1), (0x29, 3), (0x2A, 1), (0x2B, 1), (0x2C, 0),
        (0x30, 1), (0x31, 1), (0x32, 1), (0x38, 1), (0x3C, 1), (0x3D, 3), (0x48, 0), (0x49, 0), (0x4F, 0)] →
    (kind ≠ 0x3E → (∀ n, (kind, n) ∉ lengths) → decodeRequest kind payload = .refuse .unknownKind) ∧
    (∀ n, (kind, n) ∈ lengths → payload.length ≠ n → decodeRequest kind payload = .refuse .badLength) ∧
    (kind = 0x3E → payload = [] ∨ (payload.head? = some 0 ∧ payload.length ≠ 35) ∨
        ((payload.head? = some 1 ∨ payload.head? = some 2) ∧ payload.length ≠ 33) →
      decodeRequest kind payload = .refuse .badLength) ∧
    (kind = 0x3E → (∃ id ∈ payload.head?, 3 ≤ id.toNat) → decodeRequest kind payload = .refuse .badValue)) ∧
  (∀ a b c d e f g : Byte,
    decodeRequest 0x01 [] = .request .ping ∧ decodeRequest 0x02 [a] = .request (.getStatus a) ∧
    decodeRequest 0x03 [] = .request .getEvents ∧
    (∃ m, decodeRequest 0x04 [a, b, c, d] = .request (.setEventMask m) ∧
      m.toNat = a.toNat + 256 * b.toNat + 65536 * c.toNat + 16777216 * d.toNat) ∧
    decodeRequest 0x10 [a, b, c, d, e, f, g] = .request (.setDemand a b (fromLe c d) (fromLe e f) g) ∧
    decodeRequest 0x11 [a, b] = .request (.clearDemand a b) ∧ decodeRequest 0x12 [a] = .request (.getDemands a) ∧
    decodeRequest 0x13 [] = .request .getFlows ∧ decodeRequest 0x14 [a] = .request (.fanRecover a) ∧
    decodeRequest 0x18 [] = .request .getFrost ∧ decodeRequest 0x19 [] = .request .forceDefrost ∧
    decodeRequest 0x1A [] = .request .frostRelease ∧ decodeRequest 0x1B [] = .request .learnExchanger ∧
    decodeRequest 0x20 [a] = .request (.getFilter a) ∧ decodeRequest 0x21 [a] = .request (.filterReset a) ∧
    decodeRequest 0x28 [a] = .request (.getNodes a) ∧ decodeRequest 0x29 [a, b, c] = .request (.nodePin a b c) ∧
    decodeRequest 0x2A [a] = .request (.nodeUnpin a) ∧ decodeRequest 0x2B [a] = .request (.nodeForget a) ∧
    decodeRequest 0x2C [] = .request .discover ∧ decodeRequest 0x30 [a] = .request (.getRooms a) ∧
    decodeRequest 0x31 [a] = .request (.getSessions a) ∧ decodeRequest 0x32 [a] = .request (.boostCancel a) ∧
    decodeRequest 0x38 [a] = .request (.setMode a) ∧ decodeRequest 0x3C [a] = .request (.getParam a) ∧
    decodeRequest 0x3D [a, b, c] = .request (.setParam a (fromLe b c)) ∧
    decodeRequest 0x48 [] = .request .saveSettings ∧ decodeRequest 0x49 [] = .request .restoreDefaults ∧
    decodeRequest 0x4F [] = .request .resetPart) ∧
  (∀ points : List Byte, (points.length = 34 → ∃ ts, decodeRequest 0x3E (0 :: points) = .request (.setTableTemperature ts) ∧
      ts.length = 17 ∧ ∀ i lo hi, points[2 * i]? = some lo → points[2 * i + 1]? = some hi →
        ts[i]? = some (fromLe lo hi)) ∧
    ∀ (id : Byte) (st : Stream), (id = 1 ∧ st = .supply) ∨ (id = 2 ∧ st = .extract) → points.length = 32 →
      ∃ ps, decodeRequest 0x3E (id :: points) = .request (.setTableFeedforward st ps) ∧ ps.length = 8 ∧
        ∀ i w x y z, points[4 * i]? = some w → points[4 * i + 1]? = some x → points[4 * i + 2]? = some y →
          points[4 * i + 3]? = some z → ps[i]? = some (fromLe w x, fromLe y z)) ∧
  ∀ (s : State) (check kind tag : Byte) (payload : List Byte), s.power = .running → s.link.rx = .check →
    s.link.body = kind :: tag :: payload → BitVec.ofNat 8 s.link.len + byteSum s.link.body + check = 0 →
    ∃ t, exec (.goodFrame check) s = .next t ∧
      t = { s with superv := t.superv, link := t.link, demand := t.demand, fans := t.fans, res := t.res
                   events := t.events } ∧
      t.link.rx = .hunting ∧ t.link.silence = 0 ∧ t.link.counters.good = min (s.link.counters.good + 1) 65535 ∧
      (s.superv.state = .ok → t.superv = { s.superv with silence := 0 }) ∧
      (s.superv.state = .probing → t.superv = ⟨.ok, 0, 0⟩) ∧
      (s.superv.state = .off → t.superv = s.superv) ∧
      (s.superv.state = .lost → t.superv = ⟨.ok, 0, 0⟩ ∧ t.demand.fallback = none ∧
        t.events = s.events ||| Event.hostReturned.bit ∧ HandedOn s t) ∧
      (s.superv.state ≠ .lost → t = { s with superv := t.superv, link := t.link }) ∧
      (∀ r : Result, (r = .busy ∧ s.link.slot.isSome = true) ∨
          (r = .waking ∧ s.link.slot = none ∧ s.mode.mode = .standby ∧ s.link.afterSilence = true) →
        t.link.slot = s.link.slot ∧
        t.link.counters.busy = (if r = .busy then min (s.link.counters.busy + 1) 65535 else s.link.counters.busy) ∧
        t.link.counters.waking =
          (if r = .waking then min (s.link.counters.waking + 1) 65535 else s.link.counters.waking) ∧
        (waitingOf .answer s < 2 → t.link.tx = s.link.tx ++ [⟨.answer, replyBody kind tag r []⟩]) ∧
        (2 ≤ waitingOf .answer s → t.link.tx = s.link.tx ∧
          t.link.counters.repliesLost = min (s.link.counters.repliesLost + 1) 65535)) ∧
      (s.link.slot = none → ¬(s.mode.mode = .standby ∧ s.link.afterSilence = true) →
        (∀ q, decodeRequest kind.toNat payload = .request q →
          t.link.slot = some ⟨tag, kind, some q, .waiting⟩ ∧ t.link.tx = s.link.tx) ∧
        (∀ r, decodeRequest kind.toNat payload = .refuse r → t.link.slot = some ⟨tag, kind, none, .replied⟩ ∧
          t.link.tx = s.link.tx ++ [⟨.slotReply, replyBody kind tag r []⟩]))

/-- R159, R162, R163, R164: a frame that has left the line leaves the queue, and the slot's reply empties the slot;
GET_EVENTS reads and clears the flags; SET_EVENT_MASK replaces the mask. The alert line is low exactly while the part runs
and a flag is set whose enable is set, and so at each of these moments: released by GET_EVENTS, judged afresh at a change of
the mask, and lowered by an event raised with its enable set. That a part which is held or has no power releases it is R164's
of the first, and of the second the model's choice (log 26). -/
def Obligations.FramesLeaveAndEvents : Prop :=
  (∀ s : State, (s.alertLow = true ↔ s.power = .running ∧ ∃ i < 30, s.events.getLsbD i = true ∧ s.mask.getLsbD i = true) ∧
    ({ s with events := 0#30 } : State).alertLow = false ∧
    ∀ e : Event, (∀ i, (raise e s).events.getLsbD i = (s.events.getLsbD i || i == e.num)) ∧
      (s.power = .running → s.mask.getLsbD e.num = true → (raise e s).alertLow = true) ∧
      (s.mask.getLsbD e.num = false → (raise e s).alertLow = s.alertLow)) ∧
  (∀ s : State, s.power = .running →
    (s.link.tx = [] → exec .frameSent s = .next s) ∧
    ∀ fr rest, s.link.tx = fr :: rest → ¬(fr.cls = .slotReply ∧ s.store.closed = true) → exec .frameSent s = .next
      { s with link := { s.link with
        tx := rest, txMs := 0, slot := if fr.cls = .slotReply then none else s.link.slot } }) ∧
  ∀ (tag : Byte) (s : State) (q : Request), Accepts tag q s → ∀ h, h = heard tag q s →
    (q = .getEvents → exec (.getEvents tag) s =
      .next (replied tag q .ok (u32 h.events.toNat) { h with events := 0#30 })) ∧
    ∀ mask, q = .setEventMask mask →
      (mask.toNat < 1073741824 → exec (.setEventMask tag mask) s =
        .next (replied tag q .ok (u32 mask.toNat) { h with mask := mask.setWidth 30 })) ∧
      (1073741824 ≤ mask.toNat → exec (.setEventMask tag mask) s = .next (replied tag q .badValue [] h))

/-- R162, R172: on every step the transmit queue holds at most one reply of the slot, two BUSY or WAKING replies and one
notice, the slot's reply waits exactly while the slot is answered, and every frame has a body of 2..48 bytes. -/
def Obligations.QueueStaysLegal : Prop :=
  ∀ s t : State, QueueLegal s → FramesFit s → step s = .next t → QueueLegal t ∧ FramesFit t

/-- R17, R41, R50, R60, R88, R105, R124, R143, R156, R165, R167, R172, R174: each request that reads is answered OK where it
names what exists, with the fields of its record in their order, and BAD_VALUE where it does not, and changes nothing but the
link. GET_STATUS that comes in its own frame finds supervision OK at silence 0, or OFF. Fields are little-endian, and an
absent one carries the mark of its size. -/
def Obligations.ReadsChangeNothing : Prop :=
  (∀ (n : Nat) (i : Int), u8 n = [BitVec.ofNat 8 n] ∧ u16 n = [BitVec.ofNat 8 n, BitVec.ofNat 8 (n / 256)] ∧
    u32 n = [BitVec.ofNat 8 n, BitVec.ofNat 8 (n / 256), BitVec.ofNat 8 (n / 65536), BitVec.ofNat 8 (n / 16777216)] ∧
    s16 i = u16 (i % 65536).toNat ∧ u8Opt none = u8 255 ∧ u8Opt (some n) = u8 n ∧ u16Opt none = u16 65535 ∧
    u16Opt (some n) = u16 n ∧ s16Opt none = s16 (-32768) ∧ s16Opt (some i) = s16 i) ∧
  ∀ (tag : Byte) (q : Request) (s : State), Accepts tag q s → ∀ h, h = heard tag q s →
    (s.link.slot = none → h.superv.state = .off ∨ (h.superv.state = .ok ∧ h.superv.silence = 0)) ∧
    (∀ fan : FanRecord → List Byte, fan = (fun f =>
        u8 (f.state.code + 16 * f.retry) ++ u16 f.qCmd ++ u16 f.qMeas ++ u16 f.n ++ u16 f.applied ++ s16 f.trim ++
          u8 ((if f.satCap.isSome then 1 else 0) + (if f.loop = .openLoop then 2 else 0) +
            if f.state = .starting ∧ f.startKind = .spinTest then 4 else 0) ++ u16Opt f.satCap) →
      ∀ c, c = h.link.counters → ∀ r, r = h.res → ∀ f, f = h.frost → ∀ l, l = h.line → ∀ payload : List Byte,
      (q = .ping ∧ payload = u16 412 ++ u8 1 ++ u8 h.cause.code ++ u32 h.uptime) ∨
      (q = .getStatus 0 ∧ payload = u8 0 ++ ([Channel.tOut, .tPre, .tSup, .tExt, .tExh, .rhExt, .dpFs, .dpFe, .dpXs, .dpXe,
          .vSupply].map fun ch => s16Opt (h.seq.published.get ch).filtered ++
            u8 ((h.seq.published.get ch).validity.code + 4 * (h.seq.published.get ch).faultKind.code)).flatten ++
          u8 (if h.seq.supplyLow then 1 else 0)) ∨
      (q = .getStatus 1 ∧ payload = u8 1 ++ u8 h.cause.code ++ u32 h.uptime ++ u8 h.mode.mode.code ++ u16 h.mode.elapsed ++
        u16Opt h.mode.nextAiring ++ u16 h.mode.airing ++ u8 h.superv.state.code ++ u16 h.superv.silence ++
        u8 h.superv.probes ++ u8 (if h.alertLow then 1 else 0) ++ u8 (if h.store.writing.isSome then 1 else 0) ++
        u8 ((if h.store.savePending then 1 else 0) + if h.store.imageGood then 2 else 0) ++ u16 h.store.completed) ∨
      (q = .getStatus 2 ∧ payload = u8 2 ++ u16 c.good ++ u16 c.checkErrors ++ u16 c.gapAbandons ++ u16 c.lengthErrors ++
        u16 c.lineErrors ++ u16 c.busy ++ u16 c.waking ++ u16 c.repliesLost) ∨
      (∃ p : Byte, p.toNat ≤ 13 ∧ q = .getDemands p ∧ payload = u8 h.demand.changeCount ++ u8 h.demand.entries.length ++
        (((h.demand.entries.drop p.toNat).take 4).map fun e => u8 (e.1.code + if e.2.2.exempt then 128 else 0) ++
          u8 e.2.1 ++ u16 e.2.2.level ++ u16Opt e.2.2.expiry ++ u32 e.2.2.createdAt).flatten) ∨
      (q = .getFlows ∧ payload = u16 r.extTarget ++ u16 r.supTarget ++ u8 r.extReason.code ++ u8 r.supReason.code ++
        u16 r.allowance ++ u8 r.window ++ u8Opt (r.governing.map (·.1.code)) ++ u8Opt (r.governing.map (·.2)) ++
        u16 r.count ++ u16 h.filters.supply.ceiling ++ u16 h.filters.extract.ceiling ++ fan h.fans.supply ++
        fan h.fans.extract) ∨
      (q = .getFrost ∧ payload = u8 f.stage.code ++ u8 f.mode.code ++ u8 f.w ++ u8 f.s ++ u8 f.wEntry ++ s16 f.tg ++
        u8 f.icing ++ u16Opt f.rx0 ++ u16Opt f.ratio ++ u8 (f.learnCount + if f.learnActive then 128 else 0) ++
        u16 f.holdInterval ++ u8 f.holdChecks ++ u8 f.duty ++ u8 f.block ++ u16 f.timer ++ u16 f.allowance) ∨
      (∃ p st, streamOf p = some st ∧ q = .getFilter p ∧ ∀ g, g = h.filters.get st → payload = u8 p.toNat ++
        u8 g.state.code ++ u16Opt g.rf0 ++ u16Opt g.rAvg ++ u16Opt g.loading ++ u8 g.learnCount ++ u16 g.dose ++
        u16 g.hours ++ u16 g.ceiling ++ u16Opt g.lastResistance ++ u8 g.lastOutcome.code) ∨
      (∃ p : Byte, 1 ≤ p.toNat ∧ p.toNat ≤ 6 ∧ q = .getNodes p ∧ payload = u8 l.state.code ++ u8 l.job.code ++
        u8 l.conflicts ++ u16 l.interval ++ u16 (if l.state = .off then l.restart else l.suspension) ++
        u8 ((if l.callPending then 1 else 0) + if l.discPending then 2 else 0) ++ u8 l.ignored ++ u8 l.changeCount ++
        ((([1, 2, 3, 4, 5, 6].drop (p.toNat - 1)).take 3).map fun k => match rowAt h.nodes k with
          | none => List.replicate 11 0#8
          | some x => u8 x.address ++ u8 x.room ++ u8 x.kind.code ++
              u8 (x.origin.code + 2 * x.presence.code + if x.sensorError then 8 else 0) ++ u8 x.missed ++
              u16Opt x.lastRh ++ s16Opt x.lastT ++ u16Opt x.age).flatten) ∨
      (∃ p : Byte, p.toNat ≤ 6 ∧ q = .getRooms p ∧ ∀ x, x = h.room p.toNat → payload = u8 p.toNat ++
        u8 ((if x.bound then 1 else 0) + (if x.sensorError then 2 else 0) +
          if (h.session p.toNat).isSome then 4 else 0) ++ u8Opt (x.kind.map (·.code)) ++ u16 x.limit ++ u16Opt x.rh ++
        s16Opt x.temp ++ u8 x.ring.length ++ ([0, 1, 2, 3, 4, 5, 6, 7, 8, 9].map fun i => u16Opt x.ring[i]?).flatten ++
        s16Opt x.rise ++ u16 x.cooldown ++ u8Opt (x.lastClose.map (·.code))) ∨
      (∃ p : Byte, p.toNat ≤ 6 ∧ q = .getSessions p ∧ payload = u8 h.sessionChange ++ u8 h.sessions.length ++
        (((h.sessions.drop p.toNat).take 2).map fun x => u8 x.room ++ u8 x.trigger.code ++ u8 x.urgency.code ++
          u8 (if x.held then 3 else x.phase.code) ++ (if x.held then u8 x.phase.code else u8 255) ++ u16 x.level ++
          u16Opt x.rhStart ++ u16Opt x.rhPeak ++ u16 x.age ++ u16Opt x.overrun ++ u16Opt x.callTime ++
          u8 ((if x.sensingLost then 1 else 0) + if x.servedShort then 2 else 0) ++ u8 x.shortCount).flatten) ∨
      (∃ (p : Byte) (x : Param), Param.ofId p.toNat = some x ∧ q = .getParam p ∧ payload = u8 p.toNat ++
        if x ∈ [Param.calOffset .rhExt, .calOffset .dpFs, .calOffset .dpFe, .calOffset .dpXs, .calOffset .dpXe,
            .calOffset .vSupply, .tPs] then s16 (x.get h.settings) else u16 (x.get h.settings).toNat) →
      exec (q.toInstr tag) s = .next (replied tag q .ok payload h)) ∧
    ((∃ p : Byte, 3 ≤ p.toNat ∧ q = .getStatus p) ∨ (∃ p : Byte, 14 ≤ p.toNat ∧ q = .getDemands p) ∨
        (∃ p : Byte, 2 ≤ p.toNat ∧ q = .getFilter p) ∨ (∃ p : Byte, (p = 0 ∨ 7 ≤ p.toNat) ∧ q = .getNodes p) ∨
        (∃ p : Byte, 7 ≤ p.toNat ∧ q = .getRooms p) ∨ (∃ p : Byte, 7 ≤ p.toNat ∧ q = .getSessions p) ∨
        (∃ p : Byte, 33 ≤ p.toNat ∧ q = .getParam p) →
      exec (q.toInstr tag) s = .next (replied tag q .badValue [] h))


/-! ### Settings, saves and the reset request -/

/-- R20, R39, R62, R86, R99, R154, R167: SET_PARAM puts a parameter at the value carried, clamped by its range and its
chapter: q_rated and q_min_run bound each other, and a supervision_interval of 1 to 29 becomes 30, above 3600 becomes 3600.
The ids are those of 10, "Parameters", with their ranges and defaults, and the offsets and T_ps are carried signed. No other setting
changes, and only the parameters that act at once change anything else: of the filters q_rated and q_min_run change the
ceilings alone. q_fan_min and ids above 32 are refused. -/
def Obligations.SetParam : Prop :=
  ∀ (tag id : Byte) (value : Half) (s : State) (q : Request), q = .setParam id value → Accepts tag q s →
    ∀ h, h = heard tag q s →
    (∀ n p lo hi default, (n, p, lo, hi, default) ∈
        [(0, Param.calGain .rhExt, 0, 65535, 1000), (1, .calOffset .rhExt, -1000, 1000, 0),
          (2, .calGain .dpFs, 0, 65535, 5000), (3, .calOffset .dpFs, -1000, 1000, 0), (4, .calGain .dpFe, 0, 65535, 5000),
          (5, .calOffset .dpFe, -1000, 1000, 0), (6, .calGain .dpXs, 0, 65535, 5000),
          (7, .calOffset .dpXs, -1000, 1000, 0), (8, .calGain .dpXe, 0, 65535, 5000),
          (9, .calOffset .dpXe, -1000, 1000, 0), (10, .calGain .vSupply, 0, 65535, 400),
          (11, .calOffset .vSupply, -1000, 1000, 0), (12, .fanKn, 1, 255, 40), (13, .fanKp, 0, 64, 6),
          (14, .fanKi, 1, 32, 4), (15, .dutyMin, 60, 300, 120), (16, .dutyStart, 120, 1000, 300),
          (17, .qFanMin, 60, 60, 60), (18, .qRated, 300, 1200, 900), (19, .qMinRun, 60, 600, 150),
          (20, .qQuiet, 150, 1200, 350), (21, .demandBase, 0, 1200, 300), (22, .preheatFitted, 0, 1, 0),
          (23, .tPs, -200, 100, -30), (24, .aNormal, 50, 300, 100), (25, .aShed, 100, 400, 200),
          (26, .aDefrost, 100, 400, 250), (27, .doseLimit, 100, 65535, 45000), (28, .hoursLimit, 100, 65535, 4380),
          (29, .airingInterval, 1200, 7200, 3600), (30, .qAiring, 60, 1200, 250),
          (31, .supervisionInterval, 0, 3600, 300), (32, .qFallback, 0, 1200, 300)] →
      Param.ofId n = some p ∧ p.range = ((lo, hi) : Int × Int) ∧ p.get .default = default) ∧
    (id = 17 ∨ 33 ≤ id.toNat → exec (.setParam tag id value) s = .next (replied tag q .badValue [] h)) ∧
    ∀ p, Param.ofId id.toNat = some p → id ≠ 17 → ∀ v, v = p.read value → ∀ w, w = p.clamp v h.settings →
      ∃ u, exec (.setParam tag id value) s =
          .next (replied tag q (if w = v then .ok else .clamped) (u8 id.toNat ++ p.bytes u.settings) u) ∧
        v = (if p ∈ [Param.calOffset .rhExt, .calOffset .dpFs, .calOffset .dpFe, .calOffset .dpXs, .calOffset .dpXe,
          .calOffset .vSupply, .tPs] then value.toInt else value.toNat) ∧
        u.settings = p.put w h.settings ∧ p.get u.settings = w ∧
        (∀ p', p' ≠ p → p'.get u.settings = p'.get h.settings) ∧
        u.settings.cal.temps = h.settings.cal.temps ∧ u.settings.feedforward = h.settings.feedforward ∧
        (p ∉ [Param.qRated, .qMinRun, .supervisionInterval] →
          (p.range.1 ≤ v → v ≤ p.range.2 → w = v) ∧ (v < p.range.1 → w = p.range.1) ∧
            (p.range.2 < v → w = p.range.2)) ∧
        (p = .qRated → ∀ c : Int, c = (if v < 300 then 300 else if 1200 < v then 1200 else v) →
          w = if c < h.settings.qMinRun then (h.settings.qMinRun : Int) else c) ∧
        (p = .qMinRun → ∀ c : Int, c = (if v < 60 then 60 else if 600 < v then 600 else v) →
          w = if h.settings.qRated < c then (h.settings.qRated : Int) else c) ∧
        (p = .supervisionInterval → w = if 1 ≤ v ∧ v ≤ 29 then 30 else if 3600 < v then 3600 else v) ∧
        (p ∉ [Param.dutyMin, .qRated, .qMinRun, .qQuiet, .preheatFitted, .supervisionInterval] →
          u = { h with settings := u.settings }) ∧
        (p = .qRated ∨ p = .qMinRun ∨ p = .qQuiet → Resolved u ∧
          u = { h with settings := u.settings, filters := u.filters, fans := u.fans, res := u.res } ∧
          ∀ st, u.fans.get st = { h.fans.get st with qTarget := (u.fans.get st).qTarget }) ∧
        (p = .qQuiet → u.filters = h.filters) ∧
        (p = .qRated ∨ p = .qMinRun → ∀ st, u.filters.get st = { h.filters.get st with
          ceiling := if (h.filters.get st).state = .blocked then
              min (max (u.settings.qRated * 200 / (h.filters.get st).loading.getD 100) u.settings.qMinRun)
                u.settings.qRated
            else u.settings.qRated }) ∧
        (p = .dutyMin → u = { h with settings := u.settings, fans := u.fans } ∧ ∀ st,
          u.fans.get st = { h.fans.get st with
            absence := if u.settings.dutyMin ≤ (h.fans.get st).applied then some ((h.fans.get st).absence.getD 0)
              else none }) ∧
        (p = .preheatFitted → u = { h with
          settings := u.settings
          frost := if w = 0 then { h.frost with duty := 0, output := false } else h.frost }) ∧
        (p = .supervisionInterval → h.superv.state = .ok ∨ h.superv.state = .off → u = { h with
          settings := u.settings
          superv := if w = 0 then ⟨.off, 0, 0⟩ else if h.superv.state = .off then ⟨.ok, 0, 0⟩
            else { h.superv with silence := 0 } })

/-- R9, R10, R25, R161, R173: SET_TABLE puts a table that passes its shape checks in force, refuses one that does not as
BAD_TABLE (a temperature table has each point in −400..800 and is strictly monotone; a feedforward table has q0 0, flows of
at most 1200 that strictly rise, and duties of at most 1000 that never fall) and a payload of another length as BAD_LENGTH,
and leaves the calibration of the scan in progress as it is. That a command whose table has another number of points is such
a payload is the model's reading (log 25). -/
def Obligations.SetTables : Prop :=
  ∀ (tag : Byte) (s : State) (q : Request), Accepts tag q s → ∀ h, h = heard tag q s →
    (∀ pts, q = .setTableTemperature pts →
      (pts.length ≠ 17 → exec (q.toInstr tag) s = .next (replied tag q .badLength [] h)) ∧
      ∀ shape : Prop, (shape ↔ (∀ x ∈ pts, -400 ≤ x.toInt ∧ x.toInt ≤ 800) ∧
          ((∀ i a b, pts[i]? = some a → pts[i + 1]? = some b → a.toInt < b.toInt) ∨
            ∀ i a b, pts[i]? = some a → pts[i + 1]? = some b → b.toInt < a.toInt)) →
        (pts.length = 17 → (shape ↔ tempTableOk (pts.map (·.toInt)) = true)) ∧
        (pts.length = 17 → ¬shape → exec (q.toInstr tag) s = .next (replied tag q .badTable [] h)) ∧
        (pts.length = 17 → shape → exec (q.toInstr tag) s = .next (replied tag q .ok []
          { h with settings := { h.settings with cal := { h.settings.cal with temps := pts.map (·.toInt) } } }))) ∧
    ∀ st pts, q = .setTableFeedforward st pts →
      (pts.length ≠ 8 → exec (q.toInstr tag) s = .next (replied tag q .badLength [] h)) ∧
      ∀ shape : Prop, (shape ↔ (∀ p ∈ pts.head?, p.1 = 0) ∧ (∀ p ∈ pts, p.1.toNat ≤ 1200 ∧ p.2.toNat ≤ 1000) ∧
          ∀ i a b, pts[i]? = some a → pts[i + 1]? = some b → a.1.toNat < b.1.toNat ∧ a.2.toNat ≤ b.2.toNat) →
        (pts.length = 8 → (shape ↔ feedforwardOk (pts.map fun p => (p.1.toNat, p.2.toNat)) = true)) ∧
        (pts.length = 8 → ¬shape → exec (q.toInstr tag) s = .next (replied tag q .badTable [] h)) ∧
        (pts.length = 8 → shape → exec (q.toInstr tag) s =
          .next (replied tag q .ok [] { h with settings := { h.settings with
            feedforward := h.settings.feedforward.set st (pts.map fun p => (p.1.toNat, p.2.toNat)) } }))

/-- R166, R168, R169: what an ask for a save does, when a write completes, and the hour of fan running. -/
def Obligations.SavesAndWrites : Prop :=
  ∀ s : State, s.power = .running → ∀ x, x = s.store →
    (∀ c, c = (if x.commitPending then s.settings else x.committed) → x.closed = false → x.writing = none →
      askSave s = { s with store := { x with
        image := none, committed := c, writeMs := 0, releases := x.commitPending, commitPending := false
        writing := some
          { settings := c, filters := ⟨s.filters.supply.stored, s.filters.extract.stored⟩, rx0 := s.frost.rx0
            rows := mapVec storedRow s.nodes } } }) ∧
    (x.closed = false → x.writing.isSome = true → askSave s = { s with store := { x with savePending := true } }) ∧
    (x.closed = true → askSave s = s) ∧
    exec .fanRunningHour s = .next (askSave { s with store := { x with fanRunning := 0 } }) ∧
    (x.writing = none → exec .saveWriteComplete s = .next s) ∧
    ∀ i, x.writing = some i → ∀ a, a = { s with store := { x with
        image := some i, writing := none, writeMs := 0, completed := min (x.completed + 1) 65535
        releases := false } } →
      (x.savePending = false → x.releases = false → exec .saveWriteComplete s = .next a) ∧
      (x.savePending = false → x.releases = true → ∀ y, s.link.slot = some y → y.phase = .saving →
        exec .saveWriteComplete s = .next (reply y.kind y.tag y.request .ok [] a)) ∧
      (x.savePending = true → ∃ t, exec .saveWriteComplete s = .next t ∧ t.store.image = none ∧
        t.store.writing.isSome = true ∧ t.store.savePending = false ∧
        t.store.completed = min (x.completed + 1) 65535 ∧ t = { s with store := t.store, link := t.link })

/-- R9, R20, R25, R62, R84, R99, R154, R162, R169: SAVE_SETTINGS and RESTORE_DEFAULTS hold the slot until the save they ask
for completes. RESTORE_DEFAULTS gives every parameter and table its default and acts as a SET_PARAM of each that changes: a
changed duty_min on the absence timers, a changed q_rated, q_min_run or q_quiet by a resolution, the first two on the
ceilings too, a cleared PREHEAT_FITTED on the interlock, and supervision_interval on supervision (the model's reading of
which are applied: log 18; that a PROBING or LOST which it meets stays, which no run reaches: log 9); nothing else changes.
RESET_PART is refused while a write runs or waits, and otherwise closes the store to further saves. -/
def Obligations.SaveRestoreAndReset : Prop :=
  ∀ (tag : Byte) (s : State) (q : Request), Accepts tag q s → ∀ h, h = heard tag q s →
    (q = .saveSettings ∨ q = .restoreDefaults → ∃ t, exec (q.toInstr tag) s = .next t ∧
      t.link = { h.link with slot := some ⟨tag, requestKind q, some q, .saving⟩ } ∧
      (q = .saveSettings → t = { h with link := t.link, store := t.store }) ∧
      (q = .restoreDefaults → t.settings = .default ∧ t.nodes = h.nodes ∧ t.frost.rx0 = h.frost.rx0 ∧
        (∀ st, (t.filters.get st).stored = (h.filters.get st).stored) ∧
        t.settings.cal.temps = [800, 640, 510, 410, 330, 260, 200, 145, 95, 50, 5, -40, -90, -145, -210, -290, -400] ∧
        (∀ st, t.settings.feedforward.get st =
          [(0, 0), (150, 180), (300, 300), (450, 420), (600, 540), (750, 670), (900, 800), (1200, 1000)]) ∧
        ∀ x, x = h.settings → ∀ reformed : Prop, (reformed ↔ x.qRated ≠ 900 ∨ x.qMinRun ≠ 150) →
        t = { h with
          settings := t.settings, fans := t.fans, filters := t.filters, res := t.res, superv := t.superv, link := t.link
          store := t.store
          frost := if x.preheatFitted = true then { h.frost with duty := 0, output := false } else h.frost } ∧
        (∀ st, ∀ f, f = h.fans.get st → t.fans.get st = { f with
          qTarget := (t.fans.get st).qTarget
          absence := if x.dutyMin = 120 then f.absence else if 120 ≤ f.applied then some (f.absence.getD 0) else none }) ∧
        (reformed → ∀ st, ∀ f, f = h.filters.get st → t.filters.get st = { f with
          ceiling := if f.state = .blocked then min (max (180000 / f.loading.getD 100) 150) 900 else 900 }) ∧
        (¬reformed → t.filters = h.filters) ∧
        (reformed ∨ x.qQuiet ≠ 350 → Resolved t) ∧
        (¬reformed → x.qQuiet = 350 → t.res = h.res ∧ ∀ st, (t.fans.get st).qTarget = (h.fans.get st).qTarget) ∧
        (h.superv.state = .off → t.superv = ⟨.ok, 0, 0⟩) ∧
        (h.superv.state = .ok → t.superv = { h.superv with silence := 0 }) ∧
        (h.superv.state = .probing ∨ h.superv.state = .lost → t.superv = h.superv)) ∧
      (h.store.closed = false → h.store.writing = none → t.store.committed = t.settings ∧
        t.store.writing.map (·.settings) = some t.settings ∧ t.store.releases = true ∧
        t.store.commitPending = false ∧ t.store.image = none) ∧
      (h.store.closed = false → h.store.writing.isSome = true → t.store =
        { h.store with commitPending := true, savePending := true })) ∧
    (q = .resetPart → h.store.writing.isSome = true ∨ h.store.savePending = true →
      exec (q.toInstr tag) s = .next (replied tag q .notNow [] h)) ∧
    (q = .resetPart → h.store.writing = none → h.store.savePending = false → exec (q.toInstr tag) s =
      .next (replied tag q .ok [] { h with store := { h.store with closed := true } }))
end

