-- ==== Sys2Proof/Laws/State.lean ====
section
/-! SUPPORT. One lemma per field per named update of State, true by rfl, so that no proof unfolds an update. -/

namespace Sys2Proof.Machine

/-! ### State.setFan -/

@[simp] theorem State.setFan_power (s : State) (st : Stream) (f : FanRecord) :
    (s.setFan st f).power = s.power := rfl
@[simp] theorem State.setFan_startingUp (s : State) (st : Stream) (f : FanRecord) :
    (s.setFan st f).startingUp = s.startingUp := rfl
@[simp] theorem State.setFan_fansOffAt (s : State) (st : Stream) (f : FanRecord) :
    (s.setFan st f).fansOffAt = s.fansOffAt := rfl
@[simp] theorem State.setFan_resetLine (s : State) (st : Stream) (f : FanRecord) :
    (s.setFan st f).resetLine = s.resetLine := rfl
@[simp] theorem State.setFan_cause (s : State) (st : Stream) (f : FanRecord) :
    (s.setFan st f).cause = s.cause := rfl
@[simp] theorem State.setFan_clock (s : State) (st : Stream) (f : FanRecord) :
    (s.setFan st f).clock = s.clock := rfl
@[simp] theorem State.setFan_settings (s : State) (st : Stream) (f : FanRecord) :
    (s.setFan st f).settings = s.settings := rfl
@[simp] theorem State.setFan_seq (s : State) (st : Stream) (f : FanRecord) :
    (s.setFan st f).seq = s.seq := rfl
@[simp] theorem State.setFan_fans (s : State) (st : Stream) (f : FanRecord) :
    (s.setFan st f).fans = s.fans.set st f := rfl
@[simp] theorem State.setFan_demand (s : State) (st : Stream) (f : FanRecord) :
    (s.setFan st f).demand = s.demand := rfl
@[simp] theorem State.setFan_res (s : State) (st : Stream) (f : FanRecord) :
    (s.setFan st f).res = s.res := rfl
@[simp] theorem State.setFan_frost (s : State) (st : Stream) (f : FanRecord) :
    (s.setFan st f).frost = s.frost := rfl
@[simp] theorem State.setFan_filters (s : State) (st : Stream) (f : FanRecord) :
    (s.setFan st f).filters = s.filters := rfl
@[simp] theorem State.setFan_line (s : State) (st : Stream) (f : FanRecord) :
    (s.setFan st f).line = s.line := rfl
@[simp] theorem State.setFan_nodes (s : State) (st : Stream) (f : FanRecord) :
    (s.setFan st f).nodes = s.nodes := rfl
@[simp] theorem State.setFan_rooms (s : State) (st : Stream) (f : FanRecord) :
    (s.setFan st f).rooms = s.rooms := rfl
@[simp] theorem State.setFan_sessions (s : State) (st : Stream) (f : FanRecord) :
    (s.setFan st f).sessions = s.sessions := rfl
@[simp] theorem State.setFan_sessionChange (s : State) (st : Stream) (f : FanRecord) :
    (s.setFan st f).sessionChange = s.sessionChange := rfl
@[simp] theorem State.setFan_mode (s : State) (st : Stream) (f : FanRecord) :
    (s.setFan st f).mode = s.mode := rfl
@[simp] theorem State.setFan_superv (s : State) (st : Stream) (f : FanRecord) :
    (s.setFan st f).superv = s.superv := rfl
@[simp] theorem State.setFan_link (s : State) (st : Stream) (f : FanRecord) :
    (s.setFan st f).link = s.link := rfl
@[simp] theorem State.setFan_events (s : State) (st : Stream) (f : FanRecord) :
    (s.setFan st f).events = s.events := rfl
@[simp] theorem State.setFan_mask (s : State) (st : Stream) (f : FanRecord) :
    (s.setFan st f).mask = s.mask := rfl
@[simp] theorem State.setFan_store (s : State) (st : Stream) (f : FanRecord) :
    (s.setFan st f).store = s.store := rfl
@[simp] theorem State.setFan_pending (s : State) (st : Stream) (f : FanRecord) :
    (s.setFan st f).pending = s.pending := rfl

/-! ### State.setFilter -/

@[simp] theorem State.setFilter_power (s : State) (st : Stream) (f : FilterRecord) :
    (s.setFilter st f).power = s.power := rfl
@[simp] theorem State.setFilter_startingUp (s : State) (st : Stream) (f : FilterRecord) :
    (s.setFilter st f).startingUp = s.startingUp := rfl
@[simp] theorem State.setFilter_fansOffAt (s : State) (st : Stream) (f : FilterRecord) :
    (s.setFilter st f).fansOffAt = s.fansOffAt := rfl
@[simp] theorem State.setFilter_resetLine (s : State) (st : Stream) (f : FilterRecord) :
    (s.setFilter st f).resetLine = s.resetLine := rfl
@[simp] theorem State.setFilter_cause (s : State) (st : Stream) (f : FilterRecord) :
    (s.setFilter st f).cause = s.cause := rfl
@[simp] theorem State.setFilter_clock (s : State) (st : Stream) (f : FilterRecord) :
    (s.setFilter st f).clock = s.clock := rfl
@[simp] theorem State.setFilter_settings (s : State) (st : Stream) (f : FilterRecord) :
    (s.setFilter st f).settings = s.settings := rfl
@[simp] theorem State.setFilter_seq (s : State) (st : Stream) (f : FilterRecord) :
    (s.setFilter st f).seq = s.seq := rfl
@[simp] theorem State.setFilter_fans (s : State) (st : Stream) (f : FilterRecord) :
    (s.setFilter st f).fans = s.fans := rfl
@[simp] theorem State.setFilter_demand (s : State) (st : Stream) (f : FilterRecord) :
    (s.setFilter st f).demand = s.demand := rfl
@[simp] theorem State.setFilter_res (s : State) (st : Stream) (f : FilterRecord) :
    (s.setFilter st f).res = s.res := rfl
@[simp] theorem State.setFilter_frost (s : State) (st : Stream) (f : FilterRecord) :
    (s.setFilter st f).frost = s.frost := rfl
@[simp] theorem State.setFilter_filters (s : State) (st : Stream) (f : FilterRecord) :
    (s.setFilter st f).filters = s.filters.set st f := rfl
@[simp] theorem State.setFilter_line (s : State) (st : Stream) (f : FilterRecord) :
    (s.setFilter st f).line = s.line := rfl
@[simp] theorem State.setFilter_nodes (s : State) (st : Stream) (f : FilterRecord) :
    (s.setFilter st f).nodes = s.nodes := rfl
@[simp] theorem State.setFilter_rooms (s : State) (st : Stream) (f : FilterRecord) :
    (s.setFilter st f).rooms = s.rooms := rfl
@[simp] theorem State.setFilter_sessions (s : State) (st : Stream) (f : FilterRecord) :
    (s.setFilter st f).sessions = s.sessions := rfl
@[simp] theorem State.setFilter_sessionChange (s : State) (st : Stream) (f : FilterRecord) :
    (s.setFilter st f).sessionChange = s.sessionChange := rfl
@[simp] theorem State.setFilter_mode (s : State) (st : Stream) (f : FilterRecord) :
    (s.setFilter st f).mode = s.mode := rfl
@[simp] theorem State.setFilter_superv (s : State) (st : Stream) (f : FilterRecord) :
    (s.setFilter st f).superv = s.superv := rfl
@[simp] theorem State.setFilter_link (s : State) (st : Stream) (f : FilterRecord) :
    (s.setFilter st f).link = s.link := rfl
@[simp] theorem State.setFilter_events (s : State) (st : Stream) (f : FilterRecord) :
    (s.setFilter st f).events = s.events := rfl
@[simp] theorem State.setFilter_mask (s : State) (st : Stream) (f : FilterRecord) :
    (s.setFilter st f).mask = s.mask := rfl
@[simp] theorem State.setFilter_store (s : State) (st : Stream) (f : FilterRecord) :
    (s.setFilter st f).store = s.store := rfl
@[simp] theorem State.setFilter_pending (s : State) (st : Stream) (f : FilterRecord) :
    (s.setFilter st f).pending = s.pending := rfl

/-! ### State.setFrost -/

@[simp] theorem State.setFrost_power (s : State) (f : FrostRecord) :
    (s.setFrost f).power = s.power := rfl
@[simp] theorem State.setFrost_startingUp (s : State) (f : FrostRecord) :
    (s.setFrost f).startingUp = s.startingUp := rfl
@[simp] theorem State.setFrost_fansOffAt (s : State) (f : FrostRecord) :
    (s.setFrost f).fansOffAt = s.fansOffAt := rfl
@[simp] theorem State.setFrost_resetLine (s : State) (f : FrostRecord) :
    (s.setFrost f).resetLine = s.resetLine := rfl
@[simp] theorem State.setFrost_cause (s : State) (f : FrostRecord) :
    (s.setFrost f).cause = s.cause := rfl
@[simp] theorem State.setFrost_clock (s : State) (f : FrostRecord) :
    (s.setFrost f).clock = s.clock := rfl
@[simp] theorem State.setFrost_settings (s : State) (f : FrostRecord) :
    (s.setFrost f).settings = s.settings := rfl
@[simp] theorem State.setFrost_seq (s : State) (f : FrostRecord) :
    (s.setFrost f).seq = s.seq := rfl
@[simp] theorem State.setFrost_fans (s : State) (f : FrostRecord) :
    (s.setFrost f).fans = s.fans := rfl
@[simp] theorem State.setFrost_demand (s : State) (f : FrostRecord) :
    (s.setFrost f).demand = s.demand := rfl
@[simp] theorem State.setFrost_res (s : State) (f : FrostRecord) :
    (s.setFrost f).res = s.res := rfl
@[simp] theorem State.setFrost_frost (s : State) (f : FrostRecord) :
    (s.setFrost f).frost = f := rfl
@[simp] theorem State.setFrost_filters (s : State) (f : FrostRecord) :
    (s.setFrost f).filters = s.filters := rfl
@[simp] theorem State.setFrost_line (s : State) (f : FrostRecord) :
    (s.setFrost f).line = s.line := rfl
@[simp] theorem State.setFrost_nodes (s : State) (f : FrostRecord) :
    (s.setFrost f).nodes = s.nodes := rfl
@[simp] theorem State.setFrost_rooms (s : State) (f : FrostRecord) :
    (s.setFrost f).rooms = s.rooms := rfl
@[simp] theorem State.setFrost_sessions (s : State) (f : FrostRecord) :
    (s.setFrost f).sessions = s.sessions := rfl
@[simp] theorem State.setFrost_sessionChange (s : State) (f : FrostRecord) :
    (s.setFrost f).sessionChange = s.sessionChange := rfl
@[simp] theorem State.setFrost_mode (s : State) (f : FrostRecord) :
    (s.setFrost f).mode = s.mode := rfl
@[simp] theorem State.setFrost_superv (s : State) (f : FrostRecord) :
    (s.setFrost f).superv = s.superv := rfl
@[simp] theorem State.setFrost_link (s : State) (f : FrostRecord) :
    (s.setFrost f).link = s.link := rfl
@[simp] theorem State.setFrost_events (s : State) (f : FrostRecord) :
    (s.setFrost f).events = s.events := rfl
@[simp] theorem State.setFrost_mask (s : State) (f : FrostRecord) :
    (s.setFrost f).mask = s.mask := rfl
@[simp] theorem State.setFrost_store (s : State) (f : FrostRecord) :
    (s.setFrost f).store = s.store := rfl
@[simp] theorem State.setFrost_pending (s : State) (f : FrostRecord) :
    (s.setFrost f).pending = s.pending := rfl

/-! ### State.setLine -/

@[simp] theorem State.setLine_power (s : State) (l : LineRecord) :
    (s.setLine l).power = s.power := rfl
@[simp] theorem State.setLine_startingUp (s : State) (l : LineRecord) :
    (s.setLine l).startingUp = s.startingUp := rfl
@[simp] theorem State.setLine_fansOffAt (s : State) (l : LineRecord) :
    (s.setLine l).fansOffAt = s.fansOffAt := rfl
@[simp] theorem State.setLine_resetLine (s : State) (l : LineRecord) :
    (s.setLine l).resetLine = s.resetLine := rfl
@[simp] theorem State.setLine_cause (s : State) (l : LineRecord) :
    (s.setLine l).cause = s.cause := rfl
@[simp] theorem State.setLine_clock (s : State) (l : LineRecord) :
    (s.setLine l).clock = s.clock := rfl
@[simp] theorem State.setLine_settings (s : State) (l : LineRecord) :
    (s.setLine l).settings = s.settings := rfl
@[simp] theorem State.setLine_seq (s : State) (l : LineRecord) :
    (s.setLine l).seq = s.seq := rfl
@[simp] theorem State.setLine_fans (s : State) (l : LineRecord) :
    (s.setLine l).fans = s.fans := rfl
@[simp] theorem State.setLine_demand (s : State) (l : LineRecord) :
    (s.setLine l).demand = s.demand := rfl
@[simp] theorem State.setLine_res (s : State) (l : LineRecord) :
    (s.setLine l).res = s.res := rfl
@[simp] theorem State.setLine_frost (s : State) (l : LineRecord) :
    (s.setLine l).frost = s.frost := rfl
@[simp] theorem State.setLine_filters (s : State) (l : LineRecord) :
    (s.setLine l).filters = s.filters := rfl
@[simp] theorem State.setLine_line (s : State) (l : LineRecord) :
    (s.setLine l).line = l := rfl
@[simp] theorem State.setLine_nodes (s : State) (l : LineRecord) :
    (s.setLine l).nodes = s.nodes := rfl
@[simp] theorem State.setLine_rooms (s : State) (l : LineRecord) :
    (s.setLine l).rooms = s.rooms := rfl
@[simp] theorem State.setLine_sessions (s : State) (l : LineRecord) :
    (s.setLine l).sessions = s.sessions := rfl
@[simp] theorem State.setLine_sessionChange (s : State) (l : LineRecord) :
    (s.setLine l).sessionChange = s.sessionChange := rfl
@[simp] theorem State.setLine_mode (s : State) (l : LineRecord) :
    (s.setLine l).mode = s.mode := rfl
@[simp] theorem State.setLine_superv (s : State) (l : LineRecord) :
    (s.setLine l).superv = s.superv := rfl
@[simp] theorem State.setLine_link (s : State) (l : LineRecord) :
    (s.setLine l).link = s.link := rfl
@[simp] theorem State.setLine_events (s : State) (l : LineRecord) :
    (s.setLine l).events = s.events := rfl
@[simp] theorem State.setLine_mask (s : State) (l : LineRecord) :
    (s.setLine l).mask = s.mask := rfl
@[simp] theorem State.setLine_store (s : State) (l : LineRecord) :
    (s.setLine l).store = s.store := rfl
@[simp] theorem State.setLine_pending (s : State) (l : LineRecord) :
    (s.setLine l).pending = s.pending := rfl

/-! ### State.setRoom -/

@[simp] theorem State.setRoom_power (s : State) (room : Nat) (r : RoomRecord) :
    (s.setRoom room r).power = s.power := rfl
@[simp] theorem State.setRoom_startingUp (s : State) (room : Nat) (r : RoomRecord) :
    (s.setRoom room r).startingUp = s.startingUp := rfl
@[simp] theorem State.setRoom_fansOffAt (s : State) (room : Nat) (r : RoomRecord) :
    (s.setRoom room r).fansOffAt = s.fansOffAt := rfl
@[simp] theorem State.setRoom_resetLine (s : State) (room : Nat) (r : RoomRecord) :
    (s.setRoom room r).resetLine = s.resetLine := rfl
@[simp] theorem State.setRoom_cause (s : State) (room : Nat) (r : RoomRecord) :
    (s.setRoom room r).cause = s.cause := rfl
@[simp] theorem State.setRoom_clock (s : State) (room : Nat) (r : RoomRecord) :
    (s.setRoom room r).clock = s.clock := rfl
@[simp] theorem State.setRoom_settings (s : State) (room : Nat) (r : RoomRecord) :
    (s.setRoom room r).settings = s.settings := rfl
@[simp] theorem State.setRoom_seq (s : State) (room : Nat) (r : RoomRecord) :
    (s.setRoom room r).seq = s.seq := rfl
@[simp] theorem State.setRoom_fans (s : State) (room : Nat) (r : RoomRecord) :
    (s.setRoom room r).fans = s.fans := rfl
@[simp] theorem State.setRoom_demand (s : State) (room : Nat) (r : RoomRecord) :
    (s.setRoom room r).demand = s.demand := rfl
@[simp] theorem State.setRoom_res (s : State) (room : Nat) (r : RoomRecord) :
    (s.setRoom room r).res = s.res := rfl
@[simp] theorem State.setRoom_frost (s : State) (room : Nat) (r : RoomRecord) :
    (s.setRoom room r).frost = s.frost := rfl
@[simp] theorem State.setRoom_filters (s : State) (room : Nat) (r : RoomRecord) :
    (s.setRoom room r).filters = s.filters := rfl
@[simp] theorem State.setRoom_line (s : State) (room : Nat) (r : RoomRecord) :
    (s.setRoom room r).line = s.line := rfl
@[simp] theorem State.setRoom_nodes (s : State) (room : Nat) (r : RoomRecord) :
    (s.setRoom room r).nodes = s.nodes := rfl
@[simp] theorem State.setRoom_rooms (s : State) (room : Nat) (r : RoomRecord) :
    (s.setRoom room r).rooms = s.rooms.setIfInBounds room r := rfl
@[simp] theorem State.setRoom_sessions (s : State) (room : Nat) (r : RoomRecord) :
    (s.setRoom room r).sessions = s.sessions := rfl
@[simp] theorem State.setRoom_sessionChange (s : State) (room : Nat) (r : RoomRecord) :
    (s.setRoom room r).sessionChange = s.sessionChange := rfl
@[simp] theorem State.setRoom_mode (s : State) (room : Nat) (r : RoomRecord) :
    (s.setRoom room r).mode = s.mode := rfl
@[simp] theorem State.setRoom_superv (s : State) (room : Nat) (r : RoomRecord) :
    (s.setRoom room r).superv = s.superv := rfl
@[simp] theorem State.setRoom_link (s : State) (room : Nat) (r : RoomRecord) :
    (s.setRoom room r).link = s.link := rfl
@[simp] theorem State.setRoom_events (s : State) (room : Nat) (r : RoomRecord) :
    (s.setRoom room r).events = s.events := rfl
@[simp] theorem State.setRoom_mask (s : State) (room : Nat) (r : RoomRecord) :
    (s.setRoom room r).mask = s.mask := rfl
@[simp] theorem State.setRoom_store (s : State) (room : Nat) (r : RoomRecord) :
    (s.setRoom room r).store = s.store := rfl
@[simp] theorem State.setRoom_pending (s : State) (room : Nat) (r : RoomRecord) :
    (s.setRoom room r).pending = s.pending := rfl

/-! ### State.setLink -/

@[simp] theorem State.setLink_power (s : State) (l : Link) :
    (s.setLink l).power = s.power := rfl
@[simp] theorem State.setLink_startingUp (s : State) (l : Link) :
    (s.setLink l).startingUp = s.startingUp := rfl
@[simp] theorem State.setLink_fansOffAt (s : State) (l : Link) :
    (s.setLink l).fansOffAt = s.fansOffAt := rfl
@[simp] theorem State.setLink_resetLine (s : State) (l : Link) :
    (s.setLink l).resetLine = s.resetLine := rfl
@[simp] theorem State.setLink_cause (s : State) (l : Link) :
    (s.setLink l).cause = s.cause := rfl
@[simp] theorem State.setLink_clock (s : State) (l : Link) :
    (s.setLink l).clock = s.clock := rfl
@[simp] theorem State.setLink_settings (s : State) (l : Link) :
    (s.setLink l).settings = s.settings := rfl
@[simp] theorem State.setLink_seq (s : State) (l : Link) :
    (s.setLink l).seq = s.seq := rfl
@[simp] theorem State.setLink_fans (s : State) (l : Link) :
    (s.setLink l).fans = s.fans := rfl
@[simp] theorem State.setLink_demand (s : State) (l : Link) :
    (s.setLink l).demand = s.demand := rfl
@[simp] theorem State.setLink_res (s : State) (l : Link) :
    (s.setLink l).res = s.res := rfl
@[simp] theorem State.setLink_frost (s : State) (l : Link) :
    (s.setLink l).frost = s.frost := rfl
@[simp] theorem State.setLink_filters (s : State) (l : Link) :
    (s.setLink l).filters = s.filters := rfl
@[simp] theorem State.setLink_line (s : State) (l : Link) :
    (s.setLink l).line = s.line := rfl
@[simp] theorem State.setLink_nodes (s : State) (l : Link) :
    (s.setLink l).nodes = s.nodes := rfl
@[simp] theorem State.setLink_rooms (s : State) (l : Link) :
    (s.setLink l).rooms = s.rooms := rfl
@[simp] theorem State.setLink_sessions (s : State) (l : Link) :
    (s.setLink l).sessions = s.sessions := rfl
@[simp] theorem State.setLink_sessionChange (s : State) (l : Link) :
    (s.setLink l).sessionChange = s.sessionChange := rfl
@[simp] theorem State.setLink_mode (s : State) (l : Link) :
    (s.setLink l).mode = s.mode := rfl
@[simp] theorem State.setLink_superv (s : State) (l : Link) :
    (s.setLink l).superv = s.superv := rfl
@[simp] theorem State.setLink_link (s : State) (l : Link) :
    (s.setLink l).link = l := rfl
@[simp] theorem State.setLink_events (s : State) (l : Link) :
    (s.setLink l).events = s.events := rfl
@[simp] theorem State.setLink_mask (s : State) (l : Link) :
    (s.setLink l).mask = s.mask := rfl
@[simp] theorem State.setLink_store (s : State) (l : Link) :
    (s.setLink l).store = s.store := rfl
@[simp] theorem State.setLink_pending (s : State) (l : Link) :
    (s.setLink l).pending = s.pending := rfl

/-! ### State.setStore -/

@[simp] theorem State.setStore_power (s : State) (x : Store) :
    (s.setStore x).power = s.power := rfl
@[simp] theorem State.setStore_startingUp (s : State) (x : Store) :
    (s.setStore x).startingUp = s.startingUp := rfl
@[simp] theorem State.setStore_fansOffAt (s : State) (x : Store) :
    (s.setStore x).fansOffAt = s.fansOffAt := rfl
@[simp] theorem State.setStore_resetLine (s : State) (x : Store) :
    (s.setStore x).resetLine = s.resetLine := rfl
@[simp] theorem State.setStore_cause (s : State) (x : Store) :
    (s.setStore x).cause = s.cause := rfl
@[simp] theorem State.setStore_clock (s : State) (x : Store) :
    (s.setStore x).clock = s.clock := rfl
@[simp] theorem State.setStore_settings (s : State) (x : Store) :
    (s.setStore x).settings = s.settings := rfl
@[simp] theorem State.setStore_seq (s : State) (x : Store) :
    (s.setStore x).seq = s.seq := rfl
@[simp] theorem State.setStore_fans (s : State) (x : Store) :
    (s.setStore x).fans = s.fans := rfl
@[simp] theorem State.setStore_demand (s : State) (x : Store) :
    (s.setStore x).demand = s.demand := rfl
@[simp] theorem State.setStore_res (s : State) (x : Store) :
    (s.setStore x).res = s.res := rfl
@[simp] theorem State.setStore_frost (s : State) (x : Store) :
    (s.setStore x).frost = s.frost := rfl
@[simp] theorem State.setStore_filters (s : State) (x : Store) :
    (s.setStore x).filters = s.filters := rfl
@[simp] theorem State.setStore_line (s : State) (x : Store) :
    (s.setStore x).line = s.line := rfl
@[simp] theorem State.setStore_nodes (s : State) (x : Store) :
    (s.setStore x).nodes = s.nodes := rfl
@[simp] theorem State.setStore_rooms (s : State) (x : Store) :
    (s.setStore x).rooms = s.rooms := rfl
@[simp] theorem State.setStore_sessions (s : State) (x : Store) :
    (s.setStore x).sessions = s.sessions := rfl
@[simp] theorem State.setStore_sessionChange (s : State) (x : Store) :
    (s.setStore x).sessionChange = s.sessionChange := rfl
@[simp] theorem State.setStore_mode (s : State) (x : Store) :
    (s.setStore x).mode = s.mode := rfl
@[simp] theorem State.setStore_superv (s : State) (x : Store) :
    (s.setStore x).superv = s.superv := rfl
@[simp] theorem State.setStore_link (s : State) (x : Store) :
    (s.setStore x).link = s.link := rfl
@[simp] theorem State.setStore_events (s : State) (x : Store) :
    (s.setStore x).events = s.events := rfl
@[simp] theorem State.setStore_mask (s : State) (x : Store) :
    (s.setStore x).mask = s.mask := rfl
@[simp] theorem State.setStore_store (s : State) (x : Store) :
    (s.setStore x).store = x := rfl
@[simp] theorem State.setStore_pending (s : State) (x : Store) :
    (s.setStore x).pending = s.pending := rfl

/-! ### raise -/

@[simp] theorem raise_power (e : Event) (s : State) :
    (raise e s).power = s.power := rfl
@[simp] theorem raise_startingUp (e : Event) (s : State) :
    (raise e s).startingUp = s.startingUp := rfl
@[simp] theorem raise_fansOffAt (e : Event) (s : State) :
    (raise e s).fansOffAt = s.fansOffAt := rfl
@[simp] theorem raise_resetLine (e : Event) (s : State) :
    (raise e s).resetLine = s.resetLine := rfl
@[simp] theorem raise_cause (e : Event) (s : State) :
    (raise e s).cause = s.cause := rfl
@[simp] theorem raise_clock (e : Event) (s : State) :
    (raise e s).clock = s.clock := rfl
@[simp] theorem raise_settings (e : Event) (s : State) :
    (raise e s).settings = s.settings := rfl
@[simp] theorem raise_seq (e : Event) (s : State) :
    (raise e s).seq = s.seq := rfl
@[simp] theorem raise_fans (e : Event) (s : State) :
    (raise e s).fans = s.fans := rfl
@[simp] theorem raise_demand (e : Event) (s : State) :
    (raise e s).demand = s.demand := rfl
@[simp] theorem raise_res (e : Event) (s : State) :
    (raise e s).res = s.res := rfl
@[simp] theorem raise_frost (e : Event) (s : State) :
    (raise e s).frost = s.frost := rfl
@[simp] theorem raise_filters (e : Event) (s : State) :
    (raise e s).filters = s.filters := rfl
@[simp] theorem raise_line (e : Event) (s : State) :
    (raise e s).line = s.line := rfl
@[simp] theorem raise_nodes (e : Event) (s : State) :
    (raise e s).nodes = s.nodes := rfl
@[simp] theorem raise_rooms (e : Event) (s : State) :
    (raise e s).rooms = s.rooms := rfl
@[simp] theorem raise_sessions (e : Event) (s : State) :
    (raise e s).sessions = s.sessions := rfl
@[simp] theorem raise_sessionChange (e : Event) (s : State) :
    (raise e s).sessionChange = s.sessionChange := rfl
@[simp] theorem raise_mode (e : Event) (s : State) :
    (raise e s).mode = s.mode := rfl
@[simp] theorem raise_superv (e : Event) (s : State) :
    (raise e s).superv = s.superv := rfl
@[simp] theorem raise_link (e : Event) (s : State) :
    (raise e s).link = s.link := rfl
@[simp] theorem raise_events (e : Event) (s : State) :
    (raise e s).events = s.events ||| e.bit := rfl
@[simp] theorem raise_mask (e : Event) (s : State) :
    (raise e s).mask = s.mask := rfl
@[simp] theorem raise_store (e : Event) (s : State) :
    (raise e s).store = s.store := rfl
@[simp] theorem raise_pending (e : Event) (s : State) :
    (raise e s).pending = s.pending := rfl

/-! ### resolve -/

@[simp] theorem resolve_power (s : State) :
    (resolve s).power = s.power := rfl
@[simp] theorem resolve_startingUp (s : State) :
    (resolve s).startingUp = s.startingUp := rfl
@[simp] theorem resolve_fansOffAt (s : State) :
    (resolve s).fansOffAt = s.fansOffAt := rfl
@[simp] theorem resolve_resetLine (s : State) :
    (resolve s).resetLine = s.resetLine := rfl
@[simp] theorem resolve_cause (s : State) :
    (resolve s).cause = s.cause := rfl
@[simp] theorem resolve_clock (s : State) :
    (resolve s).clock = s.clock := rfl
@[simp] theorem resolve_settings (s : State) :
    (resolve s).settings = s.settings := rfl
@[simp] theorem resolve_seq (s : State) :
    (resolve s).seq = s.seq := rfl
@[simp] theorem resolve_fans (s : State) :
    (resolve s).fans = withTargets s.fans (targets s) := rfl
@[simp] theorem resolve_demand (s : State) :
    (resolve s).demand = s.demand := rfl
@[simp] theorem resolve_res (s : State) :
    (resolve s).res = resolution s := rfl
@[simp] theorem resolve_frost (s : State) :
    (resolve s).frost = s.frost := rfl
@[simp] theorem resolve_filters (s : State) :
    (resolve s).filters = s.filters := rfl
@[simp] theorem resolve_line (s : State) :
    (resolve s).line = s.line := rfl
@[simp] theorem resolve_nodes (s : State) :
    (resolve s).nodes = s.nodes := rfl
@[simp] theorem resolve_rooms (s : State) :
    (resolve s).rooms = s.rooms := rfl
@[simp] theorem resolve_sessions (s : State) :
    (resolve s).sessions = s.sessions := rfl
@[simp] theorem resolve_sessionChange (s : State) :
    (resolve s).sessionChange = s.sessionChange := rfl
@[simp] theorem resolve_mode (s : State) :
    (resolve s).mode = s.mode := rfl
@[simp] theorem resolve_superv (s : State) :
    (resolve s).superv = s.superv := rfl
@[simp] theorem resolve_link (s : State) :
    (resolve s).link = s.link := rfl
@[simp] theorem resolve_events (s : State) :
    (resolve s).events = s.events := rfl
@[simp] theorem resolve_mask (s : State) :
    (resolve s).mask = s.mask := rfl
@[simp] theorem resolve_store (s : State) :
    (resolve s).store = s.store := rfl
@[simp] theorem resolve_pending (s : State) :
    (resolve s).pending = s.pending := rfl

/-! ### enqueue -/

@[simp] theorem enqueue_power (fr : TxFrame) (s : State) :
    (enqueue fr s).power = s.power := rfl
@[simp] theorem enqueue_startingUp (fr : TxFrame) (s : State) :
    (enqueue fr s).startingUp = s.startingUp := rfl
@[simp] theorem enqueue_fansOffAt (fr : TxFrame) (s : State) :
    (enqueue fr s).fansOffAt = s.fansOffAt := rfl
@[simp] theorem enqueue_resetLine (fr : TxFrame) (s : State) :
    (enqueue fr s).resetLine = s.resetLine := rfl
@[simp] theorem enqueue_cause (fr : TxFrame) (s : State) :
    (enqueue fr s).cause = s.cause := rfl
@[simp] theorem enqueue_clock (fr : TxFrame) (s : State) :
    (enqueue fr s).clock = s.clock := rfl
@[simp] theorem enqueue_settings (fr : TxFrame) (s : State) :
    (enqueue fr s).settings = s.settings := rfl
@[simp] theorem enqueue_seq (fr : TxFrame) (s : State) :
    (enqueue fr s).seq = s.seq := rfl
@[simp] theorem enqueue_fans (fr : TxFrame) (s : State) :
    (enqueue fr s).fans = s.fans := rfl
@[simp] theorem enqueue_demand (fr : TxFrame) (s : State) :
    (enqueue fr s).demand = s.demand := rfl
@[simp] theorem enqueue_res (fr : TxFrame) (s : State) :
    (enqueue fr s).res = s.res := rfl
@[simp] theorem enqueue_frost (fr : TxFrame) (s : State) :
    (enqueue fr s).frost = s.frost := rfl
@[simp] theorem enqueue_filters (fr : TxFrame) (s : State) :
    (enqueue fr s).filters = s.filters := rfl
@[simp] theorem enqueue_line (fr : TxFrame) (s : State) :
    (enqueue fr s).line = s.line := rfl
@[simp] theorem enqueue_nodes (fr : TxFrame) (s : State) :
    (enqueue fr s).nodes = s.nodes := rfl
@[simp] theorem enqueue_rooms (fr : TxFrame) (s : State) :
    (enqueue fr s).rooms = s.rooms := rfl
@[simp] theorem enqueue_sessions (fr : TxFrame) (s : State) :
    (enqueue fr s).sessions = s.sessions := rfl
@[simp] theorem enqueue_sessionChange (fr : TxFrame) (s : State) :
    (enqueue fr s).sessionChange = s.sessionChange := rfl
@[simp] theorem enqueue_mode (fr : TxFrame) (s : State) :
    (enqueue fr s).mode = s.mode := rfl
@[simp] theorem enqueue_superv (fr : TxFrame) (s : State) :
    (enqueue fr s).superv = s.superv := rfl
@[simp] theorem enqueue_link (fr : TxFrame) (s : State) :
    (enqueue fr s).link = { s.link with tx := s.link.tx ++ [fr], txMs := if s.link.tx.isEmpty then 0 else s.link.txMs } := rfl
@[simp] theorem enqueue_events (fr : TxFrame) (s : State) :
    (enqueue fr s).events = s.events := rfl
@[simp] theorem enqueue_mask (fr : TxFrame) (s : State) :
    (enqueue fr s).mask = s.mask := rfl
@[simp] theorem enqueue_store (fr : TxFrame) (s : State) :
    (enqueue fr s).store = s.store := rfl
@[simp] theorem enqueue_pending (fr : TxFrame) (s : State) :
    (enqueue fr s).pending = s.pending := rfl

/-! ### putRow -/

@[simp] theorem putRow_power (p : Nat) (r : NodeRow) (s : State) :
    (putRow p r s).power = s.power := rfl
@[simp] theorem putRow_startingUp (p : Nat) (r : NodeRow) (s : State) :
    (putRow p r s).startingUp = s.startingUp := rfl
@[simp] theorem putRow_fansOffAt (p : Nat) (r : NodeRow) (s : State) :
    (putRow p r s).fansOffAt = s.fansOffAt := rfl
@[simp] theorem putRow_resetLine (p : Nat) (r : NodeRow) (s : State) :
    (putRow p r s).resetLine = s.resetLine := rfl
@[simp] theorem putRow_cause (p : Nat) (r : NodeRow) (s : State) :
    (putRow p r s).cause = s.cause := rfl
@[simp] theorem putRow_clock (p : Nat) (r : NodeRow) (s : State) :
    (putRow p r s).clock = s.clock := rfl
@[simp] theorem putRow_settings (p : Nat) (r : NodeRow) (s : State) :
    (putRow p r s).settings = s.settings := rfl
@[simp] theorem putRow_seq (p : Nat) (r : NodeRow) (s : State) :
    (putRow p r s).seq = s.seq := rfl
@[simp] theorem putRow_fans (p : Nat) (r : NodeRow) (s : State) :
    (putRow p r s).fans = s.fans := rfl
@[simp] theorem putRow_demand (p : Nat) (r : NodeRow) (s : State) :
    (putRow p r s).demand = s.demand := rfl
@[simp] theorem putRow_res (p : Nat) (r : NodeRow) (s : State) :
    (putRow p r s).res = s.res := rfl
@[simp] theorem putRow_frost (p : Nat) (r : NodeRow) (s : State) :
    (putRow p r s).frost = s.frost := rfl
@[simp] theorem putRow_filters (p : Nat) (r : NodeRow) (s : State) :
    (putRow p r s).filters = s.filters := rfl
@[simp] theorem putRow_line (p : Nat) (r : NodeRow) (s : State) :
    (putRow p r s).line = s.line := rfl
@[simp] theorem putRow_nodes (p : Nat) (r : NodeRow) (s : State) :
    (putRow p r s).nodes = setRow s.nodes p (some r) := rfl
@[simp] theorem putRow_rooms (p : Nat) (r : NodeRow) (s : State) :
    (putRow p r s).rooms = s.rooms := rfl
@[simp] theorem putRow_sessions (p : Nat) (r : NodeRow) (s : State) :
    (putRow p r s).sessions = s.sessions := rfl
@[simp] theorem putRow_sessionChange (p : Nat) (r : NodeRow) (s : State) :
    (putRow p r s).sessionChange = s.sessionChange := rfl
@[simp] theorem putRow_mode (p : Nat) (r : NodeRow) (s : State) :
    (putRow p r s).mode = s.mode := rfl
@[simp] theorem putRow_superv (p : Nat) (r : NodeRow) (s : State) :
    (putRow p r s).superv = s.superv := rfl
@[simp] theorem putRow_link (p : Nat) (r : NodeRow) (s : State) :
    (putRow p r s).link = s.link := rfl
@[simp] theorem putRow_events (p : Nat) (r : NodeRow) (s : State) :
    (putRow p r s).events = s.events := rfl
@[simp] theorem putRow_mask (p : Nat) (r : NodeRow) (s : State) :
    (putRow p r s).mask = s.mask := rfl
@[simp] theorem putRow_store (p : Nat) (r : NodeRow) (s : State) :
    (putRow p r s).store = s.store := rfl
@[simp] theorem putRow_pending (p : Nat) (r : NodeRow) (s : State) :
    (putRow p r s).pending = s.pending := rfl

/-! ### bumpNodes -/

@[simp] theorem bumpNodes_power (s : State) :
    (bumpNodes s).power = s.power := rfl
@[simp] theorem bumpNodes_startingUp (s : State) :
    (bumpNodes s).startingUp = s.startingUp := rfl
@[simp] theorem bumpNodes_fansOffAt (s : State) :
    (bumpNodes s).fansOffAt = s.fansOffAt := rfl
@[simp] theorem bumpNodes_resetLine (s : State) :
    (bumpNodes s).resetLine = s.resetLine := rfl
@[simp] theorem bumpNodes_cause (s : State) :
    (bumpNodes s).cause = s.cause := rfl
@[simp] theorem bumpNodes_clock (s : State) :
    (bumpNodes s).clock = s.clock := rfl
@[simp] theorem bumpNodes_settings (s : State) :
    (bumpNodes s).settings = s.settings := rfl
@[simp] theorem bumpNodes_seq (s : State) :
    (bumpNodes s).seq = s.seq := rfl
@[simp] theorem bumpNodes_fans (s : State) :
    (bumpNodes s).fans = s.fans := rfl
@[simp] theorem bumpNodes_demand (s : State) :
    (bumpNodes s).demand = s.demand := rfl
@[simp] theorem bumpNodes_res (s : State) :
    (bumpNodes s).res = s.res := rfl
@[simp] theorem bumpNodes_frost (s : State) :
    (bumpNodes s).frost = s.frost := rfl
@[simp] theorem bumpNodes_filters (s : State) :
    (bumpNodes s).filters = s.filters := rfl
@[simp] theorem bumpNodes_line (s : State) :
    (bumpNodes s).line = { s.line with changeCount := (s.line.changeCount + 1) % 256 } := rfl
@[simp] theorem bumpNodes_nodes (s : State) :
    (bumpNodes s).nodes = s.nodes := rfl
@[simp] theorem bumpNodes_rooms (s : State) :
    (bumpNodes s).rooms = s.rooms := rfl
@[simp] theorem bumpNodes_sessions (s : State) :
    (bumpNodes s).sessions = s.sessions := rfl
@[simp] theorem bumpNodes_sessionChange (s : State) :
    (bumpNodes s).sessionChange = s.sessionChange := rfl
@[simp] theorem bumpNodes_mode (s : State) :
    (bumpNodes s).mode = s.mode := rfl
@[simp] theorem bumpNodes_superv (s : State) :
    (bumpNodes s).superv = s.superv := rfl
@[simp] theorem bumpNodes_link (s : State) :
    (bumpNodes s).link = s.link := rfl
@[simp] theorem bumpNodes_events (s : State) :
    (bumpNodes s).events = s.events := rfl
@[simp] theorem bumpNodes_mask (s : State) :
    (bumpNodes s).mask = s.mask := rfl
@[simp] theorem bumpNodes_store (s : State) :
    (bumpNodes s).store = s.store := rfl
@[simp] theorem bumpNodes_pending (s : State) :
    (bumpNodes s).pending = s.pending := rfl

/-! ### putSession -/

@[simp] theorem putSession_power (x : Session) (s : State) :
    (putSession x s).power = s.power := rfl
@[simp] theorem putSession_startingUp (x : Session) (s : State) :
    (putSession x s).startingUp = s.startingUp := rfl
@[simp] theorem putSession_fansOffAt (x : Session) (s : State) :
    (putSession x s).fansOffAt = s.fansOffAt := rfl
@[simp] theorem putSession_resetLine (x : Session) (s : State) :
    (putSession x s).resetLine = s.resetLine := rfl
@[simp] theorem putSession_cause (x : Session) (s : State) :
    (putSession x s).cause = s.cause := rfl
@[simp] theorem putSession_clock (x : Session) (s : State) :
    (putSession x s).clock = s.clock := rfl
@[simp] theorem putSession_settings (x : Session) (s : State) :
    (putSession x s).settings = s.settings := rfl
@[simp] theorem putSession_seq (x : Session) (s : State) :
    (putSession x s).seq = s.seq := rfl
@[simp] theorem putSession_fans (x : Session) (s : State) :
    (putSession x s).fans = s.fans := rfl
@[simp] theorem putSession_demand (x : Session) (s : State) :
    (putSession x s).demand = s.demand := rfl
@[simp] theorem putSession_res (x : Session) (s : State) :
    (putSession x s).res = s.res := rfl
@[simp] theorem putSession_frost (x : Session) (s : State) :
    (putSession x s).frost = s.frost := rfl
@[simp] theorem putSession_filters (x : Session) (s : State) :
    (putSession x s).filters = s.filters := rfl
@[simp] theorem putSession_line (x : Session) (s : State) :
    (putSession x s).line = s.line := rfl
@[simp] theorem putSession_nodes (x : Session) (s : State) :
    (putSession x s).nodes = s.nodes := rfl
@[simp] theorem putSession_rooms (x : Session) (s : State) :
    (putSession x s).rooms = s.rooms := rfl
@[simp] theorem putSession_sessions (x : Session) (s : State) :
    (putSession x s).sessions = s.sessions.map fun y => if y.room = x.room then x else y := rfl
@[simp] theorem putSession_sessionChange (x : Session) (s : State) :
    (putSession x s).sessionChange = s.sessionChange := rfl
@[simp] theorem putSession_mode (x : Session) (s : State) :
    (putSession x s).mode = s.mode := rfl
@[simp] theorem putSession_superv (x : Session) (s : State) :
    (putSession x s).superv = s.superv := rfl
@[simp] theorem putSession_link (x : Session) (s : State) :
    (putSession x s).link = s.link := rfl
@[simp] theorem putSession_events (x : Session) (s : State) :
    (putSession x s).events = s.events := rfl
@[simp] theorem putSession_mask (x : Session) (s : State) :
    (putSession x s).mask = s.mask := rfl
@[simp] theorem putSession_store (x : Session) (s : State) :
    (putSession x s).store = s.store := rfl
@[simp] theorem putSession_pending (x : Session) (s : State) :
    (putSession x s).pending = s.pending := rfl

/-! ### holdSessions -/

@[simp] theorem holdSessions_power (s : State) :
    (holdSessions s).power = s.power := rfl
@[simp] theorem holdSessions_startingUp (s : State) :
    (holdSessions s).startingUp = s.startingUp := rfl
@[simp] theorem holdSessions_fansOffAt (s : State) :
    (holdSessions s).fansOffAt = s.fansOffAt := rfl
@[simp] theorem holdSessions_resetLine (s : State) :
    (holdSessions s).resetLine = s.resetLine := rfl
@[simp] theorem holdSessions_cause (s : State) :
    (holdSessions s).cause = s.cause := rfl
@[simp] theorem holdSessions_clock (s : State) :
    (holdSessions s).clock = s.clock := rfl
@[simp] theorem holdSessions_settings (s : State) :
    (holdSessions s).settings = s.settings := rfl
@[simp] theorem holdSessions_seq (s : State) :
    (holdSessions s).seq = s.seq := rfl
@[simp] theorem holdSessions_fans (s : State) :
    (holdSessions s).fans = s.fans := rfl
@[simp] theorem holdSessions_demand (s : State) :
    (holdSessions s).demand = s.demand := rfl
@[simp] theorem holdSessions_res (s : State) :
    (holdSessions s).res = s.res := rfl
@[simp] theorem holdSessions_frost (s : State) :
    (holdSessions s).frost = s.frost := rfl
@[simp] theorem holdSessions_filters (s : State) :
    (holdSessions s).filters = s.filters := rfl
@[simp] theorem holdSessions_line (s : State) :
    (holdSessions s).line = s.line := rfl
@[simp] theorem holdSessions_nodes (s : State) :
    (holdSessions s).nodes = s.nodes := rfl
@[simp] theorem holdSessions_rooms (s : State) :
    (holdSessions s).rooms = s.rooms := rfl
@[simp] theorem holdSessions_sessions (s : State) :
    (holdSessions s).sessions = s.sessions.map fun x => { x with held := true, shortCount := 0 } := rfl
@[simp] theorem holdSessions_sessionChange (s : State) :
    (holdSessions s).sessionChange = s.sessionChange := rfl
@[simp] theorem holdSessions_mode (s : State) :
    (holdSessions s).mode = s.mode := rfl
@[simp] theorem holdSessions_superv (s : State) :
    (holdSessions s).superv = s.superv := rfl
@[simp] theorem holdSessions_link (s : State) :
    (holdSessions s).link = s.link := rfl
@[simp] theorem holdSessions_events (s : State) :
    (holdSessions s).events = s.events := rfl
@[simp] theorem holdSessions_mask (s : State) :
    (holdSessions s).mask = s.mask := rfl
@[simp] theorem holdSessions_store (s : State) :
    (holdSessions s).store = s.store := rfl
@[simp] theorem holdSessions_pending (s : State) :
    (holdSessions s).pending = s.pending := rfl

/-! ### unholdSessions -/

@[simp] theorem unholdSessions_power (s : State) :
    (unholdSessions s).power = s.power := rfl
@[simp] theorem unholdSessions_startingUp (s : State) :
    (unholdSessions s).startingUp = s.startingUp := rfl
@[simp] theorem unholdSessions_fansOffAt (s : State) :
    (unholdSessions s).fansOffAt = s.fansOffAt := rfl
@[simp] theorem unholdSessions_resetLine (s : State) :
    (unholdSessions s).resetLine = s.resetLine := rfl
@[simp] theorem unholdSessions_cause (s : State) :
    (unholdSessions s).cause = s.cause := rfl
@[simp] theorem unholdSessions_clock (s : State) :
    (unholdSessions s).clock = s.clock := rfl
@[simp] theorem unholdSessions_settings (s : State) :
    (unholdSessions s).settings = s.settings := rfl
@[simp] theorem unholdSessions_seq (s : State) :
    (unholdSessions s).seq = s.seq := rfl
@[simp] theorem unholdSessions_fans (s : State) :
    (unholdSessions s).fans = s.fans := rfl
@[simp] theorem unholdSessions_demand (s : State) :
    (unholdSessions s).demand = s.demand := rfl
@[simp] theorem unholdSessions_res (s : State) :
    (unholdSessions s).res = s.res := rfl
@[simp] theorem unholdSessions_frost (s : State) :
    (unholdSessions s).frost = s.frost := rfl
@[simp] theorem unholdSessions_filters (s : State) :
    (unholdSessions s).filters = s.filters := rfl
@[simp] theorem unholdSessions_line (s : State) :
    (unholdSessions s).line = s.line := rfl
@[simp] theorem unholdSessions_nodes (s : State) :
    (unholdSessions s).nodes = s.nodes := rfl
@[simp] theorem unholdSessions_rooms (s : State) :
    (unholdSessions s).rooms = s.rooms := rfl
@[simp] theorem unholdSessions_sessions (s : State) :
    (unholdSessions s).sessions = s.sessions.map fun x => { x with held := false } := rfl
@[simp] theorem unholdSessions_sessionChange (s : State) :
    (unholdSessions s).sessionChange = s.sessionChange := rfl
@[simp] theorem unholdSessions_mode (s : State) :
    (unholdSessions s).mode = s.mode := rfl
@[simp] theorem unholdSessions_superv (s : State) :
    (unholdSessions s).superv = s.superv := rfl
@[simp] theorem unholdSessions_link (s : State) :
    (unholdSessions s).link = s.link := rfl
@[simp] theorem unholdSessions_events (s : State) :
    (unholdSessions s).events = s.events := rfl
@[simp] theorem unholdSessions_mask (s : State) :
    (unholdSessions s).mask = s.mask := rfl
@[simp] theorem unholdSessions_store (s : State) :
    (unholdSessions s).store = s.store := rfl
@[simp] theorem unholdSessions_pending (s : State) :
    (unholdSessions s).pending = s.pending := rfl

/-! ### Values of streams and channels -/

@[simp] theorem PerStream.get_set {α : Type} (p : PerStream α) (st : Stream) (a : α) : (p.set st a).get st = a := by
  cases st <;> rfl

theorem PerStream.get_set_ne {α : Type} (p : PerStream α) {st st' : Stream} (a : α) (h : st' ≠ st) :
    (p.set st a).get st' = p.get st' := by
  cases st <;> cases st' <;> first | rfl | exact absurd rfl h

@[simp] theorem PerStream.set_get {α : Type} (p : PerStream α) (st : Stream) : p.set st (p.get st) = p := by
  cases st <;> rfl

@[simp] theorem PerStream.set_set {α : Type} (p : PerStream α) (st : Stream) (a b : α) :
    (p.set st a).set st b = p.set st b := by
  cases st <;> rfl

@[simp] theorem PerChannel.get_set {α : Type} (p : PerChannel α) (c : Channel) (a : α) : (p.set c a).get c = a := by
  cases c <;> rfl

theorem PerChannel.get_set_ne {α : Type} (p : PerChannel α) {c c' : Channel} (a : α) (h : c' ≠ c) :
    (p.set c a).get c' = p.get c' := by
  cases c <;> cases c' <;> first | rfl | exact absurd rfl h

end Sys2Proof.Machine
end

