-- ==== Sys2Proof/Laws/Ops.lean ====
section
/-! SUPPORT. What each shared operation does, said once: the lemmas a proof cites in place of unfolding the operation. -/

namespace Sys2Proof.Machine

/-! ### Commands and power -/

theorem whenRunning_on {f : State → State} {s : State} (h : s.power = .running) : whenRunning f s = f s := by
  simp [whenRunning, h]

theorem whenRunning_off {f : State → State} {s : State} (h : s.power ≠ .running) : whenRunning f s = s := by
  simp [whenRunning, h]

theorem whenMarked_on {μ : Type} [DecidableEq μ] {m : μ} {f : State → State × List μ} {s : State} (h : m ∈ (f s).2) :
    whenMarked m f s = (f s).1 := by
  simp [whenMarked, h]

theorem whenMarked_off {μ : Type} [DecidableEq μ] {m : μ} {f : State → State × List μ} {s : State} (h : m ∉ (f s).2) :
    whenMarked m f s = s := by
  simp [whenMarked, h]

/-- Whatever holds of a state and is kept by a step is kept by a row that names an occasion of that step. -/
theorem whenMarked_keeps {μ : Type} [DecidableEq μ] {P : State → Prop} {m : μ} {f : State → State × List μ} {s : State}
    (hs : P s) (hf : P (f s).1) : P (whenMarked m f s) := by
  unfold whenMarked; split <;> assumption

theorem whenRunning_keeps {P : State → Prop} {f : State → State} {s : State} (hs : P s)
    (hf : s.power = .running → P (f s)) : P (whenRunning f s) := by
  unfold whenRunning; split
  · exact hf ‹_›
  · exact hs

/-! ### Events -/

theorem raiseIf_true (e : Event) (s : State) : raiseIf true e s = raise e s := rfl

@[simp] theorem raiseIf_false (e : Event) (s : State) : raiseIf false e s = s := rfl

theorem raiseAll_eq (es : List Event) (s : State) :
    raiseAll es s = { s with events := es.foldl (fun v e => v ||| e.bit) s.events } := by
  unfold raiseAll
  induction es generalizing s with
  | nil => rfl
  | cons e es ih => rw [List.foldl_cons, ih]; rfl

@[simp] theorem raise_hasEvent (e : Event) (s : State) : (raise e s).hasEvent e = true := by
  cases e <;> simp [State.hasEvent, raise, Event.bit, Event.num]

theorem raise_keeps_event (e e' : Event) (s : State) (h : s.hasEvent e' = true) : (raise e s).hasEvent e' = true := by
  simp only [State.hasEvent, raise_events, BitVec.getLsbD_or] at *; simp [h]

/-! ### Resolutions -/

/-- A resolution writes the targets into the fan records, and its record; nothing else changes. -/
theorem resolve_eq (s : State) : resolve s = { s with fans := withTargets s.fans (targets s), res := resolution s } := rfl

theorem resolveIf_eq (b : Bool) (s : State) :
    resolveIf b s = { s with fans := (resolveIf b s).fans, res := (resolveIf b s).res } := by
  cases b <;> rfl

theorem targets_resolve (s : State) : targets (resolve s) = targets s := rfl

/-- After a resolution the targets stand as the stages give them. -/
theorem settled_resolve (s : State) : Settled (resolve s) := fun _ _ => ⟨rfl, rfl, rfl, rfl⟩

/-- After a resolution its whole record stands as the stages give it. -/
theorem resolved_resolve (s : State) : Resolved (resolve s) := ⟨rfl, rfl, rfl⟩

/-- What the stages take nothing from leaves a resolution standing. -/
theorem resolved_raise {s : State} (e : Event) (h : Resolved s) : Resolved (raise e s) := h

theorem resolved_raiseIf {s : State} (b : Bool) (e : Event) (h : Resolved s) : Resolved (raiseIf b e s) := by
  cases b <;> exact h

theorem resolved_setLine {s : State} (l : LineRecord) (h : Resolved s) : Resolved (s.setLine l) := h

/-- R43, R44: a write to the demand table changes the table, and what the resolution it starts writes. -/
theorem writeDemand_eq (f : DemandTable → DemandTable) (s : State) :
    writeDemand f s = { s with
      demand := { f s.demand with changeCount := (s.demand.changeCount + 1) % 256 }
      fans := (writeDemand f s).fans, res := (writeDemand f s).res } := rfl

theorem settled_writeDemand (f : DemandTable → DemandTable) (s : State) : Settled (writeDemand f s) := settled_resolve _

theorem resolved_writeDemand (f : DemandTable → DemandTable) (s : State) : Resolved (writeDemand f s) := resolved_resolve _

/-! ### The preheater interlock -/

theorem preheatCheck_eq (s : State) :
    preheatCheck s = { s with frost :=
      { s.frost with duty := (preheatCheck s).frost.duty, output := (preheatCheck s).frost.output } } := by
  unfold preheatCheck; split <;> rfl

theorem preheatCheckFor_eq (st : Stream) (s : State) :
    preheatCheckFor st s = { s with frost :=
      { s.frost with duty := (preheatCheckFor st s).frost.duty, output := (preheatCheckFor st s).frost.output } } := by
  cases st
  · exact preheatCheck_eq s
  · rfl

/-! ### Saves -/

/-- An ask for a save changes the store alone. -/
theorem askSave_eq (s : State) : askSave s = { s with store := (askSave s).store } := by
  unfold askSave startSave; split <;> [rfl; split <;> rfl]

/-! ### Host requests -/

/-- An accepted request is handled by its owner in the state in which its own frame has arrived. -/
theorem hostRequest_of_accepts {tag : Byte} {q : Request} {s : State} (owner : State → Answer × State)
    (h : Accepts tag q s) : hostRequest tag q owner s = serveRequest tag q owner (heard tag q s) := by
  obtain ⟨-, h | ⟨h, hw⟩⟩ := h
  · simp [hostRequest, heard, h]
  · have hne : ¬ (s.link.slot = some ⟨tag, requestKind q, some q, .waiting⟩) := by simp [h]
    simp only [hostRequest, heard, hne, if_false]
    have h1 : (arrived s).link.slot = none := by
      unfold arrived acceptFrame frameArrival
      dsimp only
      split <;> simp_all [writeDemand]
    have h2 : waking (arrived s) = false := by
      unfold waking arrived acceptFrame frameArrival
      dsimp only
      split <;> simp_all [writeDemand]
    simp [place, h1, h2]

/-- A frame's arrival changes supervision, the link, and what the removal of a FALLBACK entry changes. -/
theorem arrived_eq (s : State) :
    arrived s = { s with superv := (arrived s).superv, link := (arrived s).link, demand := (arrived s).demand
                         fans := (arrived s).fans, res := (arrived s).res, events := (arrived s).events } := by
  unfold arrived acceptFrame frameArrival
  dsimp only
  split <;> rfl

@[simp] theorem heard_power (tag : Byte) (q : Request) (s : State) : (heard tag q s).power = s.power := by
  unfold heard; split
  · rfl
  · rw [arrived_eq]

end Sys2Proof.Machine
end

