-- ==== Sys2Proof/Laws/Fans.lean ====
section
/-! SUPPORT. What a control step and a hand-over of a fan channel can do, said once. -/

namespace Sys2Proof.Machine

/-! ### The hand-over (R23, R38, R84) -/

/-- A hand-over installs the record given, but for the target a resolution then writes. -/
theorem handOn_fan (st : Stream) (f : FanRecord) (es : List Event) (b : Bool) (s : State) :
    (handOn st f es b s).fans.get st = { f with qTarget := ((handOn st f es b s).fans.get st).qTarget } := by
  unfold handOn; dsimp only; unfold resolveIf
  cases st <;> simp only [raiseAll_eq, preheatCheckFor, preheatCheck, clipSupply] <;> split_ifs <;> rfl

/-- A hand-over changes of the other fan its target and its commanded flow alone; the supply's leaves the extract's flow. -/
theorem handOn_other (st : Stream) (f : FanRecord) (es : List Event) (b : Bool) (s : State) :
    (handOn st f es b s).fans.get (other st) =
        { s.fans.get (other st) with
          qTarget := ((handOn st f es b s).fans.get (other st)).qTarget
          qCmd := ((handOn st f es b s).fans.get (other st)).qCmd } ∧
      (st = .supply → (handOn st f es b s).fans.extract.qCmd = s.fans.extract.qCmd) := by
  unfold handOn; dsimp only; unfold resolveIf
  cases st <;> simp only [raiseAll_eq, preheatCheckFor, preheatCheck, clipSupply] <;> split_ifs <;>
    exact ⟨rfl, by first | (intro h; cases h; done) | exact fun _ => rfl⟩

/-- A hand-over changes the fans, the resolution record, the events given and the preheater. -/
theorem handOn_eq (st : Stream) (f : FanRecord) (es : List Event) (b : Bool) (s : State) :
    handOn st f es b s =
      { s with
        fans := (handOn st f es b s).fans
        res := (handOn st f es b s).res
        events := es.foldl (fun v e => v ||| e.bit) s.events
        frost :=
          { s.frost with
            duty := (handOn st f es b s).frost.duty
            output := (handOn st f es b s).frost.output } } := by
  unfold handOn; dsimp only; unfold resolveIf
  cases st <;> simp only [raiseAll_eq, preheatCheckFor, preheatCheck, clipSupply] <;> split_ifs <;> rfl

/-- A hand-over of a changed state or saturation ends in a resolution. -/
theorem handOn_changed (st : Stream) (f : FanRecord) (es : List Event) (b : Bool) (s : State)
    (h : f.state ≠ (s.fans.get st).state ∨ b = true ∨ f.satCap ≠ (s.fans.get st).satCap) :
    Resolved (handOn st f es b s) ∧ (handOn st f es b s).res.count = (s.res.count + 1) % 65536 ∧
      ∃ u, handOn st f es b s = resolve u := by
  unfold handOn; dsimp only
  have e : (f.state != (s.fans.get st).state || f.satCap != (s.fans.get st).satCap || b) = true := by
    rcases h with h | h | h <;> simp [h]
  rw [resolveIf, if_pos e]
  refine ⟨resolved_resolve _, ?_, _, rfl⟩
  cases st <;> simp only [raiseAll_eq, preheatCheckFor, preheatCheck, clipSupply] <;> split_ifs <;> rfl

/-! ### The control step (R21) -/

theorem formEstimate_eq (st : Stream) (u : State) :
    formEstimate st u =
      { u with
        fans := u.fans.set st (estimate u.settings u.seq.published st (u.fans.get st))
        frost := { u.frost with duty := (formEstimate st u).frost.duty, output := (formEstimate st u).frost.output } } := by
  unfold formEstimate; rw [preheatCheckFor_eq]; rfl

/-- The record the work of a control step finds is the measured one. -/
theorem formEstimate_takeSpeed_fan (st : Stream) (s : State) :
    (formEstimate st (takeSpeed st s)).fans.get st = measured st s := by
  rw [formEstimate_eq]; simp [takeSpeed, measured]

theorem formEstimate_takeSpeed_env (st : Stream) (s : State) :
    fanEnv (formEstimate st (takeSpeed st s)) st = fanEnv s st := by
  rw [formEstimate_eq]; cases st <;> rfl

/-- A control step is the work on the measured record, handed on. -/
theorem controlStep_eq (st : Stream) (s : State) :
    controlStep st s =
      (handOn st (fanWork (fanEnv s st) (measured st s)).1
          ((fanWork (fanEnv s st) (measured st s)).2.flatMap FanMark.events)
          ((fanWork (fanEnv s st) (measured st s)).2.contains .saturation) (formEstimate st (takeSpeed st s)),
        (fanWork (fanEnv s st) (measured st s)).2) := by
  simp only [controlStep, formEstimate_takeSpeed_fan, formEstimate_takeSpeed_env]

/-- After a control step the record is what the work left, but for its target. -/
theorem controlStep_fan (st : Stream) (s : State) :
    (controlStep st s).1.fans.get st =
      { (fanWork (fanEnv s st) (measured st s)).1 with qTarget := ((controlStep st s).1.fans.get st).qTarget } := by
  rw [controlStep_eq]; exact handOn_fan _ _ _ _ _

/-- A row that names an occasion of the control step is that step where the work brings the occasion about. -/
theorem whenMarked_controlStep (m : FanMark) (st : Stream) (s : State)
    (hm : m ∈ (fanWork (fanEnv s st) (measured st s)).2) : whenMarked m (controlStep st) s = (controlStep st s).1 :=
  whenMarked_on (by rw [controlStep_eq]; exact hm)

/-- A stalled or failed fan stops both targets (R57). -/
theorem targets_of_fault (u : State) (st : Stream)
    (h : (u.fans.get st).state = .stalled ∨ (u.fans.get st).state = .failed) : targets u = (0, 0) := by
  have : fanFault u = true := by
    unfold fanFault; cases st <;> (simp only [PerStream.get] at h; rcases h with h | h <;> simp [h])
  simp [targets, stopped, this]

/-! ### The work of a state -/

theorem drive_keeps (e : FanEnv) (f : FanRecord) :
    (drive e f).n = f.n ∧ (drive e f).tachCount = f.tachCount ∧ (drive e f).tachSpan = f.tachSpan ∧
      (drive e f).qMeas = f.qMeas ∧ (drive e f).loop = f.loop ∧ (drive e f).state = f.state ∧
      (drive e f).qCmd = f.qCmd ∧ (drive e f).qTarget = f.qTarget ∧ (drive e f).satCap = f.satCap ∧
      (drive e f).steadyCount = f.steadyCount ∧ (drive e f).retry = f.retry ∧ (drive e f).timer = f.timer := by
  unfold drive driveFrozen; split_ifs <;> exact ⟨rfl, rfl, rfl, rfl, rfl, rfl, rfl, rfl, rfl, rfl, rfl, rfl⟩

/-- The parts of a fan record that only measurement writes. -/
def FanRecord.sensed (f : FanRecord) : Nat × Nat × Nat × Nat × LoopMode × Option Nat × Bool :=
  (f.n, f.tachCount, f.tachSpan, f.qMeas, f.loop, f.absence, f.tachSeen)

theorem drive_sensed (e : FanEnv) (f : FanRecord) : (drive e f).sensed = f.sensed := by
  unfold drive driveFrozen; split_ifs <;> rfl

theorem steadyCheck_sensed (x : FanRecord) : (steadyCheck x).1.sensed = x.sensed := by
  unfold steadyCheck; split_ifs <;> rfl

theorem targetCheck_sensed (x : FanRecord) : (targetCheck x).sensed = x.sensed := by
  unfold targetCheck; split <;> (try split_ifs) <;> rfl

theorem countSteady_sensed (x : FanRecord) : (countSteady x).1.sensed = x.sensed := by
  unfold countSteady; split_ifs <;> rfl

theorem countSaturation_sensed (x : FanRecord) : (countSaturation x).1.sensed = x.sensed := by
  unfold countSaturation; split_ifs <;> rfl

theorem workRun_sensed (e : FanEnv) (f : FanRecord) : (workRun e f).1.sensed = f.sensed := by
  have stop : ∀ x : FanRecord, x.stop.sensed = x.sensed := fun _ => rfl
  unfold workRun rampAndDrive
  dsimp only
  split_ifs
  · rw [stop, drive_sensed]; exact (targetCheck_sensed _).trans (steadyCheck_sensed f)
  · rw [countSaturation_sensed, countSteady_sensed, drive_sensed]
    exact (targetCheck_sensed _).trans (steadyCheck_sensed f)

/-- The work of every state keeps what measurement wrote. -/
theorem fanWork_sensed (e : FanEnv) (f : FanRecord) : (fanWork e f).1.sensed = f.sensed := by
  unfold fanWork
  split
  · unfold workOff; dsimp only; split_ifs <;> rfl
  · split_ifs
    · unfold workSpin; dsimp only; split_ifs <;> rfl
    · unfold workStart driveFrozen; dsimp only; split_ifs <;> rfl
  · exact workRun_sensed e f
  · exact workRun_sensed e f
  · unfold workStalled; dsimp only; split_ifs <;> rfl
  · rfl

end Sys2Proof.Machine
end

