-- ==== Sys2Proof/Laws/Frost.lean ====
section
/-! SUPPORT. What a frost evaluation and a frost record's hand-over can do, said once. -/

namespace Sys2Proof.Machine

/-- A frost record's hand-over changes the record, the events, and what a resolution writes. -/
theorem handFrost_eq (f : FrostRecord) (es : List Event) (s : State) :
    handFrost f es s =
      { s with
        frost := f
        events := es.foldl (fun v e => v ||| e.bit) s.events
        fans := (handFrost f es s).fans
        res := (handFrost f es s).res } := by
  unfold handFrost; rw [raiseAll_eq]; unfold resolveIf; split <;> rfl

/-- A hand-over of a changed stage or window ends in a resolution (R63, step 6). -/
theorem handFrost_changed (f : FrostRecord) (es : List Event) (s : State)
    (h : f.stage ≠ s.frost.stage ∨ f.w ≠ s.frost.w) : HandedOn s (handFrost f es s) := by
  have e : (f.stage != s.frost.stage || f.w != s.frost.w) = true := by rcases h with h | h <;> simp [h]
  unfold handFrost
  rw [resolveIf, if_pos e]
  exact ⟨by rw [raiseAll_eq]; rfl, resolved_resolve _⟩

/-- An evaluation installs the record it forms. -/
theorem frostEvaluate_frost (s : State) : (frostEvaluate s).1.frost = (evalFrost (frostEnv s) s.frost).1 := by
  unfold frostEvaluate; dsimp only
  split <;> (first | rw [askSave_eq] | skip) <;> rw [handFrost_eq]

/-- An evaluation changes the frost record, the events, what a resolution writes, and the store. -/
theorem frostEvaluate_eq (s : State) :
    (frostEvaluate s).1 =
      { s with
        frost := (frostEvaluate s).1.frost
        fans := (frostEvaluate s).1.fans
        res := (frostEvaluate s).1.res
        events := (frostEvaluate s).1.events
        store := (frostEvaluate s).1.store } := by
  unfold frostEvaluate handFrost
  dsimp only
  split <;> (first | rw [askSave_eq] | skip) <;> rw [raiseAll_eq] <;> unfold resolveIf <;> split <;> rfl

/-- An evaluation changes of a fan its target alone. -/
theorem frostEvaluate_fan (s : State) (st : Stream) :
    (frostEvaluate s).1.fans.get st =
      { s.fans.get st with qTarget := ((frostEvaluate s).1.fans.get st).qTarget } := by
  unfold frostEvaluate handFrost
  dsimp only
  split <;> (first | rw [askSave_eq] | skip) <;> rw [raiseAll_eq] <;> unfold resolveIf <;> split <;> cases st <;> rfl

/-- A flag that is set stays set through events raised. -/
theorem getLsbD_foldl_bit (es : List Event) (v : BitVec 30) (i : Nat) (h : v.getLsbD i = true) :
    (es.foldl (fun v e => v ||| e.bit) v).getLsbD i = true := by
  induction es generalizing v with
  | nil => exact h
  | cons e es ih => exact ih _ (by simp [h])

/-- An evaluation's events are those it raises, on top of those that were set. -/
theorem frostEvaluate_events (s : State) :
    (frostEvaluate s).1.events =
      ((frostEvaluate s).2.flatMap FrostMark.events).foldl (fun v e => v ||| e.bit) s.events := by
  unfold frostEvaluate; dsimp only
  split <;> (first | rw [askSave_eq] | skip) <;> rw [handFrost_eq]

theorem frostEvaluate_keeps_event (s : State) (e : Event) (h : s.hasEvent e = true) :
    (frostEvaluate s).1.hasEvent e = true := by
  unfold State.hasEvent at *
  rw [frostEvaluate_events]
  exact getLsbD_foldl_bit _ _ _ h

end Sys2Proof.Machine
end

