-- ==== Sys2Proof/Laws/Requests.lean ====
section
/-! SUPPORT. A host request's outcome from its owner's answer, and the demand table's places. -/

namespace Sys2Proof.Machine

/-- An accepted request is served in the state in which its own frame has arrived. -/
theorem whenRunning_hostRequest {tag : Byte} {q : Request} {s : State} (owner : State → Answer × State)
    (h : Accepts tag q s) : whenRunning (hostRequest tag q owner) s = serveRequest tag q owner (heard tag q s) := by
  rw [whenRunning_on h.1, hostRequest_of_accepts _ h]

/-- A request answered at once leaves its owner's state with the reply queued. -/
theorem serveRequest_now {tag : Byte} {q : Request} {s t : State} {owner : State → Answer × State} {r : Result}
    {p : List Byte} (h : owner s = (.now r p, t)) : serveRequest tag q owner s = replied tag q r p t := by
  simp [serveRequest, h, replied]

theorem clampResult_min (a b : Nat) : clampResult (min a b == a) = if a ≤ b then .ok else .clamped := by
  unfold clampResult
  by_cases h : a ≤ b
  · simp [h]
  · have : ¬ min a b = a := by omega
    simp [h, this]

/-- A write to a HOST_TIMED slot is read there, and leaves the other slots. -/
theorem slot_setTimed (d : DemandTable) (k : Nat) (e : Option DemandEntry) (h1 : 1 ≤ k) (h2 : k ≤ 4) :
    (setTimed k e d).slot k = e ∧ ∀ j ≠ k, (setTimed k e d).slot j = d.slot j := by
  constructor
  · unfold DemandTable.slot setTimed
    rw [if_neg (by omega)]
    have : k - 1 < 4 := by omega
    simp [this]
  · intro j hj
    unfold DemandTable.slot setTimed
    by_cases h0 : j = 0
    · simp [h0]
    · rw [if_neg h0, if_neg h0]
      have : k - 1 ≠ j - 1 := by omega
      simp [this]

/-- A write to a room's BOOST place is read there, and leaves the other places. -/
theorem boostOf_setBoost (d : DemandTable) (room : Nat) (e : Option DemandEntry) (h : room ≤ 6) :
    (setBoost room e d).boostOf room = e ∧ ∀ j ≠ room, (setBoost room e d).boostOf j = d.boostOf j := by
  have h7 : room < 7 := by omega
  refine ⟨by simp [DemandTable.boostOf, setBoost, h7], fun j hj => ?_⟩
  simp [DemandTable.boostOf, setBoost, Ne.symm hj]

/-- The fan-minimum zeroing gives 0 or at least q_fan_min. -/
theorem fanMinZeroed_cases (q : Nat) : (fanMinZeroed q = 0 ∧ q < 60) ∨ (fanMinZeroed q = q ∧ 60 ≤ q) := by
  unfold fanMinZeroed Config.qFanMin; split_ifs <;> omega

end Sys2Proof.Machine
end

