-- ==== Sys2Proof/Laws/Rooms.lean ====
section
/-! SUPPORT. What the operations on rooms, sessions, filters and node rows can do, said once. -/

namespace Sys2Proof.Machine

/-! ### Rooms and sessions -/

/-- A room's record written is read there, and leaves the other rooms. -/
theorem room_setRoom (s : State) (room : Nat) (r : RoomRecord) (h : room ≤ 6) :
    (s.setRoom room r).room room = r ∧ ∀ k ≠ room, (s.setRoom room r).room k = s.room k := by
  have h7 : room < 7 := by omega
  refine ⟨by simp [State.room, State.setRoom, h7], fun k hk => ?_⟩
  simp [State.room, State.setRoom, Ne.symm hk]

/-- An opening changes the sessions, the demand table, what a resolution writes, and the events. -/
theorem openSession_eq (room : Nat) (t : Trigger) (u : Urgency) (s : State) :
    openSession room t u s =
      { s with
        sessions := s.sessions ++ [newSession room t u s]
        sessionChange := (s.sessionChange + 1) % 256
        demand := (openSession room t u s).demand
        fans := (openSession room t u s).fans
        res := (openSession room t u s).res
        events := s.events ||| Event.boostOpened.bit } := rfl

/-- A close changes the sessions, the room's record, the demand table, what a resolution writes, and the events. -/
theorem closeSession_eq (room : Nat) (why : CloseReason) (s : State) :
    closeSession room why s =
      { s with
        sessions := s.sessions.filter (fun x => x.room != room)
        sessionChange := (s.sessionChange + 1) % 256
        rooms := (closeSession room why s).rooms
        demand := (closeSession room why s).demand
        fans := (closeSession room why s).fans
        res := (closeSession room why s).res
        events := s.events ||| Event.boostClosed.bit } := rfl

theorem resolved_openSession (room : Nat) (t : Trigger) (u : Urgency) (s : State) : Resolved (openSession room t u s) :=
  ⟨rfl, rfl, rfl⟩

theorem resolved_closeSession (room : Nat) (why : CloseReason) (s : State) : Resolved (closeSession room why s) :=
  ⟨rfl, rfl, rfl⟩

/-- A loss of sensing changes the sessions alone. -/
theorem sensingLost_eq (room : Nat) (gone : Bool) (s : State) :
    sensingLost room gone s = { s with sessions := (sensingLost room gone s).sessions } := by
  unfold sensingLost; split <;> rfl

/-- A sample changes the rooms, the sessions, the demand table, what a resolution writes, and the events. -/
theorem newSample_eq (room rh : Nat) (temp : Option Int) (s : State) :
    newSample room rh temp s =
      { s with
        rooms := (newSample room rh temp s).rooms
        sessions := (newSample room rh temp s).sessions
        sessionChange := (newSample room rh temp s).sessionChange
        demand := (newSample room rh temp s).demand
        fans := (newSample room rh temp s).fans
        res := (newSample room rh temp s).res
        events := (newSample room rh temp s).events } := by
  unfold newSample
  split
  · dsimp only
    split
    · unfold sampleSession relevel; dsimp only; split <;> rfl
    · unfold judgeTriggers; dsimp only; split_ifs <;> rfl
  · rfl

/-! ### Filters -/

/-- The forming of a ceiling changes that filter's ceiling and what a resolution writes. -/
theorem formCeiling_eq (st : Stream) (s : State) :
    formCeiling st s =
      { s with
        filters := s.filters.set st { s.filters.get st with ceiling := ceilingOf s.settings (s.filters.get st) }
        fans := (formCeiling st s).fans
        res := (formCeiling st s).res } := by
  unfold formCeiling
  dsimp only
  split
  · rename_i h; rw [h]; cases st <;> rfl
  · rfl

/-! ### Node rows -/

/-- A row written at a position 1..6 is read there, and leaves the other positions. -/
theorem rowAt_setRow (t : NodeTable) (p : Nat) (r : Option NodeRow) (h1 : 1 ≤ p) (h2 : p ≤ 6) :
    rowAt (setRow t p r) p = r ∧ ∀ k ≠ p, rowAt (setRow t p r) k = rowAt t k := by
  have hp : p - 1 < 6 := by omega
  refine ⟨by simp [rowAt, setRow, hp, Nat.ne_of_gt h1], fun k hk => ?_⟩
  unfold rowAt setRow
  split
  · rfl
  · have : p - 1 ≠ k - 1 := by omega
    simp [this]

/-- A row found stands at its position 1..6 and passes the test. -/
theorem findRow_some {t : NodeTable} {ok : NodeRow → Bool} {p : Nat} {r : NodeRow}
    (h : findRow t ok = some (p, r)) : 1 ≤ p ∧ p ≤ 6 ∧ rowAt t p = some r ∧ ok r = true := by
  obtain ⟨q, hq, hr⟩ := List.exists_of_findSome?_eq_some h
  cases hrow : rowAt t q with
  | none => simp [hrow] at hr
  | some x =>
    simp only [hrow, Option.bind_some] at hr
    split at hr
    · cases hr
      refine ⟨?_, ?_, hrow, ‹_›⟩ <;> (simp [positions] at hq; omega)
    · cases hr

/-! ### Exchanges and jobs -/

theorem inExchange_on {f : Txn → State → State} {s : State} {x : Txn} (h : s.line.txn = some x) (hp : x.phase = .exchange) :
    inExchange f s = f x s := by
  simp [inExchange, h, hp]

/-- Outside an exchange nothing that a node or the reply window does has an effect. -/
theorem inExchange_off {f : Txn → State → State} {s : State} (h : s.line.txn.map (·.phase) ≠ some .exchange) :
    inExchange f s = s := by
  unfold inExchange
  split
  · rename_i x hx
    rw [if_neg]
    intro hp
    exact h (by simp [hx, hp])
  · rfl

theorem endPhase_on {ph : TxnPhase} {s : State} {x : Txn} (h : s.line.txn = some x) (hp : x.phase = ph) :
    endPhase ph s = setTxn (x.into .due) s := by
  simp [endPhase, h, hp]

theorem endPhase_off {ph : TxnPhase} {s : State} (h : s.line.txn.map (·.phase) ≠ some ph) : endPhase ph s = s := by
  unfold endPhase
  split
  · rename_i x hx
    rw [if_neg]
    intro hp
    exact h (by simp [hx, hp])
  · rfl

/-- A POLL that is due or held back changes the line alone. -/
theorem sendPoll_eq (low : Bool) (s : State) : sendPoll low s = { s with line := (sendPoll low s).line } := by
  unfold sendPoll
  dsimp only
  split
  · split <;> rfl
  · rfl

/-- A report is accepted exactly where every test of R106 holds. -/
theorem acceptable_isSome (x : Txn) (a rh : Nat) (t : Int) (kind : Nat) (err call good : Bool) :
    (acceptable x a rh t kind err call good).isSome = true ↔
      good = true ∧ x.address = a ∧ rh ≤ 1000 ∧ -400 ≤ t ∧ t ≤ 800 ∧ (RoomKind.ofCode kind).isSome = true := by
  unfold acceptable
  split_ifs with h <;> simp_all

/-- A job's progress changes the line alone. -/
theorem proceed_eq (s : State) : proceed s = { s with line := (proceed s).line } := by
  unfold proceed
  split <;> first | rfl | (unfold visitRows; split <;> rfl) | (unfold visitAddresses; split <;> rfl)

/-- R110, R116: a visit goes on to the next row after a position that the job polls, or the job ends. -/
theorem visitRows_spec (at' : Nat) (s : State) :
    (∀ p r, at' < p → p ≤ 6 → rowAt s.nodes p = some r → jobTakes s.line.job r = true →
      (∀ k r', at' < k → k < p → rowAt s.nodes k = some r' → jobTakes s.line.job r' = false) →
      visitRows (at' + 1) s = s.setLine { s.line with pos := some p, txn := some (.start r.address r.seqBit) }) ∧
    ((∀ k r', at' < k → rowAt s.nodes k = some r' → jobTakes s.line.job r' = false) →
      visitRows (at' + 1) s = endJob s) := by
  refine ⟨fun p r h1 h2 h3 h4 h5 => ?_, fun h => ?_⟩
  · have e : (positions.findSome? fun p => (rowAt s.nodes p).bind fun r =>
        if at' + 1 ≤ p ∧ jobTakes s.line.job r = true then some (p, r) else none) = some (p, r) := by
      have key : ∀ (l : List Nat), p ∈ l → l.Pairwise (· < ·) →
          (l.findSome? fun p => (rowAt s.nodes p).bind fun r =>
            if at' + 1 ≤ p ∧ jobTakes s.line.job r = true then some (p, r) else none) = some (p, r) := by
        intro l
        induction l with
        | nil => intro h; cases h
        | cons a l ih =>
          intro hm hp
          rw [List.findSome?_cons]
          rcases List.mem_cons.1 hm with rfl | hm
          · simp [h3, h4, h1]
          · have hlt : a < p := (List.pairwise_cons.1 hp).1 p hm
            rw [ih hm (List.pairwise_cons.1 hp).2]
            cases ha : rowAt s.nodes a with
            | none => simp
            | some ra =>
              by_cases hb : at' < a
              · simp [h5 a ra hb hlt ha]
              · have : ¬(at' + 1 ≤ a) := by omega
                simp [this]
      exact key positions (by simp [positions]; omega) (by decide)
    unfold visitRows
    rw [e]
  · have e : (positions.findSome? fun p => (rowAt s.nodes p).bind fun r =>
        if at' + 1 ≤ p ∧ jobTakes s.line.job r = true then some (p, r) else none) = none := by
      rw [List.findSome?_eq_none_iff]
      intro a _
      cases ha : rowAt s.nodes a with
      | none => rfl
      | some ra =>
        by_cases hb : at' < a
        · simp [h a ra hb ha]
        · have : ¬(at' + 1 ≤ a) := by omega
          simp [this]
    unfold visitRows
    rw [e]

/-- R113: a sweep goes on to the next address after one that no row holds, or the job ends. -/
theorem visitAddresses_spec (at' : Nat) (s : State) :
    (∀ a, at' < a → a ≤ 30 → rowOf s.nodes a = none →
      (∀ k, at' < k → k < a → (rowOf s.nodes k).isSome = true) →
      visitAddresses (at' + 1) s = s.setLine { s.line with sweep := some a, txn := some (.start a false) }) ∧
    ((∀ a, at' < a → a ≤ 30 → (rowOf s.nodes a).isSome = true) → visitAddresses (at' + 1) s = endJob s) := by
  refine ⟨fun a h1 h2 h3 h4 => ?_, fun h => ?_⟩
  · have e : ((List.range 31).find? fun a => decide (at' + 1 ≤ a) && decide (1 ≤ a) && (rowOf s.nodes a).isNone) = some a := by
      rw [List.find?_range_eq_some]
      refine ⟨by simp [h3]; omega, by simp; omega, fun k hk => ?_⟩
      by_cases hb : at' < k
      · have := h4 k hb hk
        cases hr : rowOf s.nodes k with
        | none => simp [hr] at this
        | some x => simp
      · have : ¬(at' + 1 ≤ k) := by omega
        simp [this]
    unfold visitAddresses
    rw [e]
  · have e : ((List.range 31).find? fun a => decide (at' + 1 ≤ a) && decide (1 ≤ a) && (rowOf s.nodes a).isNone) = none := by
      rw [List.find?_eq_none]
      intro k hk
      simp only [List.mem_range] at hk
      by_cases hb : at' < k
      · have := h k hb (by omega)
        cases hr : rowOf s.nodes k with
        | none => simp [hr] at this
        | some x => simp
      · have : ¬(at' + 1 ≤ k) := by omega
        simp [this]
    unfold visitAddresses
    rw [e]

/-- R110, R113, R116: all that a job's going on can do. -/
theorem proceed_goesOn (s : State) : JobGoesOn s.line s.nodes (proceed s).line := by
  rintro ended rfl polls hp
  have ht : ∀ r, jobTakes s.line.job r = true ↔ polls r := fun r => by rw [hp]; simp [jobTakes]
  have hf : ∀ r, jobTakes s.line.job r = false ↔ ¬polls r := fun r => by rw [← ht]; simp
  refine ⟨fun h => by simp [proceed, h], fun h at' ha => ?_, fun h at' ha => ?_⟩
  · have hpr : proceed s = visitRows (at' + 1) s := by
      have ha : s.line.pos = some at' := ha
      rcases h with h | h <;> simp [proceed, h, ha]
    rw [hpr]
    refine ⟨fun p r h1 h2 h3 h4 h5 => ?_, fun h5 => ?_⟩
    · rw [(visitRows_spec at' s).1 p r h1 h2 h3 ((ht r).2 h4) fun k r' a b c => (hf r').2 (h5 k r' a b c)]; rfl
    · rw [(visitRows_spec at' s).2 fun k r' a c => (hf r').2 (h5 k r' a c)]; rfl
  · have hpr : proceed s = visitAddresses (at' + 1) s := by
      have ha : s.line.sweep = some at' := ha
      simp [proceed, h, ha]
    rw [hpr]
    refine ⟨fun a h1 h2 h3 h4 => ?_, fun h5 => ?_⟩
    · rw [(visitAddresses_spec at' s).1 a h1 h2 h3 h4]; rfl
    · rw [(visitAddresses_spec at' s).2 h5]; rfl

/-- The start of a job changes the line alone. -/
theorem jobStart_eq (s : State) : jobStart s = { s with line := (jobStart s).line } := by
  unfold jobStart
  split_ifs <;> first | rfl | (unfold visitRows; split <;> rfl) | (unfold visitAddresses; split <;> rfl)

end Sys2Proof.Machine
end

