-- ==== Sys2Proof/Laws/StartUp.lean ====
section
/-! SUPPORT. What the end of a scan and the end of start-up can do, and when a timed entry expires, said once. -/

namespace Sys2Proof.Machine

/-- A publication's arrivals change the fans, the frost record, the events, what a resolution writes, and the store. -/
theorem scanArrivals_eq (s : State) :
    scanArrivals s =
      { s with
        fans := (scanArrivals s).fans
        frost := (scanArrivals s).frost
        res := (scanArrivals s).res
        events := (scanArrivals s).events
        store := (scanArrivals s).store } := by
  unfold scanArrivals
  rw [frostEvaluate_eq, formEstimate_eq, formEstimate_eq]

/-- Steps 3 to 8 of start-up are what `settleBlocks` sets, the first resolution, the events and discovery pending. -/
theorem finishStartUp_eq (s : State) :
    finishStartUp s =
      { settleBlocks s with
        fans := (finishStartUp s).fans
        res := (finishStartUp s).res
        events := (finishStartUp s).events
        line := { s.line with discPending := true } } := by
  unfold finishStartUp
  cases s.store.imageGood <;> rfl

/-- Start-up makes the first resolution. -/
theorem resolved_finishStartUp (s : State) :
    Resolved (finishStartUp s) ∧ (finishStartUp s).res.count = (s.res.count + 1) % 65536 := by
  constructor
  · exact resolved_setLine _ (resolved_raiseIf _ _ (resolved_raise _ (resolved_resolve _)))
  · rw [finishStartUp, State.setLine_res]
    cases s.store.imageGood <;> rfl

theorem expireSlot_on {slot : Nat} {s : State} (h : expiryDue s.demand slot = true) :
    expireSlot slot s = raise .demandExpired (writeDemand (setTimed slot none) s) := by
  simp [expireSlot, h]

theorem expireSlot_off {slot : Nat} {s : State} (h : expiryDue s.demand slot = false) : expireSlot slot s = s := by
  simp [expireSlot, h]

end Sys2Proof.Machine
end

