-- ==== Sys2Proof/WellFormed.lean ====
section
/-! DEFINITION. The bounds the manual puts on a command's operands. A request's fields are as wide as the catalogue carries
them, so only counts and the values other sources bring need a check. The machine is total: a command that fails its check
still has an outcome. -/

namespace Sys2Proof

/-- The checks of one command's operands, each with the rule that gives its bound. -/
def Instr.wellFormed : Instr → Bool
  | .conversion raw => raw < 4096                                                    -- 01, "Channels": raw 0..4095
  | .tachPulse _ interval => 0 < interval                                            -- R19: pulses are timestamped apart
  | .demandExpiry slot => 1 ≤ slot && slot ≤ 4                                       -- R42: slot 1..4
  | .reading address rh temp kind _ _ _ =>
      1 ≤ address && address ≤ 30 && rh ≤ 1000 && -400 ≤ temp && temp ≤ 800 && kind < 6   -- 06, "Frames and exchanges"
  | .wait address _ => 1 ≤ address && address ≤ 30                                   -- 06, "Frames and exchanges"
  | .sessionTimeout room => room ≤ 6                                                 -- 07, "Rooms": 0..6
  | .callTimeEnd room => room ≤ 6
  | .overrunEnd room => room ≤ 6
  | .openingTimeout room => room ≤ 6
  | .boostShort room => room ≤ 6
  | .lengthError byte => byte.toNat < 2 || 48 < byte.toNat                           -- R157
  | .setTableTemperature _ points => points.length == 17                             -- R173: 35 payload bytes
  | .setTableFeedforward _ _ points => points.length == 8                            -- R173: 33 payload bytes
  | _ => true

end Sys2Proof
end

