-- ==== Sys2Proof/Tests/Slice0.lean ====
section
/-! SUPPORT. Tests: the checks of WellFormed, the manual's own worked figures, and for every claim with premises states and
operands that meet them. Expected figures come from the manual's examples and tables, named beside each test. -/

namespace Sys2Proof.Tests

open Sys2Proof Sys2Proof.Machine

/-! ### Small states -/

/-- The state a command leaves. -/
def after (c : Instr) (s : State) : State :=
  match exec c s with
  | .next t => t
  | .fault _ => s
  | .refused _ => s

/-- A channel that reads a value. -/
def reads (x : Int) : ChannelRecord := ⟨100, some x, some x, .valid, .noFault, 0⟩

/-- A channel that cannot be read. -/
def blind : ChannelRecord := { reads 0 with validity := .invalid }

/-- The part with its published records changed. -/
def published (f : PerChannel ChannelRecord → PerChannel ChannelRecord) (s : State) : State :=
  { s with seq := { s.seq with published := f s.seq.published } }

/-- The part with its frost record changed. -/
def frosted (f : FrostRecord → FrostRecord) (s : State) : State := { s with frost := f s.frost }

/-- The part with one fan changed. -/
def fanned (st : Stream) (f : FanRecord → FanRecord) (s : State) : State := s.setFan st (f (s.fans.get st))

/-- The part with its line changed. -/
def lined (f : LineRecord → LineRecord) (s : State) : State := { s with line := f s.line }

/-- The part with its link changed. -/
def linked (f : Link → Link) (s : State) : State := { s with link := f s.link }

/-- The part with its store changed. -/
def stored (f : Store → Store) (s : State) : State := { s with store := f s.store }

/-- The part with its mode record changed. -/
def moded (m : ModeRecord) (s : State) : State := { s with mode := m }

/-- The part with its supervision changed. -/
def watched (x : Supervision) (s : State) : State := { s with superv := x }

/-- Whether a fact holds of the state a command leaves. -/
def leaves (c : Instr) (s : State) (p : State → Bool) : Bool := p (after c s)

/-! ### WellFormed: an ill-formed term for each check -/

theorem test_wf_conversion : Instr.wellFormed (.conversion 4096) = false := by decide
theorem test_wf_tachPulse : Instr.wellFormed (.tachPulse .supply 0) = false := by decide
theorem test_wf_demandExpiry : Instr.wellFormed (.demandExpiry 5) = false ∧ Instr.wellFormed (.demandExpiry 0) = false := by
  decide
theorem test_wf_reading_address : Instr.wellFormed (.reading 31 0 0 0 false false true) = false := by decide
theorem test_wf_reading_humidity : Instr.wellFormed (.reading 1 1001 0 0 false false true) = false := by decide
theorem test_wf_reading_temperature : Instr.wellFormed (.reading 1 0 801 0 false false true) = false := by decide
theorem test_wf_reading_kind : Instr.wellFormed (.reading 1 0 0 6 false false true) = false := by decide
theorem test_wf_wait : Instr.wellFormed (.wait 0 true) = false := by decide
theorem test_wf_sessionTimeout : Instr.wellFormed (.sessionTimeout 7) = false := by decide
theorem test_wf_callTimeEnd : Instr.wellFormed (.callTimeEnd 7) = false := by decide
theorem test_wf_overrunEnd : Instr.wellFormed (.overrunEnd 7) = false := by decide
theorem test_wf_openingTimeout : Instr.wellFormed (.openingTimeout 7) = false := by decide
theorem test_wf_boostShort : Instr.wellFormed (.boostShort 7) = false := by decide
theorem test_wf_lengthError : Instr.wellFormed (.lengthError 2#8) = false := by decide
theorem test_wf_setTableTemperature : Instr.wellFormed (.setTableTemperature 0 []) = false := by decide
theorem test_wf_setTableFeedforward : Instr.wellFormed (.setTableFeedforward 0 .supply []) = false := by decide
theorem test_wf_accepts : Instr.wellFormed (.reading 30 1000 (-400) 5 true true false) = true := by decide

/-! ### The manual's worked figures -/

/-- 01, "Worked conversions". -/
theorem test_convert_temperature : convert .default .tExh 2000 = 105 := by decide
theorem test_convert_pressure : convert .default .dpFs 344 = 419 := by decide
theorem test_convert_rail :
    convert .default .vSupply 2458 = 240 ∧ convert .default .vSupply 2150 = 209 ∧
      convert .default .vSupply 2048 = 200 ∧ convert .default .vSupply 1721 = 168 ∧
      convert .default .vSupply 1720 = 167 := by decide

/-- 01, "Worked sequence: a failing exhaust sensor". -/
theorem test_filter_exhaust :
    convert .default .tExh 2910 = -58 ∧ filterToward .tExh (-51) (-58) = -52 ∧ convert .default .tExh 2900 = -56 ∧
      convert .default .tExh 2930 = -62 ∧ filterToward .tExh (-56) (-62) = -57 := by decide

/-- 02, "Worked example: one supply control step". -/
def supplyStep : State :=
  published (fun p => { p with dpFs := reads 420, dpXs := reads 380 }) <|
    fanned .extract (fun f => { f with qCmd := 330 }) <|
      fanned .supply (fun f => { f with
        state := .ramping, qTarget := 400, qCmd := 300, trim := 8, tachCount := 5, tachSpan := 60000 }) .reset

theorem test_controlStep_supply :
    leaves (.controlStep .supply) supplyStep (fun t =>
      t.fans.supply.n == 2500 && t.fans.supply.qMeas == 315 && t.fans.supply.qCmd == 330 && t.fans.supply.trim == 9 &&
        t.fans.supply.duty == 333) = true := by decide

/-- 02, the same example with the extract at 320. -/
theorem test_controlStep_coupled :
    leaves (.controlStep .supply) (fanned .extract (fun f => { f with qCmd := 320 }) supplyStep) (fun t =>
      t.fans.supply.qCmd == 320 && t.fans.supply.duty == 324) = true := by decide

/-- 03, "Worked resolution: quiet, a blocked filter and a frost shed". -/
def quietShed (w : Nat) : State :=
  { frosted (fun f => { f with stage := .shed, w := w, s := w, allowance := 200 }) State.reset with
    mode := ⟨.quiet, 0, none, 0⟩
    filters := ⟨.default 900, { FilterRecord.default 428 with state := .blocked, loading := some 420 }⟩
    demand := setBoost 2 (some ⟨500, none, false, 0, 0⟩)
      (setTimed 1 (some ⟨250, some 60, false, 0, 0⟩) (.reset 300)) }

theorem test_resolve_quiet_shed :
    targets (quietShed 8) = (350, 175) ∧ extReason (quietShed 8) = .quiet ∧ supReason (quietShed 8) = .window ∧
      targets (quietShed 4) = (287, 87) ∧ extReason (quietShed 4) = .allowance ∧ supReason (quietShed 4) = .window := by
  decide

/-- 03, "Worked resolution: limits of balance". -/
def balance (level w a : Nat) (st : FrostStage) : State :=
  { frosted (fun f => { f with stage := st, w := w, allowance := a }) State.reset with demand := .reset level }

theorem test_resolve_limits :
    targets (balance 450 0 250 .defrost) = (250, 0) ∧ targets (balance 400 2 200 .shed) = (200, 0) ∧
      supReason (balance 400 2 200 .shed) = .fanMin ∧ targets (balance 100 2 100 .recover) = (100, 0) ∧
      targets (fanned .extract (fun f => { f with satCap := some 50 }) State.reset) = (0, 0) ∧
      extReason (fanned .extract (fun f => { f with satCap := some 50 }) State.reset) = .fanMin ∧
      targets (moded ⟨.standby, 0, some 9, 0⟩ State.reset) = (0, 0) ∧
      extReason (moded ⟨.standby, 0, some 9, 0⟩ State.reset) = .standby ∧
      supReason (fanned .supply (fun f => { f with state := .stalled }) State.reset) = .fanFault := by decide

/-- R64: a humidity of 500 gives 15, 1000 gives 40, and an unreadable one 30. -/
theorem test_guard_temperature : guardOf (reads 500) = 15 ∧ guardOf (reads 1000) = 40 ∧ guardOf blind = 30 := by decide

/-- 04, "Worked episode": at q_ext_meas 300 a pressure of 223 over a reference of 120 is a ratio of 135. -/
theorem test_exchanger_ratio :
    ratioOf (exchangerResistance { FanRecord.reset with qMeas := 300 } (reads 223)) (some 120) = some 135 := by decide

/-- R84: a T_ps of -30 gives 50 % at -55 and 100 % at -80. -/
theorem test_preheater_duty : demandedDuty (-30) (reads (-55)) = 50 ∧ demandedDuty (-30) (reads (-80)) = 100 := by decide

/-- 05, "Worked sequence: loading to BLOCKED": the third row. -/
def ageing (rAvg dp : Nat) (x : FilterState) : State :=
  { published (fun p => { p with dpFe := reads dp })
      (fanned .extract (fun f => { f with state := .steady, qMeas := 450 }) .reset) with
    filters := ⟨.default 900, { FilterRecord.default 900 with state := x, rf0 := some 90, rAvg := some rAvg }⟩ }

theorem test_filterSample_loaded :
    leaves (.filterSample .extract) (ageing 134 464 .clean) (fun t =>
      t.filters.extract.state == .loaded && t.filters.extract.loading == some 150 && t.hasEvent .filterLoaded) = true := by
  decide

theorem test_filterSample_blocked :
    leaves (.filterSample .extract) (ageing 359 1175 .due) (fun t =>
      t.filters.extract.state == .blocked && t.filters.extract.ceiling == 450 && t.hasEvent .filterBlocked) = true := by
  decide

/-- R131: the levels. -/
theorem test_session_levels :
    levelFor .kitchen .high = 750 ∧ levelFor .bath .high = 625 ∧ levelFor .shower .high = 687 ∧
      levelFor .utility .high = 562 ∧ levelFor .wc .high = 437 ∧ levelFor .other .high = 500 := by decide

/-- 11, "Frame": SET_MODE QUIET with tag 0x20 arrives as 3, 0x38, 0x20, 0x01 and CHECK 164; its reply's CHECK is 35. -/
def quietFrame : State :=
  linked (fun l => { l with rx := .check, len := 3, body := [0x38#8, 0x20#8, 0x01#8] }) .reset

theorem test_goodFrame_setMode :
    leaves (.goodFrame 164#8) quietFrame (fun t =>
      t.link.slot == some ⟨0x20#8, 0x38#8, some (.setMode 1#8), .waiting⟩ && t.link.counters.good == 1) = true := by decide

theorem test_setMode_reply :
    leaves (.setMode 0x20#8 1#8) (after (.goodFrame 164#8) quietFrame) (fun t =>
      t.mode.mode == .quiet && t.link.tx.map (fun f => frameBytes f.body) ==
        [[0x5A#8, 4#8, 0xB8#8, 0x20#8, 0#8, 1#8, 35#8]]) = true := by decide

theorem test_badCheckFrame : leaves (.badCheckFrame 163#8) quietFrame (fun t => t.link.counters.checkErrors == 1) = true := by
  decide

/-- The part about to convert a channel in the first scan of a start-up. -/
def scanning (ch : Channel) : State := { State.reset with seq := { State.reset.seq with next := some ch } }

/-- R16, R63, R80, R171: the first scan's last conversion, with no temperature to be read, is followed by the rest of start-up
and then by its frost evaluation, which finds T_EXH and T_OUT unreadable. -/
theorem test_firstScan_ends :
    leaves (.conversion 2458) (scanning .vSupply) (fun t =>
      !t.startingUp && t.hasEvent .resetDone && t.hasEvent .settingsLost && t.alertLow && t.line.discPending &&
        t.frost.mode == .degraded && t.frost.stage == .shed && t.res.extTarget == 300 && t.res.supTarget == 150) = true := by
  decide

/-- R15: a brownout in the first scan resets, and start-up begins anew. -/
theorem test_firstScan_brownout :
    leaves (.conversion 1720) (scanning .vSupply) (fun t =>
      t.cause == .brownout && t.startingUp && !t.alertLow && t.seq.next == none) = true := by decide

/-- R170: power that returns while the reset input is held starts up at the input's release, with the cause POWER_ON. -/
theorem test_powerOn_held :
    leaves .powerOn { after .powerFail State.reset with resetLine := true } (fun t => t.power == .held &&
      leaves .resetLineRelease t (fun u => u.power == .running && u.cause == .powerOn)) = true := by decide

/-- R171: a start-up from a store never written leaves the state after reset. -/
theorem test_powerOn_reset : leaves .powerOn State.reset (fun t => t == State.reset) = true := by decide

/-- R33, 02 "stall, spin tests and recovery": the first wait is 10 s. -/
theorem test_tachAbsence_stalls :
    leaves (.tachAbsence .extract) (fanned .extract (fun f => { f with state := .steady, absence := some 2000 }) .reset)
      (fun t => t.fans.extract.state == .stalled && t.fans.extract.timer == 10 && t.hasEvent .fanStalled &&
        t.res.extTarget == 0 && t.res.extReason == .fanFault) = true := by decide

/-- 03, "Worked sequence: a timed demand in quiet mode": levels above q_rated are clamped, and the created-at is kept. -/
theorem test_setDemand_replaces :
    leaves (.setDemand 9 1 2 1000 120 1)
      { State.reset with
        mode := ⟨.quiet, 0, none, 0⟩, clock := 1600000
        demand := setTimed 2 (some ⟨600, some 300, true, 1000, 0⟩) (.reset 300) } (fun t =>
      t.demand.slot 2 == some ⟨900, some 120, true, 1000, 0⟩ && t.res.extTarget == 900 &&
        t.link.tx.map (fun f => f.body) == [[0x90#8, 9#8, 1#8, 132#8, 3#8]]) = true := by decide

/-- An idle step is a millisecond; at the first second both control steps fall due. -/
theorem test_idle_second :
    (match step { State.reset with startingUp := false, clock := 999 } with
    | .next t => t.clock == 1000 && t.pending.contains (.controlStep .supply) && t.pending.contains .modeStep
    | _ => false) = true := by decide

/-- R154, R156: the request that waits is the first row of a second that ends. -/
theorem test_idle_request :
    (match step { linked (fun l => { l with slot := some ⟨1, 2, some (.getStatus 1), .waiting⟩ }) State.reset with
        clock := 999 } with
    | .next t => t.pending.head? == some (.getStatus 1 1)
    | _ => false) = true := by decide

/-- No row of the table gives bits, so no word is a command. -/
theorem test_no_word_decodes : decodeTableWord 8 0 = none ∧ State.reset.withFetchWord 8 0 = State.reset := by decide

/-! ### Witnesses: the queue, resets and measurement -/

theorem witness_EveryCommandAnswersNext :
    (after .powerFail .reset).power ≠ .running ∧
      Instr.ping 1 ∉ [Instr.powerOn, .resetLineAssert, .resetLineRelease, .powerFail] := by decide

theorem witness_RefusedRequestChangesNothing :
    Accepts 1 (.getStatus 9) .reset ∧ 16 ≤ Result.badValue.code ∧
      ∃ t, exec ((Request.getStatus 9).toInstr 1) .reset = .next t ∧
        t.link.tx = (heard 1 (.getStatus 9) .reset).link.tx ++
          [⟨.slotReply, replyBody (requestKind (.getStatus 9)) 1 .badValue []⟩] :=
  ⟨by decide, by decide, _, rfl, by decide⟩

/-- A store that has been written once. -/
def saved : Image := snapshot .default .reset

theorem witness_StartUpOnBadImage :
    (State.reset.resetLine = false ∧ State.reset.store.image = none) ∧
      (stored (fun x => { x with image := none, writing := some saved }) .reset).store.writing.isSome = true := by decide

theorem witness_StartUpLoadsTheImage :
    ∀ p ∈ [Power.running, .held], ∃ s : State, s.power = p ∧ s.store.image = some saved ∧ s.store.writing = none ∧
      s.resetLine = false := by
  intro p _
  exact ⟨{ stored (fun x => { x with image := some saved }) .reset with power := p }, rfl, rfl, rfl, rfl⟩

theorem witness_StartUpLoadsTheImage_scan :
    let s := scanning .vSupply
    s.power = .running ∧ s.startingUp = true ∧ s.seq.next = some .vSupply ∧ convert s.seq.cal .vSupply 1721 = 168 ∧
      ¬(16 ≤ 15 ∧ 15 ≤ 4079) := by decide

theorem witness_ResetsActAlike_held :
    ∃ u, exec .powerOn { { State.reset with power := .held } with resetLine := false } = .next u := ⟨_, rfl⟩

theorem witness_ResetsActAlike_command :
    let s := stored (fun x => { x with closed := true }) (linked (fun l => { l with tx := [⟨.slotReply, [1, 2]⟩] }) .reset)
    s.power = .running ∧ s.store.closed = true ∧ replyLeaving s = true := by decide

theorem witness_ResetsActAlike_brownout :
    (scanning .vSupply).power = .running ∧ (scanning .vSupply).seq.next = some .vSupply ∧
      ∀ raw ∈ [16, 1720], 16 ≤ raw ∧ raw ≤ 4079 ∧ convert (scanning .vSupply).seq.cal .vSupply raw < 168 := by decide

theorem witness_ResetHeldAndPowerLost :
    State.reset.power = .running ∧ { after .powerFail State.reset with resetLine := true }.resetLine = true ∧
      (after .powerFail .reset).power ≠ .running ∧ (after .resetLineAssert .reset).power ≠ .running ∧
      State.reset.power ≠ .held := by decide

theorem witness_ScansConvertInTurn :
    State.reset.power = .running ∧ State.reset.seq.next = none ∧
      (∀ ch ∈ [Channel.tOut, .dpXe], (scanning ch).seq.next = some ch ∧ ch ≠ .vSupply) ∧
      |(3 : Int) - 0| ≤ 3 ∧ |(-7 : Int) - 0| ≤ 7 ∧ (16 ≤ 16 ∧ 16 ≤ 4079) ∧ (16 ≤ 4079 ∧ 4079 ≤ 4079) ∧ 15 < 16 ∧ 4080 ≤ 4080 := by decide

theorem witness_ConversionsFollowTheirFormulas :
    (∀ raw ∈ [16, 3839, 3840, 4079], 16 ≤ raw ∧ raw ≤ 4079 ∧
        (scanning .tExh).seq.cal.temps[raw / 256]?.isSome = true ∧
        (scanning .tExh).seq.cal.temps[raw / 256 + 1]?.isSome = true) ∧
      (scanning .tExh).power = .running ∧ (scanning .tExh).seq.next = some .tExh ∧
      (scanning .dpXe).seq.next = some .dpXe ∧ (scanning .rhExt).seq.next = some .rhExt ∧
      168 ≤ max (0 : Int) (min 400 (((1721 * (scanning .vSupply).seq.cal.vSupply.gain / 4096 : Nat) : Int) +
        (scanning .vSupply).seq.cal.vSupply.offset)) := by decide

/-- The part about to convert the rail, with SUPPLY_LOW and its recovery count given. -/
def railing (low : Bool) (n : Nat) : State :=
  { State.reset with
    startingUp := false, seq := { State.reset.seq with next := some .vSupply, supplyLow := low, recovery := n } }

theorem witness_LastConversionPublishes :
    (railing false 0).startingUp = false ∧ (railing false 0).seq.next = some .vSupply ∧
      convert State.reset.seq.cal .vSupply 1721 = 168 ∧ convert State.reset.seq.cal .vSupply 2079 = 203 ∧
      convert State.reset.seq.cal .vSupply 2089 = 204 ∧ convert State.reset.seq.cal .vSupply 2202 = 215 ∧
      convert State.reset.seq.cal .vSupply 2212 = 216 ∧ (railing true 9).seq.supplyLow = true ∧
      ¬(16 ≤ 15 ∧ 15 ≤ 4079) ∧ ¬(16 ≤ 4080 ∧ 4080 ≤ 4079) := by decide

theorem witness_LastConversionPublishes_sensors :
    (convertChannel .vSupply 3
      { (scanning .vSupply).seq with faultRaised := true, restoredRaised := true }).faultRaised = true ∧
    (convertChannel .vSupply 3
      { (scanning .vSupply).seq with faultRaised := true, restoredRaised := true }).restoredRaised = true := by decide

theorem witness_LastConversionPublishes_recovery :
    let s := published (fun p => { p with vSupply := reads 216 }) (railing true 9)
    s.power = .running ∧ s.seq.supplyLow = true ∧ s.seq.recovery = 9 ∧ s.seq.published.vSupply.faultKind = .noFault ∧
      s.seq.published.vSupply.engineering = some 216 := by decide

/-! ### Witnesses: the idle step, the loaded image and publications -/

theorem witness_StepRunsFrontCommand :
    State.reset.pending = [] ∧ State.reset.power = .running ∧ (after .powerFail .reset).pending = [] ∧
      (after .powerFail .reset).power ≠ .running := by decide

/-- A part whose timers stand at the end of their seconds. -/
def idling : State :=
  { lined (fun l => { l with discTimer := 86399, discMs := 999 }) .reset with
    demand := setTimed 4 (some ⟨200, some 2, false, 0, 999⟩) (setTimed 1 (some ⟨200, some 1, false, 0, 999⟩) (.reset 300))
    nodes := setRow State.reset.nodes 1 (some { NodeRow.unheard 5 2 .bath with age := some 7, ageMs := 999 }) }

/-- R49, R111, R113: an expiry falls each second, and falls due where it would reach 0; a reading ages, and the discovery timer
ends at 86 400 s. -/
theorem test_idle_timers :
    (match step idling with
    | .next t => t.demand.slot 4 == some ⟨200, some 1, false, 0, 0⟩ && t.pending.contains (.demandExpiry 1) &&
        !t.pending.contains (.demandExpiry 4) && (rowAt t.nodes 1).map (·.age) == some (some 8) &&
        t.line.discTimer == 86400 && t.pending.contains .discoveryTimerExpiry
    | _ => false) = true := by decide

/-- Whether the idle step of a part brings a row. -/
def brings (c : Instr) (s : State) : Bool :=
  match step s with
  | .next t => t.pending.contains c
  | _ => false

/-- R106, R109, R117, R118: the line's rows, each at its moment and not a millisecond before. -/
theorem test_idle_line :
    (∀ ms ∈ [998, 999],
      brings .suspensionEnd (lined (fun l => { l with state := .fault, suspension := 1, lineMs := ms }) .reset) =
        decide (ms = 999) ∧
      brings .lineRestart (lined (fun l => { l with state := .off, powered := false, restart := 1, lineMs := ms }) .reset) =
        decide (ms = 999)) ∧
    (∀ ms ∈ [98, 99], brings .lineSettleEnd (lined (fun l => { l with state := .off, powered := true, lineMs := ms }) .reset) =
      decide (ms = 99)) ∧
    brings .jobStart (lined (fun l => { l with callPending := true }) .reset) = true ∧
    brings (.poll false) (lined (fun l => { l with txn := some ⟨5, false, 1, 0, .due, 0⟩ }) .reset) = true := by decide

/-- A stored image with a pinned row at its second position and a blocked extract filter. -/
def savedInUse : Image :=
  { saved with
    filters := ⟨saved.filters.supply, { state := .blocked, rf0 := some 100, rAvg := some 420, dose := 7, hours := 9 }⟩
    rows := saved.rows.setIfInBounds 1 (some ⟨5, 2, .bath⟩) }

theorem witness_StartUpLoadsTheImage_rows :
    some ⟨5, 2, .bath⟩ ∈ savedInUse.rows.toList ∧
      (∀ r, some r ∈ savedInUse.rows.toList → r.room = 2 → r = ⟨5, 2, .bath⟩) ∧
      ∀ r, some r ∈ savedInUse.rows.toList → r.room ≠ 3 := by
  have h : ∀ o ∈ savedInUse.rows.toList, o = none ∨ o = some ⟨5, 2, .bath⟩ := by decide
  refine ⟨by decide, fun r hr _ => ?_, fun r hr => ?_⟩ <;> rcases h _ hr with e | e <;> cases e
  · rfl
  · decide

/-- R102, R103, R144, and 03's worked ceiling: a loading of 420 at a q_rated of 900 is a ceiling of 428. -/
theorem test_powerOn_loads :
    leaves .powerOn (stored (fun x => { x with image := some savedInUse }) .reset) (fun t =>
      t.room 2 == ⟨true, some .bath, 700, none, none, false, [], none, 0, none⟩ && !(t.room 3).bound &&
        t.filters.extract.loading == some 420 && t.filters.extract.ceiling == 428 && t.filters.extract.dose == 7) = true := by
  decide

/-- A part that heats, about to convert its rail. -/
def heatedScan : State :=
  let p := fun p : PerChannel ChannelRecord => { p with
    tPre := reads (-55), tExh := reads 5, rhExt := reads 500, tOut := reads 30, dpFs := reads 420, dpXs := reads 380 }
  { frosted (fun f => { f with stage := .watch, duty := 50, output := true })
      (fanned .supply (fun f => { f with state := .steady, n := 2500, qMeas := 315 }) (railing false 0)) with
    settings := { Settings.default with preheatFitted := true }
    seq := { (railing false 0).seq with published := p State.reset.seq.published, working := p State.reset.seq.working } }

theorem witness_LastConversionPublishes_interlock :
    heatedScan.power = .running ∧ heatedScan.startingUp = false ∧ heatedScan.seq.next = some .vSupply ∧
      heatedScan.frost.stage = .watch ∧ heatedScan.fans.supply.state = .steady ∧
      (convertChannel .vSupply 2458 heatedScan.seq).working.tPre.validity = .valid ∧ heatedScan.frost.block = 0 ∧
      (∃ t, exec (.conversion 2458) heatedScan = .next t ∧ 150 ≤ t.fans.supply.qMeas ∧ t.seq.supplyLow = false) :=
  ⟨rfl, rfl, rfl, rfl, rfl, by decide, rfl, _, rfl, by decide⟩

/-- R14, R84: a good rail leaves the duty that T_PRE asks for, and a low one drops it; either way the evaluation forms T_g. -/
theorem test_publication_interlock :
    leaves (.conversion 2458) heatedScan (fun t => t.frost.duty == 50 && t.frost.output && t.frost.tg == 15) = true ∧
      leaves (.conversion 2048) heatedScan (fun t => t.frost.duty == 0 && !t.frost.output && t.frost.tg == 15 &&
        t.hasEvent .supplyLow) = true := by decide

/-! ### Witnesses: fans -/

theorem witness_DriveTachAndStalls_absence :
    ∀ x ∈ [FanState.ramping, .steady, .starting],
      ((fanned .supply (fun f => { f with state := x, absence := some 2000 }) .reset).fans.get .supply).absence.isSome =
        true := by decide

/-- A fan at the last step of a start without speed. -/
def failing (k : StartKind) (retry : Nat) : State :=
  fanned .supply (fun f => { f with state := .starting, startKind := k, qTarget := 60, timer := 4, retry := retry }) .reset

theorem witness_DriveTachAndStalls_start :
    let g := measured .supply (failing .normal 0)
    g.state = .starting ∧ g.startKind = .normal ∧ 60 ≤ g.qTarget ∧ g.n < 200 ∧ 4 ≤ g.timer := by decide

theorem witness_ControlStepMeasuresAndRamps :
    let off := fanned .supply (fun f => { f with qTarget := 60 }) (fanned .extract (fun f => { f with qCmd := 60 }) .reset)
    let low := fanned .extract (fun f => { f with qCmd := 59 }) off
    let run := fanned .extract (fun f => { f with state := .ramping, qTarget := 60, qCmd := 60 }) State.reset
    let stop := fanned .extract (fun f => { f with state := .steady, qTarget := 59, qCmd := 120 }) State.reset
    ((off.fans.get .supply).state = .off ∧ 60 ≤ (off.fans.get .supply).qTarget ∧ 60 ≤ off.fans.extract.qCmd) ∧
      ((low.fans.get .supply).state = .off ∧ low.fans.extract.qCmd < 60) ∧
      ((run.fans.get .extract).running = true ∧ 60 ≤ (run.fans.get .extract).qTarget) ∧
      ((stop.fans.get .extract).running = true ∧ (stop.fans.get .extract).qTarget < 60 ∧
        max ((measured .extract stop).qCmd - 60) (measured .extract stop).qTarget ≤ 60) := by decide

theorem witness_ControlStepMeasuresAndRamps_table :
    feedforwardOk Feedforward.default = true ∧ Feedforward.default[0]? = some (0, 0) ∧
      Feedforward.default[1]? = some (150, 180) ∧ Feedforward.default[6]? = some (900, 800) ∧
      Feedforward.default[7]? = some (1200, 1000) := by decide

/-- A fan in a state, with a target, a timer and a speed. -/
def standing (x : FanState) (k : StartKind) (target timer : Nat) (turns : Bool) : State :=
  fanned .supply (fun f => { f with
    state := x, startKind := k, qTarget := target, timer := timer, tachCount := if turns then 5 else 0, tachSpan := 60000 })
    .reset

theorem witness_ControlStepOccasions_start :
    (measured .supply (standing .starting .normal 59 0 false)).qTarget < 60 ∧
      (60 ≤ (measured .supply (standing .starting .normal 60 0 true)).qTarget ∧
        200 ≤ (measured .supply (standing .starting .normal 60 0 true)).n) ∧
      200 ≤ (measured .supply (standing .starting .spinTest 0 4 true)).n ∧
      (∀ k ∈ [StartKind.normal, .spinTest], (measured .supply (standing .starting k 60 3 false)).n < 200 ∧
        (measured .supply (standing .starting k 60 3 false)).timer < 4) ∧
      2 ≤ (measured .supply (standing .stalled .normal 0 2 false)).timer ∧
      (measured .supply (standing .failed .normal 0 0 false)).state = .failed ∧
      (measured .supply (standing .steady .normal 60 0 true)).qTarget ≠
        (measured .supply (standing .steady .normal 60 0 true)).qCmd := by decide

/-- R29, R34: a start that finds the fan turning enters RAMPING, and a spin test that does ends in OFF. -/
theorem test_start_succeeds :
    leaves (.controlStep .supply) (standing .starting .normal 60 0 true) (fun t => t.fans.supply.state == .ramping) = true ∧
      leaves (.controlStep .supply) (standing .starting .spinTest 0 4 true) (fun t => t.fans.supply.state == .off) = true := by
  decide

theorem witness_ControlStepOccasions_steady :
    let s := fanned .extract (fun f => { f with state := .ramping, qTarget := 60, qCmd := 60, steadyCount := 4 }) .reset
    let g := measured .extract s
    g.state = .ramping ∧ 60 ≤ g.qTarget ∧ coupled (fanEnv s .extract) (rampTo g.qCmd g.qTarget) = g.qTarget ∧
      4 ≤ g.steadyCount ∧ g.loop = .openLoop := by decide

theorem witness_ControlStepOccasions_retry :
    let s := fanned .extract (fun f => { f with state := .steady, qTarget := 60, qCmd := 60, timer := 59, retry := 2 }) .reset
    let g := measured .extract s
    g.state = .steady ∧ 60 ≤ g.qTarget ∧ g.qTarget = g.qCmd ∧ g.timer = 59 := by decide

theorem witness_ControlStepOccasions_spin :
    ((measured .extract (fanned .extract (fun f => { f with state := .stalled, timer := 1 }) .reset)).state = .stalled ∧
      (measured .extract (fanned .extract (fun f => { f with state := .stalled, timer := 1 }) .reset)).timer ≤ 1) ∧
    ∀ retry ∈ [0, 1, 2], (measured .supply (failing .spinTest retry)).state = .starting ∧
      (measured .supply (failing .spinTest retry)).startKind = .spinTest ∧
      (measured .supply (failing .spinTest retry)).n < 200 ∧ 4 ≤ (measured .supply (failing .spinTest retry)).timer ∧
      (measured .supply (failing .spinTest retry)).retry = retry := by decide

/-- 02, "Worked example: full drive and saturation": the extract fan at the sixtieth such step. -/
def saturating : State :=
  published (fun p => { p with dpFe := reads 0, dpXe := reads 0 })
    (fanned .extract (fun f => { f with
      state := .steady, qTarget := 900, qCmd := 900, trim := 240, tachCount := 10, tachSpan := 66964, satCount := 59 })
      .reset)

theorem witness_ControlStepOccasions_saturation :
    let g := measured .extract saturating
    let h := rampAndDrive (fanEnv saturating .extract) (targetCheck (steadyCheck g).1)
    g.state = .steady ∧ 60 ≤ g.qTarget ∧ g.loop = .closed ∧ 59 ≤ h.satCount ∧ h.duty = 1000 ∧ g.qMeas + 20 < h.qCmd := by
  decide

theorem test_fanSaturation : leaves (.fanSaturation .extract) saturating (fun t =>
    t.fans.extract.satCap == some 700 && t.hasEvent .fanSaturated && t.res.count == 1) = true := by decide

theorem witness_FanRecover :
    Accepts 1 (.fanRecover 1) (fanned .extract (fun f => { f with state := .failed, retry := 3 }) .reset) ∧
      ((heard 1 (.fanRecover 1)
        (fanned .extract (fun f => { f with state := .failed, retry := 3 }) .reset)).fans.get .extract).state = .failed ∧
      streamOf 1 = some .extract ∧ ((heard 1 (.fanRecover 0) .reset).fans.get .supply).state ≠ .failed ∧
      streamOf 0 = some .supply ∧ 2 ≤ (2#8 : Byte).toNat := by decide


theorem witness_ControlStepMeasuresAndRamps_speed :
    (supplyStep.fans.supply.tachCount ≠ 0 ∧ supplyStep.fans.supply.tachSpan ≠ 0) ∧ supplyStep.fans.extract.tachCount = 0 ∧
      supplyStep.seq.published.dpXs.validity ≠ .invalid ∧
      (published (fun p => { p with dpXs := blind }) supplyStep).seq.published.dpXs.validity = .invalid := by decide

/-- R24: a pressure that cannot be read counts as 0 and opens the loop. -/
theorem test_controlStep_blind :
    leaves (.controlStep .supply) (published (fun p => { p with dpFs := blind, dpXs := blind }) supplyStep) (fun t =>
      t.fans.supply.n == 2500 && t.fans.supply.qMeas == 2500 * Settings.default.fanKn / 256 &&
        t.fans.supply.loop == .openLoop) = true := by decide

/-- The extract fan in RAMPING toward 60, at a flow and a steady count. -/
def nearing (cmd count : Nat) (cap : Option Nat) : State :=
  fanned .extract (fun f => { f with state := .ramping, qTarget := 60, qCmd := cmd, steadyCount := count, satCap := cap }) .reset

theorem witness_ControlStepOccasions_counts :
    (∀ n ∈ [3, 4], ∀ q ∈ [60, 200], (measured .extract (nearing q n none)).state = .ramping ∧
        60 ≤ (measured .extract (nearing q n none)).qTarget ∧
        leaves (.controlStep .extract) (nearing q n none) (fun t => (t.fans.extract.qCmd == 60) == (q == 60)) = true) ∧
      (measured .extract (nearing 60 0 (some 80))).satCap = some 80 ∧
      (measured .extract (nearing 60 0 (some 80))).qTarget + 20 ≤ 80 ∧
      (measured .extract (standing .steady .normal 60 58 true)).timer ≠ 59 ∧
      ∀ n ∈ [58, 59], (measured .extract (fanned .extract (fun f => { f with satCount := n }) saturating)).loop = .closed ∧
        leaves (.controlStep .extract) (fanned .extract (fun f => { f with satCount := n }) saturating) (fun t =>
          t.fans.extract.duty == 1000 && t.fans.extract.qMeas + 20 < t.fans.extract.qCmd) = true := by decide

/-- R30, R36, R37: the fifth step at the target is STEADY, a step away from it returns the count to 0, the target at 20 below
the cap clears it and at 19 does not. -/
theorem test_controlStep_counts :
    leaves (.controlStep .extract) (nearing 60 3 none) (fun t => t.fans.extract.steadyCount == 4) = true ∧
      leaves (.controlStep .extract) (nearing 60 4 none) (fun t => t.fans.extract.state == .steady) = true ∧
      leaves (.controlStep .extract) (nearing 200 4 none) (fun t => t.fans.extract.steadyCount == 0) = true ∧
      leaves (.controlStep .extract) (nearing 60 0 (some 80)) (fun t => t.fans.extract.satCap == none) = true ∧
      leaves (.controlStep .extract) (nearing 60 0 (some 79)) (fun t => t.fans.extract.satCap == some 79) = true ∧
      leaves (.controlStep .extract) (fanned .extract (fun f => { f with satCount := 58 }) saturating) (fun t =>
        t.fans.extract.satCount == 59 && t.fans.extract.satCap == none) = true := by decide

/-- The extract fan at a commanded flow, on its way down to 200, over a supply at 300. -/
def lowering (cmd : Nat) : State :=
  fanned .supply (fun f => { f with state := .steady, qTarget := 300, qCmd := 300 })
    (fanned .extract (fun f => { f with state := .ramping, qTarget := 200, qCmd := cmd, absence := some 2000 }) .reset)

/-- R23, R32: a lowered extract flow clips the supply's at once, one that stays above it or rises leaves it, and an extract
stall takes it to 0. -/
theorem test_supply_clipped :
    leaves (.controlStep .extract) (lowering 330) (fun t => t.fans.extract.qCmd == 270 && t.fans.supply.qCmd == 270) = true ∧
      leaves (.controlStep .extract) (lowering 400) (fun t => t.fans.extract.qCmd == 340 && t.fans.supply.qCmd == 300) =
        true ∧
      leaves (.controlStep .extract) (lowering 100) (fun t => t.fans.extract.qCmd == 130 && t.fans.supply.qCmd == 300) =
        true ∧
      leaves (.tachAbsence .extract) (lowering 330) (fun t => t.fans.extract.qCmd == 0 && t.fans.supply.qCmd == 0 &&
        t.fans.supply.state == .steady) = true := by decide

theorem witness_FanRecover_supply :
    let s := frosted (fun f => { f with tg := 15 }) (fanned .supply (fun f => { f with state := .failed, retry := 3 }) .reset)
    Accepts 1 (.fanRecover 0) s ∧ ((heard 1 (.fanRecover 0) s).fans.get .supply).state = .failed ∧
      leaves (.fanRecover 1 0) s (fun t => t.fans.supply.state == .off && t.frost == s.frost) = true := by decide

/-! ### Witnesses: demand -/

theorem witness_SetDemandBase :
    Accepts 1 (.setDemand 0 0 900 0 0) .reset ∧ Accepts 1 (.setDemand 0 0 901 0 0) .reset := by decide

theorem witness_SetDemandTimed :
    Accepts 1 (.setDemand 1 1 900 1 1) .reset ∧ Accepts 1 (.setDemand 1 4 901 65535 0) .reset ∧
      1 ≤ (1#8 : Byte).toNat ∧ (4#8 : Byte).toNat ≤ 4 ∧ (1#16 : Half) ≠ 0 := by decide

theorem witness_ClearDemandAndRefusals :
    Accepts 1 (.clearDemand 0 0) .reset ∧ Accepts 1 (.clearDemand 1 4) .reset ∧
      (heard 1 (.clearDemand 1 4) .reset).demand.slot 4 = none ∧
      ((heard 1 (.clearDemand 1 1)
        { State.reset with demand := setTimed 1 (some (.base 200)) (.reset 300) }).demand.slot 1).isSome = true ∧
      Accepts 1 (.clearDemand 2 0) .reset ∧ Accepts 1 (.setDemand 2 0 5 0 0) .reset ∧
      Accepts 1 (.setDemand 0 1 5 0 0) .reset ∧ Accepts 1 (.setDemand 1 5 5 9 0) .reset ∧ 5 ≤ (5#8 : Byte).toNat ∧
      2 ≤ (2#8 : Byte).toNat := by decide

/-- The part with an entry in slot 4, at an expiry and at its part of a second. -/
def timedOut (expiry : Option Nat) (ms : Nat) : State :=
  { State.reset with demand := setTimed 4 (some ⟨200, expiry, false, 0, ms⟩) (.reset 300) }

theorem witness_DemandExpiry :
    (timedOut (some 1) 1000).demand.slot 4 = some ⟨200, some 1, false, 0, 1000⟩ ∧
      (timedOut (some 2) 1000).demand.slot 4 = some ⟨200, some 2, false, 0, 1000⟩ ∧
      (timedOut (some 1) 999).demand.slot 4 = some ⟨200, some 1, false, 0, 999⟩ ∧
      State.reset.demand.slot 1 = none ∧ State.reset.demand.slot 0 = none := by decide

/-- 95, "SET_DEMAND" and "DEMAND_EXPIRY": an entry replaced as its expiry falls due does not expire. -/
theorem test_demandExpiry :
    leaves (.demandExpiry 4) (timedOut (some 1) 1000) (fun t => t.demand.slot 4 == none && t.hasEvent .demandExpired) = true ∧
      leaves (.demandExpiry 4) (after (.setDemand 1 1 4 200 1 0) (timedOut (some 1) 1000)) (fun t =>
        (t.demand.slot 4).isSome && !t.hasEvent .demandExpired) = true := by decide

theorem witness_ResolutionFollowsItsStages :
    let level := fun (e : Source × Nat × DemandEntry) => if e.2.2.exempt = false then min e.2.2.level 350 else e.2.2.level
    (quietShed 8).settings.qQuiet = 350 ∧ (quietShed 8).mode.mode = .quiet ∧
      (∃ e ∈ (quietShed 8).demand.entries, level e = 350) ∧ (∀ e ∈ (quietShed 8).demand.entries, level e ≤ 350) ∧
      (moded ⟨.standby, 0, some 9, 0⟩ State.reset).demand.entries.filter (fun e => decide (e.1 = .airing)) = [] := by decide

/-- Each invariant holds of the state after reset, so every claim that a step keeps one has a state to start from. -/
theorem witness_invariants : Obligations.ResetMeetsTheInvariants :=
  ⟨by decide, by decide, by decide, by decide, by decide, by decide, by decide, by decide, by decide, by decide, by decide⟩

/-- And from it a step answers a next state. -/
theorem witness_step_answers : ∃ t, step State.reset = .next t := ⟨_, rfl⟩

/-- A part that heats: WATCH, the supply fan moving air, T_PRE valid at -5.5 °C and the duty at 50. -/
def heating : State :=
  published (fun p => { p with tPre := reads (-55) })
    (fanned .supply (fun f => { f with state := .steady, qMeas := 150 })
      (frosted (fun f => { f with stage := .watch, duty := 50, output := true })
        { State.reset with settings := { Settings.default with preheatFitted := true } }))

theorem witness_PreheatOnlyUnderInterlock :
    heating.frost.duty ≠ 0 ∧ heating.frost.output = true ∧ PreheatLegal heating ∧ WindowLegal heating.frost := by decide

theorem witness_QueueStaysLegal :
    let s := linked (fun l => { l with
      slot := some ⟨1, 1, some .ping, .replied⟩
      tx := [⟨.answer, [1, 2, 3]⟩, ⟨.slotReply, [1, 2, 3]⟩, ⟨.notice, [1, 2]⟩, ⟨.answer, [1, 2, 3]⟩] }) .reset
    QueueLegal s ∧ FramesFit s := by decide

theorem witness_SupplyNeverExceedsExtract : Coupled supplyStep ∧ supplyStep.fans.supply.qCmd = 300 := by decide

/-! ### Witnesses: frost guarding -/

/-- The part at an evaluation: a stage, a window, an exhaust temperature over a humidity of 500 (a guard temperature of
15). -/
def guarding (x : FrostStage) (w : Nat) (tExh : Int) (f : FrostRecord → FrostRecord) : State :=
  published (fun p => { p with tExh := reads tExh, rhExt := reads 500, tOut := reads 30, tPre := reads 0 })
    (frosted (fun r => f { r with stage := x, w := w }) .reset)

theorem witness_FrostGuardingRows :
    ∀ s ∈ [guarding .watch 16 35 (fun f => { f with watchExit := 299 }),
        guarding .watch 16 5 (fun f => { f with cold := 119 }), guarding .shed 3 5 (fun f => { f with cold := 119 }),
        guarding .recover 2 5 (fun f => { f with cold := 119 }),
        guarding .shed 8 16 (fun f => { f with warm := 119 }), guarding .recover 2 16 (fun f => { f with warm := 59 }),
        guarding .recover 16 16 (fun f => { f with warm := 59 })],
      GuardsNormally s ∧ WindowLegal s.frost ∧ ¬IcingFound s ∧ ¬DeepColdFound s ∧
        s.settings.preheatFitted = false := by decide

/-- The stages that leave DEFROST and IDLE by icing, with the extract's resistance at a ratio of 135. -/
def iced (x : FrostStage) (w : Nat) : State :=
  fanned .extract (fun f => { f with state := .steady, qMeas := 300 })
    (published (fun p => { p with dpXe := reads 223 }) (guarding x w 40 (fun f => { f with rx0 := some 120, icing := 3 })))

theorem witness_FrostDefrostRows_entry :
    (∀ x ∈ [FrostStage.idle, .watch, .shed, .recover], GuardsNormally (iced x 2) ∧ IcingFound (iced x 2)) ∧
      GuardsNormally (guarding .idle 16 (-15) fun f => { f with deepCold := 899 }) ∧
      DeepColdFound (guarding .idle 16 (-15) fun f => { f with deepCold := 899 }) := by decide

theorem witness_FrostDefrostRows_hold :
    ¬Cleared (guarding .defrost 0 49 fun f => { f with timer := 599 }) ∧
      ¬Cleared (guarding .hold 0 49 fun f => { f with timer := 59, holdChecks := 4 }) ∧
      ¬Cleared (guarding .hold 0 49 fun f => { f with timer := 59, holdChecks := 3 }) ∧
      Cleared (guarding .hold 0 50 fun f => { f with timer := 59 }) ∧
      GuardsNormally (guarding .hold 0 50 fun f => { f with timer := 59 }) ∧
      (guarding .hold 0 50 fun f => { f with timer := 59 }).frost.timer + 1 =
        (guarding .hold 0 50 fun f => { f with timer := 59 }).frost.holdInterval := by decide

theorem witness_FrostDefrostRows_lock :
    let s := guarding .lock 0 0 fun f => { f with release := 599 }
    GuardsNormally s ∧ s.seq.published.tOut.validity ≠ .invalid ∧ 30 ≤ s.seq.published.tOut.value ∧
      599 ≤ s.frost.release := by decide

theorem test_lockRelease :
    leaves .lockRelease (guarding .lock 0 0 fun f => { f with release := 599 }) (fun t =>
      t.frost.stage == .defrost && t.frost.wEntry == 2 && t.hasEvent .defrostStarted) = true := by decide

/-- The exhaust temperature lost, over an outdoor temperature. -/
def sightless (x : FrostStage) (w : Nat) (tOut : Int) (f : FrostRecord → FrostRecord) : State :=
  published (fun p => { p with tExh := blind, tOut := reads tOut }) (guarding x w 0 f)

theorem witness_FrostEvaluationChanges :
    (GuardsNormally (guarding .defrost 0 50 id) ∧ Cleared (guarding .defrost 0 50 id)) ∧
      ((sightless .watch 16 (-30) id).frost.mode = .normal ∧
        (sightless .watch 16 (-30) id).seq.published.tExh.validity = .invalid ∧ OutsideCold (sightless .watch 16 (-30) id)) ∧
      ¬OutsideCold (sightless .watch 16 (-29) id) ∧
      (∀ x ∈ [FrostStage.idle, .shed, .defrost],
        (guarding x 8 49 fun f => { f with mode := .degraded }).frost.mode = .degraded ∧
          (guarding x 8 49 fun f => { f with mode := .degraded }).seq.published.tExh.validity ≠ .invalid ∧
          ¬DeepColdFound (guarding x 8 49 fun f => { f with mode := .degraded }) ∧
          ¬Cleared (guarding x 8 49 fun f => { f with mode := .degraded })) := by decide

theorem witness_FrostEvaluationChanges_lock :
    (∀ r ∈ [598, 599], ∀ s ∈ [guarding .lock 0 0 (fun f => { f with release := r }),
        sightless .lock 0 30 (fun f => { f with release := r, mode := .degraded })],
      s.frost.stage = .lock ∧ s.frost.release = r ∧
        (s.seq.published.tOut.validity ≠ .invalid ∧ 30 ≤ s.seq.published.tOut.value)) ∧
      ¬(30 ≤ (sightless .lock 0 29 id).seq.published.tOut.value) ∧
      (sightless .lock 0 29 id).seq.published.tExh.validity = .invalid := by decide

theorem witness_DegradedLearnAndPreheatRows_cycle :
    (∀ t ∈ [-30, (-29 : Int)], (sightless .defrost 0 t fun f => { f with mode := .degraded, timer := 299 }).frost.mode =
        .degraded) ∧
      OutsideCold (sightless .shed 8 (-30) fun f => { f with mode := .degraded, timer := 1799 }) ∧
      OutsideCold (sightless .defrost 0 (-30) fun f => { f with mode := .degraded, timer := 299 }) ∧
      ¬OutsideCold (sightless .defrost 0 (-29) fun f => { f with mode := .degraded, timer := 299 }) := by decide

/-- The sixteenth qualifying scan of a learn. -/
def learning : State :=
  published (fun p => { p with tOut := reads 50, dpXe := reads 223 })
    (fanned .extract (fun f => { f with state := .steady, qMeas := 300 })
      (guarding .idle 16 60 fun f => { f with learnCount := 15, learnSum := 1800 }))

theorem witness_DegradedLearnAndPreheatRows_learn :
    resistanceNow learning = some 162 ∧ learning.seq.published.tOut.validity = .valid ∧
      50 ≤ learning.seq.published.tOut.value ∧ learning.fans.extract.state = .steady ∧
      learning.frost.stage = .idle ∧ 15 ≤ learning.frost.learnCount ∧ learning.frost.rx0 = none := by decide

theorem test_exchangerLearnComplete :
    leaves .exchangerLearnComplete learning (fun t => t.frost.rx0 == some 122 && t.store.writing.isSome) = true := by decide

theorem witness_DegradedLearnAndPreheatRows_preheat :
    ((guarding .watch 16 20 fun f => { f with block := 1 }).frost.block = 1 ∧
        (guarding .watch 16 20 fun f => { f with block := 1 }).seq.published.tPre.value < 150) ∧
      (frosted (fun f => { f with output := true, duty := 99 }) .reset).frost.output = true ∧
      (frosted (fun f => { f with output := true, duty := 99 }) .reset).frost.duty < 100 := by decide

theorem witness_FrostRequests :
    (Accepts 1 .forceDefrost .reset ∧ (heard 1 .forceDefrost .reset).frost.stage = .idle) ∧
      (Accepts 1 .frostRelease (guarding .lock 0 0 id) ∧
        (heard 1 .frostRelease (guarding .lock 0 0 id)).frost.stage = .lock) ∧
      (Accepts 1 .forceDefrost (guarding .hold 0 0 id) ∧
        (heard 1 .forceDefrost (guarding .hold 0 0 id)).frost.stage = .hold) ∧
      (Accepts 1 .frostRelease .reset ∧ (heard 1 .frostRelease .reset).frost.stage ≠ .lock) ∧
      Accepts 1 .learnExchanger .reset := by decide

theorem witness_FrostEvaluationChanges_ordinary :
    (∀ s ∈ [guarding .idle 16 15 id, guarding .idle 16 16 id, guarding .watch 16 34 (fun f => { f with watchExit := 299 }),
        guarding .watch 16 35 (fun f => { f with watchExit := 298 }), guarding .watch 16 5 (fun f => { f with cold := 118 }),
        guarding .shed 8 16 (fun f => { f with warm := 118 }), guarding .recover 2 16 (fun f => { f with warm := 58 }),
        guarding .watch 16 (-15) (fun f => { f with deepCold := 898 })],
      GuardsNormally s ∧ ¬IcingFound s ∧ ¬DeepColdFound s ∧ guardNow s = 15) ∧
      (let s := { guarding .watch 16 5 (fun f => { f with cold := 119, duty := 99 }) with
        settings := { Settings.default with preheatFitted := true } }
       GuardsNormally s ∧ s.settings.preheatFitted = true ∧ s.frost.duty ≠ 100) ∧
      (GuardsNormally (guarding .defrost 0 49 fun f => { f with timer := 598 }) ∧
        ¬Cleared (guarding .defrost 0 49 fun f => { f with timer := 598 })) ∧
      GuardsNormally (guarding .hold 0 49 fun f => { f with timer := 58 }) ∧
      (guarding .hold 0 49 fun f => { f with timer := 58 }).frost.timer + 1 ≠ 60 := by decide

/-- R69, R70: T_EXH at T_g enters WATCH from IDLE, above it the stage goes on, and the counts rise or return to 0. -/
theorem test_evaluation_counts :
    (frostEvaluate (guarding .idle 16 15 id)).1.frost.stage = .watch ∧
      (frostEvaluate (guarding .idle 16 16 id)).1.frost.stage = .idle ∧
      (frostEvaluate (guarding .watch 16 35 fun f => { f with watchExit := 298 })).1.frost.watchExit = 299 ∧
      (frostEvaluate (guarding .watch 16 34 fun f => { f with watchExit := 298 })).1.frost.watchExit = 0 ∧
      (frostEvaluate (guarding .watch 16 5 fun f => { f with cold := 118 })).1.frost.cold = 119 ∧
      (frostEvaluate (guarding .watch 16 6 fun f => { f with cold := 118 })).1.frost.cold = 0 ∧
      (frostEvaluate (guarding .watch 16 (-15) fun f => { f with deepCold := 7 })).1.frost.deepCold = 8 ∧
      (frostEvaluate (guarding .shed 8 16 fun f => { f with warm := 118 })).1.frost.warm = 119 := by decide

theorem witness_FrostEvaluationChanges_icing :
    (let s := frosted (fun f => { f with icing := 2 }) (iced .watch 16)
     GuardsNormally s ∧ ¬IcingFound s ∧ resistanceNow s = some 162 ∧ s.frost.rx0 = some 120 ∧ ratioNow s = some 135) ∧
      (let s := frosted (fun f => { f with icing := 2 }) (published (fun p => { p with dpXe := blind }) (iced .watch 16))
       GuardsNormally s ∧ resistanceNow s = none ∧ ratioNow s = none) ∧
      (let s := frosted (fun f => { f with learnCount := 14 }) learning
       s.frost.learnActive = true ∧ s.frost.learnCount < 15 ∧ resistanceNow s = some 162) ∧
      (published (fun p => { p with tOut := reads 49 }) learning).seq.published.tOut.filtered = some 49 ∧
      (frosted (fun f => { f with learnActive := false, rx0 := some 120 }) learning).frost.rx0.isSome = true := by decide

/-- R66, R67: an icing scan counts, one that is not evaluable leaves the count, and a learn goes on at 5.0 °C and begins again
below. -/
theorem test_evaluation_icing :
    (frostEvaluate (frosted (fun f => { f with icing := 2 }) (iced .watch 16))).1.frost.icing = 3 ∧
      (frostEvaluate (frosted (fun f => { f with icing := 2 })
        (published (fun p => { p with dpXe := blind }) (iced .watch 16)))).1.frost.icing = 2 ∧
      (frostEvaluate (frosted (fun f => { f with learnCount := 14 }) learning)).1.frost.learnCount = 15 ∧
      (frostEvaluate (published (fun p => { p with tOut := reads 49 }) learning)).1.frost.learnCount = 0 := by decide

theorem witness_FrostEvaluationChanges_degraded :
    ∀ s ∈ [sightless .idle 16 (-30) (fun f => { f with mode := .degraded }),
        sightless .shed 8 (-29) (fun f => { f with mode := .degraded }),
        sightless .shed 8 (-30) (fun f => { f with mode := .degraded, timer := 1798 }),
        sightless .defrost 0 (-30) (fun f => { f with mode := .degraded, timer := 298 })],
      s.power = .running ∧ s.frost.mode = .degraded ∧ s.seq.published.tExh.validity = .invalid ∧
        (OutsideCold s ↔ s.seq.published.tOut.value = -30) := by decide

/-- R80, R81: the degraded cycle sheds in the cold, ends SHED out of it, and otherwise its stage goes on. -/
theorem test_evaluation_degraded :
    (frostEvaluate (sightless .idle 16 (-30) fun f => { f with mode := .degraded })).1.frost.stage = .shed ∧
      (frostEvaluate (sightless .shed 8 (-29) fun f => { f with mode := .degraded })).1.frost.stage = .idle ∧
      (frostEvaluate (sightless .shed 8 (-30) fun f => { f with mode := .degraded, timer := 1798 })).1.frost.timer = 1799 ∧
      (frostEvaluate (sightless .defrost 0 (-30) fun f => { f with mode := .degraded, timer := 298 })).1.frost.stage =
        .defrost := by decide

theorem witness_FrostEvaluationChanges_interlock :
    let s := published (fun p => { p with tExh := reads 5, rhExt := reads 500, tOut := reads 30 }) heating
    GuardsNormally s ∧ s.frost.stage = .watch ∧ s.fans.supply.state = .steady ∧ 150 ≤ s.fans.supply.qMeas ∧
      s.seq.published.tPre.validity = .valid ∧ s.seq.supplyLow = false ∧ s.settings.preheatFitted = true ∧
      (frostEvaluate s).1.frost.block = 0 ∧ (frostEvaluate s).1.frost.stage = .watch ∧ (frostEvaluate s).1.frost.duty = 50 ∧
      (frostEvaluate (published (fun p => { p with tPre := reads 150 }) s)).1.frost.block = 120 ∧
      (frostEvaluate (published (fun p => { p with tPre := reads 150 }) s)).1.frost.duty = 0 := by decide

/-! ### Witnesses: filters -/

/-- A fan that samples its filter: STEADY on a closed loop. -/
def sampling (q dp : Nat) (f : FilterRecord → FilterRecord) : State :=
  let s := published (fun p => { p with dpFs := reads dp })
    (fanned .supply (fun f => { f with state := .steady, qMeas := q }) .reset)
  { s with filters := ⟨f (.default 900), s.filters.extract⟩ }

theorem witness_FilterSamples :
    (∀ n ∈ [14, 15], ∃ t, exec (.filterSample .supply)
        (sampling 200 100 fun f => { f with state := .learning, learnCount := n, learnSum := 2250 }) = .next t ∧
      (t.filters.get .supply).lastOutcome = .valid) ∧
      ∃ t, exec (.filterSample .supply)
        (sampling 200 100 fun f => { f with state := .clean, rAvg := some 163, rf0 := some 160 }) = .next t ∧
        (t.filters.get .supply).lastOutcome = .valid :=
  ⟨fun n h => ⟨_, rfl, by
      simp only [List.mem_cons, List.not_mem_nil, or_false] at h
      rcases h with rfl | rfl <;> decide⟩, _, rfl, by decide⟩

theorem test_filterSample_outcomes :
    leaves (.filterSample .supply) (sampling 199 100 id) (fun t => t.filters.supply.lastOutcome == .lowFlow) = true ∧
      leaves (.filterSample .supply) (sampling 256 0 id) (fun t => t.filters.supply.lastOutcome == .zeroResistance) = true ∧
      leaves (.filterSample .extract) (sampling 256 0 id) (fun t => t.filters.extract.lastOutcome == .fanNotSteady) =
        true := by decide

theorem witness_FilterSteps_learned :
    let s := sampling 200 100 fun f => { f with state := .learning, learnCount := 15, learnSum := 2250 }
    s.power = .running ∧ (s.filters.get .supply).state = .learning ∧ 15 ≤ (s.filters.get .supply).learnCount ∧
      s.store.closed = false ∧ s.store.writing = none ∧
      leaves (.filterLearnComplete .supply) s (fun t => t.filters.supply.state == .clean &&
        t.filters.supply.rf0 == some 150 && t.hasEvent .filterLearned && t.store.writing.isSome) = true := by decide

theorem witness_FilterAccumulation :
    let s := sampling 300 100 fun f => { f with state := .clean, doseAcc := 99700, dose := 44999, runSeconds := 3599 }
    100000 ≤ (s.filters.get .supply).doseAcc + (s.fans.get .supply).qMeas ∧ 0 < (s.fans.get .supply).qMeas ∧
      3599 ≤ (s.filters.get .supply).runSeconds ∧ (s.filters.get .supply).loading.getD 0 < 250 ∧
      leaves (.doseUnit .supply) s (fun t => t.filters.supply.dose == 45000 && t.filters.supply.hours == 1 &&
        t.filters.supply.state == .due && t.hasEvent .filterDue) = true := by decide

/-- A supply filter at an accumulation step: its state and loading, its dose one unit short and its hours one short of a
count. -/
def accruing (x : FilterState) (l dose hours : Nat) : State :=
  sampling 300 100 fun f => { f with
    state := x, loading := some l, doseAcc := 99700, dose := dose, runSeconds := 3599, hours := hours }

theorem witness_FilterAccumulation_steps :
    ∀ x ∈ [FilterState.clean, .loaded, .due, .blocked, .unknown], ∀ l ∈ [149, 150, 249, 250, 399, 400],
      let s := accruing x l 7 7
      s.power = .running ∧ (s.filters.get .supply).dose < 65535 ∧ (s.filters.get .supply).hours < 65535 ∧
        100000 ≤ (s.filters.get .supply).doseAcc + (s.fans.get .supply).qMeas ∧ s.store.closed = false ∧
        s.store.writing = none := by decide

/-- R97: a rise of the dose steps to the highest state whose condition holds, with that state's event alone, or to none. -/
theorem test_accumulation_steps :
    leaves (.accumulationStep .supply) (accruing .clean 149 7 7) (fun t =>
      t.filters.supply.state == .clean && t.events == 0#30 && t.store.writing == none) = true ∧
    leaves (.accumulationStep .supply) (accruing .clean 150 7 7) (fun t =>
      t.filters.supply.state == .loaded && t.events == Event.filterLoaded.bit && t.store.writing.isSome) = true ∧
    leaves (.accumulationStep .supply) (accruing .loaded 250 7 7) (fun t =>
      t.filters.supply.state == .due && t.events == Event.filterDue.bit) = true ∧
    leaves (.accumulationStep .supply) (accruing .clean 400 7 7) (fun t =>
      t.filters.supply.state == .blocked && t.events == Event.filterBlocked.bit && t.filters.supply.ceiling == 450 &&
        t.res.count == 1) = true ∧
    leaves (.accumulationStep .supply) (accruing .clean 100 7 4379) (fun t =>
      t.filters.supply.state == .due && t.events == Event.filterDue.bit) = true ∧
    leaves (.accumulationStep .supply) (accruing .unknown 400 44999 7) (fun t =>
      t.filters.supply.state == .unknown && t.filters.supply.dose == 45000) = true := by decide

theorem witness_FilterReset :
    Accepts 1 (.filterReset 0) .reset ∧ streamOf 0 = some .supply ∧ Accepts 1 (.filterReset 1) .reset ∧
      streamOf 1 = some .extract ∧ Accepts 1 (.filterReset 2) .reset ∧
      (heard 1 (.filterReset 0) .reset).store.closed = false ∧ (heard 1 (.filterReset 0) .reset).store.writing = none := by
  decide

/-- A part with a blocked extract filter and a saturated extract fan. -/
def blockedUp : State :=
  fanned .extract (fun f => { f with state := .steady, satCap := some 300, satCount := 7 })
    { State.reset with
      filters := ⟨.default 900, { FilterRecord.default 428 with state := .blocked, loading := some 420 }⟩ }

theorem witness_FilterReset_opened :
    Accepts 1 (.filterReset 1) blockedUp ∧
      ((heard 1 (.filterReset 1) blockedUp).filters.get .extract).ceiling ≠ blockedUp.settings.qRated ∧
      ((heard 1 (.filterReset 1) blockedUp).fans.get .extract).satCap ≠ none ∧
      (Accepts 1 (.filterReset 0) blockedUp ∧
        ((heard 1 (.filterReset 0) blockedUp).filters.get .supply).ceiling = blockedUp.settings.qRated ∧
        ((heard 1 (.filterReset 0) blockedUp).fans.get .supply).satCap = none) ∧
      (stored (fun x => { x with writing := some saved }) blockedUp).store.writing.isSome = true := by decide

/-- R37, R99, R100: a ceiling opened and a saturation cleared are two resolutions, and the other fan keeps its cap. -/
theorem test_filterReset_opens :
    leaves (.filterReset 1 1) blockedUp (fun t => t.filters.extract.ceiling == 900 && t.fans.extract.satCap == none &&
      t.fans.extract.state == .steady && t.res.count == 2) = true ∧
    leaves (.filterReset 1 0) blockedUp (fun t => t.fans.extract.satCap == some 300 && t.res.count == 0) = true := by decide

theorem witness_FilterNeverGoesBack :
    (∃ t, exec (.filterReset 1 1) .reset = .next t) ∧ resets (.filterReset 1 1) .reset = false ∧
      ∀ tag filter, Instr.filterReset 1 1 = .filterReset tag filter → streamOf filter ≠ some Stream.supply :=
  ⟨⟨_, rfl⟩, by decide, fun tag filter h => by
    cases h
    decide⟩

theorem witness_FanFrostAndFilterFrames :
    (∃ t, exec (.tachAbsence .supply) supplyStep = .next t) ∧ (∃ t, exec .watchExit .reset = .next t) ∧
      ∃ t, exec (.doseUnit .extract) .reset = .next t := ⟨⟨_, rfl⟩, ⟨_, rfl⟩, ⟨_, rfl⟩⟩

theorem witness_FanFrostAndFilterFrames_learn :
    learning.frost.rx0 = none ∧ 15 ≤ learning.frost.learnCount ∧ learning.store.closed = false ∧
      ∃ t, exec .exchangerLearnComplete learning = .next t ∧ t.store ≠ learning.store :=
  ⟨rfl, by decide, rfl, _, rfl, by decide⟩

/-! ### Witnesses: the room line -/

/-- A row heard of at an address, of a room. -/
def heardRow (a room : Nat) (f : NodeRow → NodeRow) : NodeRow := f (.unheard a room .bath)

/-- The part with these rows, its rooms bound, and its line's transaction. -/
def polling (p : Nat) (r : NodeRow) (job : Job) (x : Option Txn) : State :=
  lined (fun l => { l with job := job, pos := some p, txn := x })
    { State.reset with
      nodes := setRow State.reset.nodes p (some r), rooms := State.reset.rooms.setIfInBounds r.room (.ofKind r.kind) }

theorem witness_LineTimedRows :
    (∀ ph ∈ [TxnPhase.due, .gap, .rest], ∃ x, (polling 1 (heardRow 5 2 id) .pollCycle (some ⟨5, false, 1, 0, ph, 0⟩)).line.txn =
        some x ∧ x.phase = ph) ∧
      (lined (fun l => { l with state := .fault }) .reset).line.state = .fault ∧ State.reset.line.state ≠ .fault ∧
      State.reset.line.powered = true ∧ (State.reset.line.txn.map (·.phase)) ≠ some .due ∧
      (∀ b ∈ [true, false], (lined (fun l => { l with state := .off, powered := b }) .reset).line.state = .off ∧
        (lined (fun l => { l with state := .off, powered := b }) .reset).line.powered = b) :=
  ⟨fun ph _ => ⟨_, rfl, rfl⟩, rfl, by decide, rfl, by decide, fun _ _ => ⟨rfl, rfl⟩⟩

/-- The part with a discovery sweep asked for. -/
def discovering : State := lined (fun l => { l with discPending := true }) .reset

theorem witness_JobsStartInOrder :
    let s := polling 2 (heardRow 5 2 id) .noJob none
    s.power = .running ∧ s.line.state = .active ∧ s.line.job = .noJob ∧ (∃ r ∈ rowAt s.nodes 2, r.presence ≠ .lost) ∧
      rowAt s.nodes 1 = none ∧ rowOf s.nodes 1 = none ∧ discovering.line.discPending = true ∧
      discovering.line.callPending = false ∧ discovering.line.cycleDue = false := by decide

theorem test_jobStart_discovery :
    leaves .jobStart discovering (fun t => t.line.job == .discovery && t.line.sweep == some 1 &&
      t.line.txn == some ⟨1, false, 1, 0, .due, 0⟩) = true := by decide

/-- A poll in its reply window. -/
def windowed (r : NodeRow) (job : Job) (attempt waits : Nat) : State :=
  polling 1 r job (some ⟨5, r.seqBit, attempt, waits, .exchange, 0⟩)

/-- R106: no POLL begins while a node holds the line low. -/
theorem test_poll_held :
    leaves (.poll true) (polling 1 (heardRow 5 2 id) .pollCycle (some ⟨5, false, 1, 0, .due, 0⟩)) (fun t => t.line.heldLow &&
      t.line.txn.map (·.phase) == some .due && leaves (.poll false) t (fun u =>
        u.line.txn.map (·.phase) == some .exchange)) = true := by decide

theorem witness_WaitsAndMisses_refused :
    ∀ c ∈ [Instr.wait 5 false, .wait 6 true, .reading 5 500 200 1 false false false, .reading 5 1001 200 1 false false true,
        .reading 5 500 200 6 false false true],
      leaves c (windowed (heardRow 5 2 id) .pollCycle 1 2) (fun t =>
        t.line.txn == some ⟨5, false, 2, 0, .due, 0⟩) = true := by decide

theorem witness_WaitsAndMisses :
    ∀ n ∈ [2, 9], ∀ w ∈ [2, 3], ∀ k ∈ [1, 2],
      let s := windowed (heardRow 5 2 fun r => { r with missed := n, presence := .present, origin := .learned }) .pollCycle k w
      s.power = .running ∧ NodesLegal s.nodes ∧
        (∃ x ∈ s.line.txn, x.phase = .exchange ∧ x.attempt = k ∧ x.waits = w) ∧
        ∃ r ∈ rowAt s.nodes 1, r.address = 5 ∧ r.missed = n ∧ r.presence = .present := by
  decide

theorem test_replyWindowClose_silent :
    leaves .replyWindowClose
      (windowed (heardRow 5 2 fun r => { r with missed := 2, presence := .present }) .pollCycle 2 0) (fun t =>
        (rowAt t.nodes 1).map (·.presence) == some .silent && t.hasEvent .nodeSilent) = true := by decide

theorem witness_ReadingsTaken :
    let s := windowed (heardRow 5 2 id) .pollCycle 1 0
    let d := { windowed (heardRow 6 2 id) .discovery 1 0 with rooms := State.reset.rooms }
    (NodesLegal s.nodes ∧ (rowOf s.nodes 5).isSome = true ∧ (s.room 2).bound = true ∧ RoomKind.ofCode 1 = some .bath) ∧
      NodesLegal d.nodes ∧ rowOf d.nodes 5 = none ∧ emptyPos d.nodes = some 2 := by decide

theorem test_reading_accepted :
    leaves (.reading 5 655 231 1 false false true) (windowed (heardRow 5 2 id) .pollCycle 1 0) (fun t =>
      (rowAt t.nodes 1).map (·.lastRh) == some (some 655) && (rowAt t.nodes 1).map (·.seqBit) == some true &&
        (t.room 2).rh == some 655 && (t.room 2).ring == [655]) = true := by decide

theorem test_reading_learned :
    leaves (.reading 5 500 200 0 false false true) (windowed (heardRow 6 2 id) .discovery 1 0) (fun t =>
      (rowAt t.nodes 2).map (·.room) == some 1 && (rowAt t.nodes 2).map (·.kind) == some .kitchen &&
        t.hasEvent .nodeLearned && (t.room 1).limit == 750) = true := by decide

/-- The second attempt at a row at position 1, in a job, with another row at a position. -/
def secondTry (job : Job) (p : Nat) (x : Presence) (n : Nat) : State :=
  let s := windowed (heardRow 5 2 id) job 2 0
  lined (fun l => { l with conflicts := n, interval := 240 })
    { s with nodes := setRow s.nodes p (some (heardRow 6 3 fun r => { r with presence := x, seqBit := true })) }

/-- The second attempt at an address of a sweep, with a row at address 30. -/
def sweeping (a : Nat) : State :=
  lined (fun l => { l with pos := none, sweep := some a, txn := some ⟨a, false, 2, 0, .exchange, 0⟩ })
    (polling 1 (heardRow 30 2 id) .discovery none)

theorem witness_WaitsAndMisses_jobs :
    (∀ s ∈ [secondTry .pollCycle 6 .lost 0, secondTry .callSweep 6 .silent 0, secondTry .callSweep 6 .lost 1],
      s.power = .running ∧ NodesLegal s.nodes ∧ s.line.pos = some 1 ∧ (rowAt s.nodes 6).isSome = true ∧
        ∀ k ∈ [2, 3, 4, 5], rowAt s.nodes k = none) ∧
      ∀ a ∈ [28, 29], NodesLegal (sweeping a).nodes ∧ (sweeping a).line.sweep = some a ∧
        (rowOf (sweeping a).nodes 29) = none ∧ (rowOf (sweeping a).nodes 30).isSome = true := by decide

/-- R110, R113, R116: a poll cycle polls a LOST row, a call sweep passes it over, and each ends after position 6, the poll
cycle with the suspension interval back at 60 where it met no conflict; a sweep passes a held address over and ends after 30. -/
theorem test_jobs_go_on :
    leaves .replyWindowClose (secondTry .pollCycle 6 .lost 0) (fun t =>
      t.line.pos == some 6 && t.line.txn == some ⟨6, true, 1, 0, .due, 0⟩ && t.line.interval == 240) = true ∧
    leaves .replyWindowClose (secondTry .callSweep 6 .lost 0) (fun t =>
      t.line.job == .noJob && t.line.pos == none && t.line.txn == none && t.line.interval == 240) = true ∧
    leaves .replyWindowClose (secondTry .pollCycle 1 .silent 0) (fun t => t.line.job == .noJob && t.line.interval == 60) =
      true ∧
    leaves .replyWindowClose (secondTry .pollCycle 1 .silent 1) (fun t => t.line.job == .noJob && t.line.interval == 240) =
      true ∧
    leaves .replyWindowClose (sweeping 28) (fun t =>
      t.line.sweep == some 29 && t.line.txn == some ⟨29, false, 1, 0, .due, 0⟩) = true ∧
    leaves .replyWindowClose (sweeping 29) (fun t => t.line.job == .noJob && t.line.sweep == none) = true := by decide

theorem witness_ConflictsAndFault :
    ∀ n ∈ [3, 4],
      let s := lined (fun l => { l with conflicts := n }) (windowed (heardRow 5 2 id) .pollCycle 1 0)
      s.power = .running ∧ s.line.state = .active ∧
        ∃ x ∈ s.line.txn, x.phase = .due ∨ x.phase = .exchange := by decide

theorem test_fifth_conflict :
    leaves .lineConflict (lined (fun l => { l with conflicts := 4 }) (windowed (heardRow 5 2 id) .pollCycle 1 0)) (fun t =>
      t.line.state == .fault && t.line.suspension == 60 && t.line.interval == 120 && t.line.job == .noJob &&
        t.hasEvent .lineFault) = true := by decide

theorem witness_LineRequests :
    (Accepts 1 .discover discovering ∧ (heard 1 .discover discovering).line.discPending = true) ∧
      (Accepts 1 .discover (polling 1 (heardRow 5 2 id) .noJob none) ∧
        (heard 1 .discover (polling 1 (heardRow 5 2 id) .noJob none)).line.discPending = false) ∧
      (Accepts 1 (.nodePin 1 1 0) .reset ∧ Accepts 1 (.nodePin 30 6 5) .reset ∧ rowOf State.reset.nodes 30 = none ∧
        emptyPos State.reset.nodes = some 1) ∧
      Accepts 1 (.nodeUnpin 31) .reset ∧ Accepts 1 (.nodeForget 30) .reset := by decide

theorem witness_LineRequests_rows :
    ∀ o ∈ [Origin.pinned, .learned],
      let s := polling 1 (heardRow 5 2 fun r => { r with origin := o }) .noJob none
      Accepts 1 (.nodeUnpin 5) s ∧ Accepts 1 (.nodeForget 5) s ∧ Accepts 1 (.nodePin 5 2 1) s ∧
        Accepts 1 (.nodePin 5 3 1) s ∧ Accepts 1 (.nodePin 6 2 1) s ∧ (rowOf s.nodes 5).map (·.1) = some 1 := by decide

/-! ### Witnesses: rooms and sessions -/

/-- A bound room 2, a bathroom, with a ring, and its session if one is open. -/
def roomed (ring : List Nat) (x : Option Session) : State :=
  { State.reset with
    rooms := State.reset.rooms.setIfInBounds 2 { RoomRecord.ofKind .bath with ring := ring }
    sessions := x.toList
    demand := match x with
      | some y => setBoost 2 (some ⟨y.level, none, y.urgency.exempt, 0, 0⟩) (.reset 300)
      | none => .reset 300 }

/-- A session of room 2. -/
def session (f : Session → Session) : Session :=
  f ⟨2, .limit, .high, .active, false, 625, some 700, some 700, 0, none, none, false, false, 0, false⟩

theorem test_newSample_limit :
    (newSample 2 700 none (roomed [] none)).sessions.map (fun x => (x.trigger, x.urgency, x.level)) =
      [(.limit, .high, 625)] := by decide

theorem test_newSample_rise :
    (newSample 2 580 none (roomed [500, 500, 510, 520, 530, 540, 550, 560, 570] none)).sessions.map
      (fun x => (x.trigger, x.urgency, x.level)) = [(.rise, .normal, 500)] := by decide

theorem witness_SamplesActOnRooms :
    ((roomed [] none).room 2).bound = true ∧ (roomed [] none).session 2 = none ∧
      ((roomed [] none).room 2).kind = some .bath ∧ ((roomed [] none).room 2).limit = 700 ∧
      (∀ x ∈ [session id, session fun x => { x with phase := .opening },
        session fun x => { x with phase := .releasing, overrun := some 600 }], (roomed [] (some x)).session 2 = some x) ∧
      (published (fun p => { p with rhExt := reads 700 }) State.reset).seq.published.rhExt.filtered = some 700 ∧
      (published (fun p => { p with rhExt := reads 700 }) State.reset).seq.published.rhExt.validity = .valid ∧
      State.reset.seq.published.rhExt.validity ≠ .valid := by decide

theorem witness_SamplesActOnRooms_levels :
    ∀ x ∈ [session fun x => { x with trigger := .rise, urgency := .normal, level := 500 },
        session fun x => { x with trigger := .call, urgency := .normal, level := 500, callTime := some 9 }],
      (roomed [] (some x)).session 2 = some x ∧
        leaves .room0Sample (newSample 2 700 none (roomed [] (some x))) (fun t =>
          (t.session 2).map (·.level) == some 625 && (t.demand.boostOf 2).map (·.level) == some 625) = true := by decide

theorem test_sample_releases :
    (newSample 2 650 none (roomed [] (some (session id)))).sessions.map (fun x => (x.phase, x.overrun)) =
        [(.releasing, some 600)] ∧
      (newSample 2 651 none (roomed [] (some (session id)))).sessions.map (fun x => (x.phase, x.overrun)) =
        [(.active, none)] := by decide

theorem witness_CallsLossesAndCancels :
    (Accepts 1 (.boostCancel 2) (roomed [] (some (session id))) ∧
        ((heard 1 (.boostCancel 2) (roomed [] (some (session id)))).session 2).isSome = true) ∧
      (Accepts 1 (.boostCancel 6) .reset ∧ (heard 1 (.boostCancel 6) .reset).session 6 = none) ∧
      Accepts 1 (.boostCancel 7) .reset ∧ ((roomed [] none).room 3).bound = false ∧
      ((roomed [] none).session 2 = none ∧ ((roomed [] none).room 2).bound = true ∧
        ((roomed [] none).room 2).kind = some .bath) ∧
      ∀ x ∈ [session id, session fun x => { x with trigger := .call, callTime := some 1200 },
        session fun x => { x with phase := .releasing, overrun := some 600 }, session fun x => { x with held := true }],
        (roomed [] (some x)).session 2 = some x := by decide

theorem witness_SessionStepRows :
    ∀ x ∈ [session fun x => { x with age := 7199 },
        session fun x => { x with age := 7198, phase := .releasing, overrun := some 1 },
        session fun x => { x with phase := .releasing, overrun := some 2 },
        session fun x => { x with callTime := some 1 }, session fun x => { x with phase := .opening, age := 119 },
        session fun x => { x with shortCount := 59 }],
      let s := roomed [] (some x)
      s.power = .running ∧ BoostsMatch s ∧ x ∈ s.sessions ∧ s.fans.extract.qTarget < x.level ∧
        (x.age < 7199 → ∀ o ∈ x.overrun, 1 ≤ o) := by decide

theorem witness_SessionStepRows_ordinary :
    (∀ p ∈ [(300, 279), (300, 280), (700, 605)], ∀ x ∈ [session fun x => { x with phase := .opening, age := 118 },
        session fun x => { x with shortCount := 58 }, session fun x => { x with held := true }],
      let s := fanned .extract (fun f => { f with qTarget := p.1, qMeas := p.2 }) (roomed [] (some x))
      s.power = .running ∧ BoostsMatch s ∧ x ∈ s.sessions ∧ x.overrun = none ∧ x.callTime ≠ some 1 ∧
        (∀ y ∈ s.sessions, y.age < 7199 ∧ ∀ o ∈ y.overrun, 2 ≤ o)) ∧
      279 + 20 < min 625 300 ∧ min 625 300 ≤ 280 + 20 ∧ 625 ≤ 700 := by decide

/-- R134, step 4: the flow, within 20 of the smaller of the level and the target, ends OPENING. -/
theorem test_sessionStep_flow :
    leaves .sessionStep (fanned .extract (fun f => { f with qTarget := 300, qMeas := 280 })
      (roomed [] (some (session fun x => { x with phase := .opening })))) (fun t =>
        t.sessions.map (fun x => (x.phase, x.shortCount)) == [(.active, 1)]) = true := by decide

theorem test_overrunEnd :
    leaves (.overrunEnd 2) (roomed [] (some (session fun x => { x with phase := .releasing, overrun := some 1 })))
      (fun t => t.sessions == [] && (t.room 2).lastClose == some .released && t.hasEvent .boostClosed) = true := by decide

/-! ### Witnesses: the line and the sessions -/

/-- The part with a session open, and its BOOST entry. -/
def housing (x : Session) (s : State) : State :=
  { s with sessions := [x], demand := setBoost x.room (some ⟨x.level, none, x.urgency.exempt, 0, 0⟩) s.demand }

/-- A session whose sensing is lost, at the start of its overrun. -/
def unsensed : Session :=
  session fun x => { x with phase := .releasing, overrun := some 600, sensingLost := true }

/-- A row of room 2 at address 5, at a missed count, before the second attempt of its poll ends. -/
def missing (n : Nat) (x : Presence) (o : Origin) : State :=
  housing (session id)
    (windowed (heardRow 5 2 fun r => { r with missed := n, presence := x, origin := o }) .pollCycle 2 0)

theorem witness_WaitsAndMisses_sessions :
    (∀ s ∈ [missing 2 .present .learned, missing 9 .silent .learned, missing 9 .silent .pinned],
      s.power = .running ∧ NodesLegal s.nodes ∧ s.line.job = .pollCycle ∧ (rowOf s.nodes 5).isSome = true ∧
        (s.line.txn.map fun x => (x.address, x.phase, x.attempt)) = some (5, .exchange, 2) ∧
        (s.session 2).isSome = true) ∧
      rowOf (windowed (heardRow 6 2 id) .pollCycle 2 0).nodes 5 = none := by decide

/-- R111, R126, R136, R137: a row that falls SILENT takes its session's sensing, one removed takes it for good, and a PINNED
row that is LOST leaves it. -/
theorem test_misses_sessions :
    leaves .replyWindowClose (missing 2 .present .learned) (fun t =>
      t.sessions.map (fun x => (x.phase, x.sensingLost, x.rowGone)) == [(.releasing, true, false)]) = true ∧
    leaves .replyWindowClose (missing 9 .silent .learned) (fun t =>
      t.sessions.map (fun x => (x.phase, x.sensingLost, x.rowGone)) == [(.releasing, true, true)] &&
        !(t.room 2).bound) = true ∧
    leaves .replyWindowClose (missing 9 .silent .pinned) (fun t =>
      t.sessions.map (fun x => (x.phase, x.sensingLost)) == [(.active, false)] && (t.room 2).bound) = true := by decide

theorem witness_ReadingsTaken_sessions :
    (∀ x ∈ [unsensed, session id], ∀ p ∈ [Presence.silent, .present],
      let s := housing x (windowed (heardRow 5 2 fun r => { r with presence := p, origin := .learned }) .pollCycle 1 0)
      s.power = .running ∧ NodesLegal s.nodes ∧ s.line.job ≠ .discovery ∧ (s.room 2).bound = true ∧
        (rowOf s.nodes 5).map (fun x => (x.2.room, x.2.presence, x.2.origin, x.2.kind)) =
          some (2, p, .learned, .bath) ∧ s.session 2 = some x) ∧
      ((windowed (heardRow 5 2 id) .discovery 1 0).line.job = .discovery ∧
        (rowOf (windowed (heardRow 5 2 id) .discovery 1 0).nodes 5).isSome = true) ∧
      (let d := windowed (heardRow 6 2 id) .discovery 1 0
       rowOf d.nodes 5 = none ∧ emptyPos d.nodes = some 2 ∧ freeRoom d.nodes = some 1) := by decide

/-- R111, R128, R129, R136: a reading that brings its row back clears the loss, and at the limit makes its session ACTIVE; its
call flag makes a releasing one CALL. -/
theorem test_reading_sessions :
    leaves (.reading 5 700 231 1 false false true) (housing unsensed (windowed (heardRow 5 2 id) .pollCycle 1 0)) (fun t =>
      t.sessions.map (fun x => (x.phase, x.sensingLost, x.overrun)) == [(.active, false, none)]) = true ∧
    leaves (.reading 5 500 231 1 true true true) (housing unsensed (windowed (heardRow 5 2 id) .pollCycle 1 0)) (fun t =>
      t.sessions.map (fun x => (x.phase, x.trigger, x.callTime)) == [(.active, .call, some 1200)] &&
        (t.room 2).sensorError && t.hasEvent .nodeCall) = true ∧
    leaves (.reading 5 700 231 2 false false true)
      (windowed (heardRow 5 2 fun r => { r with origin := .learned, presence := .present }) .pollCycle 1 0) (fun t =>
        t.sessions.map (·.room) == [2] && (t.room 2).kind == some .shower && t.line.changeCount == 1) = true := by decide

theorem witness_LineRequests_sessions :
    let s := housing (session id) (polling 1 (heardRow 5 2 fun r => { r with presence := .lost }) .noJob none)
    let l := polling 1 (heardRow 5 2 fun r => { r with origin := .learned }) .noJob none
    (Accepts 1 (.nodeForget 5) s ∧ Accepts 1 (.nodeUnpin 5) s ∧ (s.session 2).isSome = true ∧
        (rowOf s.nodes 5).map (fun x => (x.2.origin, x.2.presence)) = some (.pinned, .lost)) ∧
      Accepts 1 (.nodePin 5 2 2) l ∧ RoomKind.ofCode 2 = some .shower ∧
      (rowOf l.nodes 5).map (fun x => (x.2.room, x.2.origin, x.2.kind)) = some (2, .learned, .bath) ∧
      s.store.closed = false ∧ l.store.closed = false := by decide

/-- R119, R120, R121, R137: a row forgotten, or unpinned while LOST, takes its session's sensing for good, and a PIN may change
origin and kind together. -/
theorem test_lineRequests_sessions :
    leaves (.nodeForget 1 5) (housing (session id) (polling 1 (heardRow 5 2 id) .noJob none)) (fun t =>
      t.sessions.map (fun x => (x.phase, x.rowGone)) == [(.releasing, true)] && t.line.changeCount == 1 &&
        t.store.writing.isSome) = true ∧
    leaves (.nodeUnpin 1 5)
      (housing (session id) (polling 1 (heardRow 5 2 fun r => { r with presence := .lost }) .noJob none)) (fun t =>
        t.sessions.map (fun x => (x.phase, x.rowGone)) == [(.releasing, true)] && rowAt t.nodes 1 == none) = true ∧
    leaves (.nodePin 1 5 2 2) (polling 1 (heardRow 5 2 fun r => { r with origin := .learned }) .noJob none) (fun t =>
      (rowAt t.nodes 1).map (fun r => (r.origin, r.kind)) == some (.pinned, .shower) && (t.room 2).limit == 700) = true := by
  decide

/-- R168: each change to the table asks for a save, so the request that makes a second one while the first is written leaves
save-pending set. -/
theorem test_lineRequests_saves :
    (∀ x ∈ [(Instr.nodePin 1 5 2 2, Origin.learned, Presence.present, true),
          (.nodePin 1 5 2 1, .learned, .present, false), (.nodePin 1 5 2 2, .pinned, .present, false),
          (.nodeUnpin 1 5, .pinned, .lost, true), (.nodeUnpin 1 5, .pinned, .silent, false)],
      leaves x.1 (polling 1 (heardRow 5 2 fun r => { r with origin := x.2.1, presence := x.2.2.1 }) .noJob none)
        (fun t => t.store.writing.isSome && t.store.savePending == x.2.2.2) = true) ∧
    leaves (.nodePin 1 5 2 2) (polling 1 (heardRow 5 2 fun r => { r with origin := .learned }) .noJob none) (fun t =>
      t.line.changeCount == 2 && t.store.writing.map (fun i => i.rows.toList.map (·.map (·.kind))) ==
        some [some .bath, none, none, none, none, none]) = true := by decide

theorem witness_CallsLossesAndCancels_return :
    ∀ gone ∈ [true, false],
      let x := (session fun x => { x with phase := .releasing, overrun := some 9, sensingLost := true, rowGone := gone })
      (roomed [] (some x)).session 2 = some x ∧
        ((roomReturned 2 (roomed [] (some x))).session 2).map (·.sensingLost) = some gone := by decide

/-! ### Witnesses: modes and supervision -/

theorem witness_SetMode :
    (∀ c ∈ [0#8, 1#8, 2#8, 3#8, 255#8], Accepts 1 (.setMode c) .reset ∧
        (heard 1 (.setMode c) .reset).mode.mode = .run) ∧
      (∀ x : ModeRecord, x ∈ [⟨.standby, 5, some 9, 0⟩, ⟨.standby, 5, some 9, 3⟩, ⟨.standbyEntry, 0, none, 0⟩] →
        ∀ c ∈ [0#8, 1#8, 2#8], Accepts 1 (.setMode c) (moded x .reset) ∧
          (heard 1 (.setMode c) (moded x .reset)).mode = x) ∧
      State.reset.fans.supply.state = .off ∧ State.reset.fans.extract.state = .off ∧
      (heard 1 (.setMode 2) (fanned .extract (fun f => { f with state := .starting }) .reset)).fans.extract.state =
        .starting ∧
      (heard 1 (.setMode 2) (fanned .extract (fun f => { f with state := .steady }) .reset)).fans.extract.state =
        .steady ∧
      (heard 1 (.setMode 2) (guarding .lock 0 0 id)).frost.stage = .lock := by decide

/-- The part in STANDBY, with its AIRING entry where a burst runs. -/
def standingBy (elapsed : Nat) (next : Nat) (airing : Nat) : State :=
  moded ⟨.standby, elapsed, some next, airing⟩ { State.reset with
    demand := { State.reset.demand with airing := if 0 < airing then some (.base 250) else none } }

theorem witness_StandbyRows :
    AiringLegal (moded ⟨.standbyEntry, 0, none, 0⟩ .reset) ∧
      ∀ s ∈ [standingBy 43198 1 0, standingBy 0 2 0, standingBy 43198 9 1, standingBy 0 9 2, standingBy 43199 9 0,
        standingBy 43199 9 1], s.power = .running ∧ AiringLegal s := by decide

theorem test_airingBurst :
    leaves .airingBurstStart (standingBy 5 1 0) (fun t => t.mode == ⟨.standby, 6, some 1800, 600⟩ &&
      t.res.extTarget == 250) = true ∧
    leaves .standbyLimit (standingBy 43199 9 1) (fun t => t.mode == ⟨.run, 0, none, 0⟩ && t.hasEvent .modeChanged) =
      true := by decide

/-- The part in STANDBY_ENTRY with the extract fan still turning. -/
def stillTurning : State :=
  moded ⟨.standbyEntry, 0, none, 0⟩ (fanned .extract (fun f => { f with state := .steady, qMeas := 200 }) .reset)

theorem witness_StandbyRows_turning :
    stillTurning.power = .running ∧ AiringLegal stillTurning ∧ stillTurning.fans.extract.state ≠ .off ∧
      ∀ p ∈ [2, 3], AiringLegal (watched ⟨.probing, 303, p⟩ (standingBy 43199 9 1)) := by decide

/-- R147, R148: a fan that turns keeps STANDBY_ENTRY, and leaving STANDBY in a burst removes the AIRING entry. -/
theorem test_standby_leaving :
    leaves .modeStep stillTurning (fun t => t.mode == stillTurning.mode && t.res == stillTurning.res) = true ∧
    leaves (.setMode 1 0) (standingBy 5 9 3) (fun t => t.demand == { (standingBy 5 9 3).demand with
      airing := none, changeCount := 1 } && t.res.count == 2 && t.mode == ⟨.run, 0, none, 0⟩) = true ∧
    leaves (.setMode 1 2) .reset (fun t => t.mode == ⟨.standby, 0, some 1800, 0⟩ && t.res.count == 2) = true := by decide

theorem witness_SupervisionRows :
    ∀ x : Supervision, x ∈ [⟨.ok, 298, 0⟩, ⟨.ok, 299, 0⟩, ⟨.probing, 300, 2⟩, ⟨.probing, 302, 3⟩, ⟨.lost, 303, 3⟩, ⟨.off, 0, 0⟩] →
      (watched x .reset).power = .running ∧ (watched x .reset).superv = x ∧
        (watched x .reset).settings.supervisionInterval = 300 := by decide

theorem test_hostLost :
    leaves .hostLost (watched ⟨.probing, 302, 3⟩ .reset) (fun t => t.superv.state == .lost &&
      t.demand.fallback.isSome && t.hasEvent .hostLost) = true := by decide

/-! ### Witnesses: the service link -/

/-- The receiver in a state of its own. -/
def receiving (x : RxState) (n : Nat) (body : List Byte) : State :=
  linked (fun l => { l with rx := x, len := n, body := body }) .reset

theorem witness_ReceiverRows :
    (∀ x ∈ [RxState.hunting, .length, .body, .check], (receiving x 2 [5]).link.rx = x ∧
        (receiving x 2 [5]).power = .running) ∧
      (2 ≤ (2#8 : Byte).toNat ∧ (48#8 : Byte).toNat ≤ 48 ∧ (1#8 : Byte).toNat < 2 ∧ 48 < (49#8 : Byte).toNat) ∧
      BitVec.ofNat 8 (receiving .check 3 [0x38, 0x20, 1]).link.len + byteSum (receiving .check 3 [0x38, 0x20, 1]).link.body +
        163#8 ≠ 0 := by decide

/-- The worked frame at its check byte, in a part whose slot, mode and supervision are given. -/
def framed (o : Option Slot) (m : ModeRecord) (after : Bool) (x : Supervision) : State :=
  watched x (moded m (linked (fun l => { l with slot := o, afterSilence := after }) quietFrame))

theorem witness_GoodFrames :
    ∀ s ∈ [framed none .reset false ⟨.ok, 9, 0⟩, framed none .reset false ⟨.lost, 9, 3⟩,
        framed none .reset false ⟨.probing, 9, 2⟩, framed (some ⟨1, 1, some .ping, .waiting⟩) .reset false ⟨.ok, 9, 0⟩,
        framed none ⟨.standby, 0, some 9, 0⟩ true ⟨.ok, 9, 0⟩, framed none .reset false ⟨.off, 0, 0⟩],
      s.power = .running ∧ s.link.rx = .check ∧ s.link.body = 0x38#8 :: 0x20#8 :: [1#8] ∧
        BitVec.ofNat 8 s.link.len + byteSum s.link.body + 164#8 = 0 ∧ waitingOf .answer s < 2 := by decide

theorem witness_GoodFrames_lost :
    let s := linked (fun l => { l with tx := [⟨.answer, [1, 2, 3]⟩, ⟨.answer, [1, 2, 3]⟩] })
      (framed (some ⟨1, 1, some .ping, .waiting⟩) .reset false ⟨.ok, 9, 0⟩)
    s.power = .running ∧ s.link.rx = .check ∧ s.link.body = 0x38#8 :: 0x20#8 :: [1#8] ∧ 2 ≤ waitingOf .answer s ∧
      leaves (.goodFrame 164#8) s (fun t => t.link.counters.repliesLost == 1 && t.link.tx.length == 2) = true := by decide

theorem witness_GoodFrames_requests :
    ((0x02, 1) : Nat × Nat) ∈ [(0x02, 1), (0x3D, 3)] ∧ ([] : List Byte).length ≠ 1 ∧
      (List.replicate 34 (0 : Byte)).length = 34 ∧ (List.replicate 32 (0 : Byte)).length = 32 := by decide

theorem test_goodFrame_busy :
    leaves (.goodFrame 164#8) (framed (some ⟨1, 1, some .ping, .waiting⟩) .reset false ⟨.ok, 9, 0⟩) (fun t =>
      t.link.counters.busy == 1 && t.link.tx.map (·.cls) == [.answer]) = true := by decide

theorem witness_FramesLeaveAndEvents :
    State.reset.link.tx = [] ∧ (linked (fun l => { l with tx := [⟨.answer, [1, 2, 3]⟩] }) .reset).link.tx =
        ⟨.answer, [1, 2, 3]⟩ :: [] ∧
      Accepts 1 .getEvents .reset ∧ Accepts 1 (.setEventMask 1073741823) .reset ∧
      Accepts 1 (.setEventMask 1073741824) .reset ∧ (1073741823 : BitVec 32).toNat < 1073741824 ∧
      1073741824 ≤ (1073741824 : BitVec 32).toNat := by decide

/-- R164: an event lowers the alert line exactly where its enable is set. -/
theorem test_alert_line :
    (raise .nodeLost .reset).mask.getLsbD Event.nodeLost.num = true ∧ (raise .nodeLost .reset).alertLow = true ∧
      ({ State.reset with mask := 0#30 } : State).mask.getLsbD Event.nodeLost.num = false ∧
      (raise .nodeLost { State.reset with mask := 0#30 }).alertLow = false := by decide

theorem witness_ReadsChangeNothing :
    ∀ q ∈ [Request.ping, .getFlows, .getFrost, .getStatus 2, .getStatus 3, .getDemands 13, .getDemands 14, .getFilter 1,
        .getFilter 2, .getNodes 0, .getNodes 1, .getNodes 6, .getNodes 7, .getRooms 6, .getRooms 7, .getSessions 6,
        .getSessions 7, .getParam 32, .getParam 33], Accepts 1 q .reset := by decide

/-! ### Witnesses: settings and saves -/

theorem witness_SetParam :
    Accepts 1 (.setParam 17 60) .reset ∧ Accepts 1 (.setParam 33 1) .reset ∧
      (∀ id ∈ [13#8, 15#8, 16#8, 18#8, 19#8, 20#8, 22#8, 29#8, 31#8], (Param.ofId id.toNat).isSome = true ∧ id ≠ 17) ∧
      (Param.ofId 18 = some .qRated ∧ Param.ofId 19 = some .qMinRun ∧ Param.ofId 22 = some .preheatFitted ∧ Param.ofId 31 = some .supervisionInterval) ∧
      (heard 1 (.setParam 31 0) .reset).superv.state = .ok ∧
      (heard 1 (.setParam 31 29) (watched ⟨.off, 0, 0⟩ .reset)).superv.state = .off := by decide

/-- R62, R154: q_min_run and q_rated bound each other, an interval of 29 becomes 30, and the silence begins anew. -/
theorem test_setParam_bounds :
    leaves (.setParam 1 18 300) { State.reset with settings := { Settings.default with qMinRun := 400 } } (fun t =>
      t.settings.qRated == 400) = true ∧
    leaves (.setParam 1 31 29) (linked (fun l => { l with slot := some ⟨1, 0x3D, some (.setParam 31 29), .waiting⟩ })
      (watched ⟨.ok, 1, 0⟩ .reset)) (fun t =>
        t.settings.supervisionInterval == 30 && t.superv == ⟨.ok, 0, 0⟩) = true := by decide

theorem test_setParam_clamped :
    leaves (.setParam 1 18 1201) .reset (fun t => t.settings.qRated == 1200 &&
      t.link.tx.map (fun f => f.body) == [[0xBD#8, 1#8, 1#8, 18#8, 176#8, 4#8]]) = true := by decide

/-- The default temperature table as it is carried. -/
def defaultPoints : List Half := Calibration.default.temps.map fun t => BitVec.ofInt 16 t

theorem witness_SetTables :
    Accepts 1 (.setTableTemperature defaultPoints) .reset ∧ tempTableOk (defaultPoints.map (·.toInt)) = true ∧
      Accepts 1 (.setTableTemperature (.replicate 17 5)) .reset ∧ (List.replicate 17 (5 : Half)).length = 17 ∧
      tempTableOk ((List.replicate 17 (5 : Half)).map (·.toInt)) = false ∧
      Accepts 1 (.setTableFeedforward .extract (Feedforward.default.map fun p => (BitVec.ofNat 16 p.1, BitVec.ofNat 16 p.2)))
        .reset ∧
      feedforwardOk Feedforward.default = true := by decide

theorem witness_SetParam_filters :
    Accepts 1 (.setParam 18 600) blockedUp ∧ ((heard 1 (.setParam 18 600) blockedUp).filters.get .extract).state = .blocked ∧
      ((heard 1 (.setParam 18 600) blockedUp).filters.get .supply).state ≠ .blocked ∧
      Accepts 1 (.setParam 1 0xFFFB) .reset ∧ Param.ofId 1 = some (.calOffset .rhExt) ∧
      (0xFFFB : Half).toInt = -5 := by decide

/-- R99, R154: q_rated forms the ceilings anew and changes no other piece of a filter; an offset is carried signed. -/
theorem test_setParam_filters :
    leaves (.setParam 1 18 600) blockedUp (fun t => t.filters.extract.ceiling == 285 && t.filters.supply.ceiling == 600 &&
      t.filters.extract.loading == some 420) = true ∧
    leaves (.setParam 1 1 0xFFFB) .reset (fun t => t.settings.cal.rhExt.offset == -5) = true := by decide

/-- R10, R25: a table for each shape check that fails it alone. -/
theorem witness_SetTables_refused :
    (∀ t : List Int, t ∈ [Calibration.default.temps.set 1 800, Calibration.default.temps.set 0 801,
        Calibration.default.temps.set 16 (-401), Calibration.default.temps.set 16 800] →
      t.length = 17 ∧ tempTableOk t = false) ∧
      (∀ t : Feedforward, t ∈ [Feedforward.default.set 0 (1, 0), Feedforward.default.set 7 (1201, 1000),
        Feedforward.default.set 7 (1200, 1001), Feedforward.default.set 7 (900, 1000), Feedforward.default.set 7 (1200, 799)] →
      t.length = 8 ∧ feedforwardOk t = false) ∧
      tempTableOk Calibration.default.temps.reverse = true := by decide

theorem witness_SavesAndWrites :
    ∀ w ∈ [none, some saved], ∀ p ∈ [true, false],
      let s := stored (fun x => { x with writing := w, savePending := p, releases := p }) .reset
      s.power = .running ∧ s.store.writing = w ∧ s.store.savePending = p ∧ s.store.releases = p := by
  intro w _ p _
  exact ⟨rfl, rfl, rfl, rfl⟩

theorem witness_SaveRestoreAndReset :
    Accepts 1 .saveSettings .reset ∧ Accepts 1 .restoreDefaults .reset ∧ Accepts 1 .resetPart .reset ∧
      (heard 1 .resetPart .reset).store.writing = none ∧ (heard 1 .resetPart .reset).store.savePending = false ∧
      (heard 1 .resetPart (stored (fun x => { x with writing := some saved }) .reset)).store.writing.isSome = true := by
  decide

/-- A part with settings of its own, a blocked extract filter and a heater that heats. -/
def unsettled : State :=
  { frosted (fun f => { f with stage := .watch, duty := 50, output := true }) blockedUp with
    settings := { Settings.default with
      qRated := 1000, qMinRun := 200, qQuiet := 400, dutyMin := 200, preheatFitted := true, supervisionInterval := 0 }
    superv := ⟨.off, 0, 0⟩ }

theorem witness_SaveRestoreAndReset_acts :
    (∀ s ∈ [unsettled, { unsettled with settings := { unsettled.settings with qRated := 900, qMinRun := 150 } }, .reset],
      Accepts 1 .restoreDefaults s) ∧
      (heard 1 .restoreDefaults unsettled).superv.state = .off ∧ (heard 1 .restoreDefaults .reset).superv.state = .ok := by
  decide

/-- R84, R99, R154, R169: RESTORE_DEFAULTS acts as the SET_PARAMs it makes. -/
theorem test_restoreDefaults :
    leaves (.restoreDefaults 1) unsettled (fun t => t.settings == .default && t.filters.extract.ceiling == 428 &&
      t.filters.supply.ceiling == 900 && t.frost.duty == 0 && !t.frost.output && t.superv == ⟨.ok, 0, 0⟩ &&
      t.fans.extract.satCap == some 300 && t.res.extTarget == 300) = true := by decide +kernel

theorem test_save_then_reply :
    leaves .saveWriteComplete (after (.saveSettings 7) .reset) (fun t => t.store.completed == 1 && t.store.image.isSome &&
      t.link.slot.map (·.phase) == some .replied) = true := by decide

/-! ### Witnesses: the claims on every step, in states with something in them -/

theorem witness_TablesStayLegal :
    TablesLegal (windowed (heardRow 5 2 id) .pollCycle 1 0) ∧ TablesLegal (windowed (heardRow 30 6 id) .callSweep 2 3) :=
  ⟨⟨by decide, by decide, by decide, by decide⟩, by decide, by decide, by decide, by decide⟩

theorem witness_BoostsStayMatched :
    BoostsMatch (roomed [700] (some (session id))) ∧ (roomed [700] (some (session id))).sessions.length = 1 := by decide

theorem witness_ModesStayLegal :
    let s := { standingBy 5 9 3 with sessions := [session fun x => { x with held := true }] }
    AiringLegal s ∧ HeldLegal s ∧ FallbackLegal s ∧ s.mode.airing = 3 := by decide

end Sys2Proof.Tests
end

section
/-! SUPPORT. Proofs: conversions and publications of the measurement channels (O10). -/

namespace Sys2Proof.Proofs

open Sys2Proof Sys2Proof.Machine

/-! ### Scans -/

theorem exec_scanStart {s : State} (h : s.power = .running) : exec .scanStart s = .next (scanStart s) :=
  congrArg Host.Outcome.next (whenRunning_on h)

theorem scanStart_cal {s : State} (h : s.seq.next = none) : (scanStart s).seq.cal = s.settings.cal := by
  simp [scanStart, h]

/-! ### Conversion formulas -/

/-- The clamp with its outer bound first, the form in which R3 and R4 give the ranges. -/
theorem clampI_eq {x lo hi : Int} (h : lo ≤ hi) : clampI x lo hi = max lo (min hi x) := by
  unfold clampI; omega

theorem convertTemp_eq {t : List Int} {raw : Nat} {a b : Int} (ha : t[raw / 256]? = some a)
    (hb : t[raw / 256 + 1]? = some b) :
    convertTemp t raw = max (-400) (min 800
      (a + Int.tdiv (((raw : Int) - 256 * (raw / 256 : Nat)) * (b - a)) (if raw / 256 = 15 then 255 else 256))) := by
  simp only [convertTemp, List.getD_eq_getElem?_getD, ha, hb, Option.getD_some, quot]
  exact clampI_eq (by decide)

theorem convertLin_eq {c : LinCal} {high : Int} {raw : Nat} (h : 0 ≤ high) :
    convertLin c high raw = max 0 (min high (((raw * c.gain / 4096 : Nat) : Int) + c.offset)) :=
  clampI_eq h

theorem convert_temperature {ch : Channel} (h : ch ∈ [Channel.tOut, .tPre, .tSup, .tExt, .tExh]) (c : Calibration)
    (raw : Nat) : convert c ch raw = convertTemp c.temps raw := by
  fin_cases h <;> rfl

/-! ### A conversion of the channel in turn -/

theorem exec_conversion {raw : Nat} {s : State} (h : s.power = .running) :
    exec (.conversion raw) s = .next (takeConversion raw s) :=
  congrArg Host.Outcome.next (whenRunning_on h)

theorem classify_good {raw : Nat} (h1 : 16 ≤ raw) (h2 : raw ≤ 4079) : classify raw = .noFault := by
  unfold classify; rw [if_neg (by omega), if_neg (by omega)]

/-- R6: a good code leaves the good conversion's record on its channel. -/
theorem convertChannel_working_good {raw : Nat} (h1 : 16 ≤ raw) (h2 : raw ≤ 4079) (ch : Channel) (q : Sequencer) :
    (convertChannel ch raw q).working.get ch = goodConversion ch raw (convert q.cal ch raw) (q.working.get ch) := by
  simp [convertChannel, classify_good h1 h2]

/-- R2: a conversion of any channel but the last is only taken into the working copy. -/
theorem takeConversion_inner {ch : Channel} (raw : Nat) {s : State} (hn : s.seq.next = some ch) (h : ch ≠ .vSupply) :
    takeConversion raw s = { s with seq := { convertChannel ch raw s.seq with next := ch.succ } } := by
  unfold takeConversion; rw [hn]
  cases ch
  case vSupply => exact absurd rfl h
  all_goals rfl

theorem exec_conversion_engineering {ch : Channel} {raw : Nat} {s : State} (hp : s.power = .running)
    (hn : s.seq.next = some ch) (hch : ch ≠ .vSupply) (h1 : 16 ≤ raw) (h2 : raw ≤ 4079) :
    ∃ t, exec (.conversion raw) s = .next t ∧
      (t.seq.working.get ch).engineering = some (convert s.seq.cal ch raw) := by
  refine ⟨_, exec_conversion hp, ?_⟩
  rw [takeConversion_inner raw hn hch]
  exact congrArg ChannelRecord.engineering (convertChannel_working_good h1 h2 ch s.seq)

/-! ### The last conversion and its publication -/

/-- R15: a good rail value at or above the brownout level does not reset the part. -/
theorem brownout_goodConversion {v : Int} (h : Config.railBrownout ≤ v) (ch : Channel) (raw : Nat) (r : ChannelRecord) :
    brownout (goodConversion ch raw v r) = false := by
  simp [brownout, goodConversion, h]

theorem takeConversion_last {raw : Nat} {s : State} (hn : s.seq.next = some .vSupply)
    (h : brownout ((convertChannel .vSupply raw s.seq).working.get .vSupply) = false) :
    takeConversion raw s = completeScan { s with seq := { convertChannel .vSupply raw s.seq with next := none } } := by
  unfold takeConversion; rw [hn]
  exact if_neg (Bool.eq_false_iff.mp h)

theorem supplyLowStep_published (v : Int) (q : Sequencer) : (supplyLowStep v q).published = q.published := by
  unfold supplyLowStep
  repeat' split
  all_goals rfl

theorem supplyLowUpdate_published (q : Sequencer) : (supplyLowUpdate q).published = q.published := by
  unfold supplyLowUpdate
  split
  · exact supplyLowStep_published _ q
  · rfl

theorem raiseIf_seq (b : Bool) (e : Event) (s : State) : (raiseIf b e s).seq = s.seq := by cases b <;> rfl

theorem updateSupplyLow_published (s : State) : (updateSupplyLow s).seq.published = s.seq.published := by
  unfold updateSupplyLow; dsimp only
  split
  · exact supplyLowUpdate_published s.seq
  · rw [preheatCheck_eq]; dsimp only
    rw [raiseIf_seq]; exact supplyLowUpdate_published s.seq

/-- R8: a publication publishes the working copy. -/
theorem publish_published (s : State) : (publish s).seq.published = s.seq.working := by
  unfold publish; dsimp only
  rw [updateSupplyLow_published, raiseIf_seq, raiseIf_seq]

/-- What follows a publication, start-up's steps included, leaves the published records. -/
theorem completeScan_published (s : State) : (completeScan s).seq.published = s.seq.working := by
  unfold completeScan
  rw [scanArrivals_eq]; dsimp only
  split
  · rw [finishStartUp_eq]; exact publish_published s
  · exact publish_published s

theorem exec_conversion_published {raw : Nat} {s : State} (hp : s.power = .running) (hn : s.seq.next = some .vSupply)
    (h1 : 16 ≤ raw) (h2 : raw ≤ 4079) (hv : Config.railBrownout ≤ convert s.seq.cal .vSupply raw) :
    ∃ t, exec (.conversion raw) s = .next t ∧
      t.seq.published.vSupply.engineering = some (convert s.seq.cal .vSupply raw) := by
  have hrec := convertChannel_working_good h1 h2 .vSupply s.seq
  have hb : brownout ((convertChannel .vSupply raw s.seq).working.get .vSupply) = false := by
    rw [hrec]; exact brownout_goodConversion hv _ _ _
  refine ⟨_, exec_conversion hp, ?_⟩
  rw [takeConversion_last hn hb, completeScan_published]
  exact congrArg ChannelRecord.engineering hrec

/-! ### The obligation -/

/-- Settles O10: each conversion leaves `convert` of its code, in the working copy or, at the end of the scan, published;
`convert` is the manual's formula on each kind of channel. -/
theorem conversionsFollowTheirFormulas : Obligations.ConversionsFollowTheirFormulas := by
  unfold Obligations.ConversionsFollowTheirFormulas
  refine ⟨fun s hp hn => ⟨_, exec_scanStart hp, scanStart_cal hn⟩, fun _ _ => rfl, ?temperature, ?pressure, ?humidity,
    ?rail⟩
  case temperature =>
    rintro ch hch raw s hp hn h1 h2 _ rfl a b ha hb
    have hne : ch ≠ .vSupply := by rintro rfl; simp at hch
    rw [← convertTemp_eq ha hb, ← convert_temperature hch]
    exact exec_conversion_engineering hp hn hne h1 h2
  case pressure =>
    intro c hc raw s hp hn h1 h2
    rw [← convertLin_eq (by decide)]
    simp only [List.mem_cons, List.not_mem_nil, or_false] at hc
    obtain rfl | rfl | rfl | rfl := hc <;> exact exec_conversion_engineering hp hn (by decide) h1 h2
  case humidity =>
    intro raw s hp hn h1 h2
    rw [← convertLin_eq (by decide)]
    exact exec_conversion_engineering hp hn (by decide) h1 h2
  case rail =>
    rintro raw s hp hn h1 h2 v hv hlow
    rw [← convertLin_eq (by decide)] at hv
    subst hv
    exact exec_conversion_published hp hn h1 h2 hlow

end Sys2Proof.Proofs
end

section
/-! SUPPORT. Proofs: the host's writes of the demand table and the laws of the targets (O17, O18, O19, O22). -/

namespace Sys2Proof.Proofs

open Sys2Proof Sys2Proof.Machine

/-! ### A write to the demand table -/

/-- R43, R44: of the fan records the resolution of a demand write changes the targets alone. -/
theorem writeDemand_fan (f : DemandTable → DemandTable) (s : State) (st : Stream) :
    (writeDemand f s).fans.get st = { s.fans.get st with qTarget := ((writeDemand f s).fans.get st).qTarget } := by
  cases st <;> rfl

/-- R44, R60: a write to the demand table starts one resolution. -/
theorem writeDemand_resolves (f : DemandTable → DemandTable) (s : State) :
    Resolved (writeDemand f s) ∧ (writeDemand f s).res.count = (s.res.count + 1) % 65536 :=
  ⟨resolved_writeDemand f s, rfl⟩

/-- A demand write to a HOST_TIMED slot is read there and leaves the other slots. -/
theorem slot_writeDemand_setTimed (s : State) {k : Nat} (e : Option DemandEntry) (h1 : 1 ≤ k) (h2 : k ≤ 4) :
    (writeDemand (setTimed k e) s).demand.slot k = e ∧
      ∀ j ≠ k, (writeDemand (setTimed k e) s).demand.slot j = s.demand.slot j :=
  slot_setTimed s.demand k e h1 h2

/-- R47: the entry written carries its expiry in full, and the created-at of the entry it replaces, if there is one. -/
theorem timedEntry_eq (old : Option DemandEntry) (level expiry : Nat) (exempt : Bool) (uptime : Nat) :
    timedEntry old level expiry exempt uptime =
      ⟨level, some expiry, exempt, match old with | some e => e.createdAt | none => uptime, 0⟩ := by
  cases old <;> rfl

/-! ### SET_DEMAND (R45 to R47) -/

/-- An accepted SET_DEMAND leaves what its owner's answer leaves. -/
theorem exec_setDemand {tag source key : Byte} {level expiry : Half} {exempt : Byte} {s u : State} {r : Result}
    {p : List Byte} (ha : Accepts tag (.setDemand source key level expiry exempt) s)
    (ho : ownSetDemand source key level expiry exempt (heard tag (.setDemand source key level expiry exempt) s) =
      (.now r p, u)) :
    exec (.setDemand tag source key level expiry exempt) s =
      .next (replied tag (.setDemand source key level expiry exempt) r p u) := by
  rw [← serveRequest_now ho, ← whenRunning_hostRequest _ ha]
  rfl

theorem ownSetDemand_base (level : Half) (s : State) :
    ownSetDemand 0 0 level 0 0 s =
      (.now (if level.toNat ≤ s.settings.qRated then .ok else .clamped) (u16 (min level.toNat s.settings.qRated)),
        writeDemand (setBase (min level.toNat s.settings.qRated)) s) := by
  rw [← clampResult_min]; rfl

theorem ownSetDemand_timed {key : Byte} {expiry : Half} (h1 : 1 ≤ key.toNat) (h2 : key.toNat ≤ 4) (he : expiry ≠ 0)
    (level : Half) (exempt : Byte) (s : State) :
    ownSetDemand 1 key level expiry exempt s =
      (.now (if level.toNat ≤ s.settings.qRated then .ok else .clamped) (u16 (min level.toNat s.settings.qRated)),
        writeDemand (setTimed key.toNat (some (timedEntry (s.demand.slot key.toNat)
          (min level.toNat s.settings.qRated) expiry.toNat (exempt != 0) s.uptime))) s) := by
  have hkey : ¬ (key.toNat = 0 ∨ 4 < key.toNat) := by omega
  rw [← clampResult_min]
  unfold ownSetDemand
  rw [if_neg (by decide), if_pos rfl, if_neg hkey, if_neg he]
  rfl

/-- R45: a source, a slot or an expiry that a check refuses. -/
theorem ownSetDemand_refused {source key : Byte} {expiry : Half} {exempt : Byte}
    (h : 2 ≤ source.toNat ∨ (source = 0 ∧ (key ≠ 0 ∨ expiry ≠ 0 ∨ exempt ≠ 0)) ∨
      (source = 1 ∧ (key = 0 ∨ 5 ≤ key.toNat ∨ expiry = 0))) (level : Half) (s : State) :
    ownSetDemand source key level expiry exempt s = (.now .badValue [], s) := by
  unfold ownSetDemand
  obtain hsrc | ⟨rfl, hbad⟩ | ⟨rfl, hbad⟩ := h
  · have h0 : source ≠ 0 := by rintro rfl; exact absurd hsrc (by decide)
    have h1 : source ≠ 1 := by rintro rfl; exact absurd hsrc (by decide)
    rw [if_neg h0, if_neg h1]; rfl
  · by_cases hk : key = 0
    · have hrest : expiry ≠ 0 ∨ exempt ≠ 0 := hbad.resolve_left (not_not_intro hk)
      rw [if_pos rfl, if_neg (not_not_intro hk), if_pos hrest]; rfl
    · rw [if_pos rfl, if_pos hk]; rfl
  · rw [if_neg (by decide), if_pos rfl]
    by_cases hk : key.toNat = 0 ∨ 4 < key.toNat
    · rw [if_pos hk]; rfl
    · have hexp : expiry = 0 := by
        obtain rfl | h5 | hexp := hbad
        · exact absurd (Or.inl rfl) hk
        · omega
        · exact hexp
      rw [if_neg hk, if_pos hexp]; rfl

/-! ### CLEAR_DEMAND (R48) -/

/-- An accepted CLEAR_DEMAND leaves what its owner's answer leaves. -/
theorem exec_clearDemand {tag source key : Byte} {s u : State} {r : Result} {p : List Byte}
    (ha : Accepts tag (.clearDemand source key) s)
    (ho : ownClearDemand source key (heard tag (.clearDemand source key) s) = (.now r p, u)) :
    exec (.clearDemand tag source key) s = .next (replied tag (.clearDemand source key) r p u) := by
  rw [← serveRequest_now ho, ← whenRunning_hostRequest _ ha]
  rfl

theorem ownClearDemand_base (s : State) :
    ownClearDemand 0 0 s =
      (.now .ok [], writeDemand (setBase (min s.settings.demandBase s.settings.qRated)) s) := rfl

theorem ownClearDemand_timed {key : Byte} (h1 : 1 ≤ key.toNat) (h2 : key.toNat ≤ 4) (s : State) :
    ownClearDemand 1 key s =
      if (s.demand.slot key.toNat).isSome then (.now .ok [], writeDemand (setTimed key.toNat none) s)
      else (.now .noSuch [], s) := by
  have hkey : ¬ (key.toNat = 0 ∨ 4 < key.toNat) := by omega
  unfold ownClearDemand
  rw [if_neg (by decide), if_pos rfl, if_neg hkey]
  rfl

theorem ownClearDemand_timed_badKey {key : Byte} (h : key = 0 ∨ 5 ≤ key.toNat) (s : State) :
    ownClearDemand 1 key s = (.now .badValue [], s) := by
  have hkey : key.toNat = 0 ∨ 4 < key.toNat := h.imp (congrArg BitVec.toNat) id
  unfold ownClearDemand
  rw [if_neg (by decide), if_pos rfl, if_pos hkey]
  rfl

theorem ownClearDemand_base_badKey {key : Byte} (h : key ≠ 0) (s : State) :
    ownClearDemand 0 key s = (.now .badValue [], s) := by
  unfold ownClearDemand
  rw [if_pos rfl, if_pos h]
  rfl

theorem ownClearDemand_badSource {source : Byte} (h : 2 ≤ source.toNat) (key : Byte) (s : State) :
    ownClearDemand source key s = (.now .badValue [], s) := by
  have h0 : source ≠ 0 := by rintro rfl; exact absurd h (by decide)
  have h1 : source ≠ 1 := by rintro rfl; exact absurd h (by decide)
  unfold ownClearDemand
  rw [if_neg h0, if_neg h1]
  rfl

/-! ### The stages' bounds (R53 to R57) -/

theorem fanMinZeroed_le (q : Nat) : fanMinZeroed q ≤ q := by
  have := fanMinZeroed_cases q
  omega

/-- R54: a stream's cap is within q_rated, the ceiling, and the saturation cap where there is one. -/
theorem streamCap_le (qRated ceiling : Nat) (satCap : Option Nat) :
    streamCap qRated ceiling satCap ≤ ceiling ∧ streamCap qRated ceiling satCap ≤ qRated ∧
      ∀ c, satCap = some c → streamCap qRated ceiling satCap ≤ c := by
  cases satCap with
  | none => exact ⟨Nat.min_le_right .., Nat.min_le_left .., fun _ h => nomatch h⟩
  | some cap =>
    dsimp only [streamCap]
    refine ⟨by omega, by omega, ?_⟩
    rintro _ ⟨⟩
    exact Nat.min_le_right ..

theorem extractFlow_le_before (s : State) : extractFlow s ≤ extractBefore s :=
  (fanMinZeroed_le _).trans (Nat.min_le_left ..)

/-- R56: the allowance bounds what the extract exceeds the supply before balance by. -/
theorem extractFlow_le_supplyFlow (s : State) : extractFlow s ≤ supplyFlow s + s.frost.allowance :=
  (fanMinZeroed_le _).trans (Nat.min_le_right ..)

theorem extractFlow_le_cap (s : State) : extractFlow s ≤ capOf s .extract :=
  (extractFlow_le_before s).trans (Nat.min_le_right ..)

theorem supplyFlow_le_cap (s : State) : supplyFlow s ≤ capOf s .supply :=
  (fanMinZeroed_le _).trans (Nat.min_le_right ..)

theorem extractFlow_zero_or_min (s : State) : extractFlow s = 0 ∨ 60 ≤ extractFlow s := by
  have := fanMinZeroed_cases (min (extractBefore s) (supplyFlow s + s.frost.allowance))
  unfold extractFlow extractBalanced
  omega

theorem supplyFlow_zero_or_min (s : State) : supplyFlow s = 0 ∨ 60 ≤ supplyFlow s := by
  have := fanMinZeroed_cases (windowed (extractBefore s) s.frost.w (capOf s .supply))
  unfold supplyFlow supplyBefore
  omega

/-- An entry of the source AIRING stands in the AIRING place alone. -/
theorem entries_source_ne_airing {d : DemandTable} (ha : d.airing = none) : ∀ e ∈ d.entries, e.1 ≠ .airing := by
  simp only [DemandTable.entries, ha, List.mem_cons, List.mem_append, List.mem_filterMap, Option.map_eq_some_iff,
    Option.mem_toList]
  rintro _ (rfl | ((⟨_, _, _, _, rfl⟩ | ⟨_, _, _, _, rfl⟩) | ⟨_, hnone, _⟩) | ⟨_, _, rfl⟩)
  case inr.inl.inr => exact nomatch hnone
  all_goals exact fun hsource => nomatch hsource

/-- R53: in standby no entry but the AIRING entry is eligible. -/
theorem eligible_entries_standby {m : Mode} {d : DemandTable} (hm : m.inStandby = true) (ha : d.airing = none) :
    (d.entries.filter fun e => eligible m e.1) = [] := by
  rw [List.filter_eq_nil_iff]
  intro e he
  simp [eligible, hm, entries_source_ne_airing ha e he]

/-- R53: with no eligible entry there is no flow. -/
theorem demandFlow_standby {s : State} (hm : s.mode.mode.inStandby = true) (ha : s.demand.airing = none) :
    demandFlow s = 0 := by
  unfold demandFlow stage1
  rw [eligible_entries_standby hm ha]
  rfl

theorem extractFlow_standby {s : State} (hm : s.mode.mode.inStandby = true) (ha : s.demand.airing = none) :
    extractFlow s = 0 :=
  Nat.le_zero.mp (calc
    extractFlow s ≤ extractBefore s := extractFlow_le_before s
    _ ≤ demandFlow s := Nat.min_le_left ..
    _ = 0 := demandFlow_standby hm ha)

/-! ### The targets (R57) -/

theorem stopped_iff (s : State) : stopped s = true ↔ fanFault s = true ∨ s.frost.stage = .lock := by
  simp [stopped]

theorem targets_stopped {s : State} (h : stopped s = true) : targets s = (0, 0) := if_pos h

theorem targets_flowing {s : State} (h : ¬ stopped s = true) :
    targets s = (extractFlow s, min (supplyFlow s) (extractFlow s)) := if_neg h

/-- A target within its stream's cap is within each of the cap's three bounds. -/
theorem bounds_of_le_capOf {q : Nat} {s : State} {st : Stream} (h : q ≤ capOf s st) :
    q ≤ (s.filters.get st).ceiling ∧ q ≤ s.settings.qRated ∧ ∀ c, (s.fans.get st).satCap = some c → q ≤ c := by
  obtain ⟨hceil, hrated, hsat⟩ := streamCap_le s.settings.qRated (s.filters.get st).ceiling (s.fans.get st).satCap
  exact ⟨h.trans hceil, h.trans hrated, fun c hc => h.trans (hsat c hc)⟩

/-! ### The obligations -/

/-- Settles O17. -/
theorem setDemandBase : Obligations.SetDemandBase := by
  unfold Obligations.SetDemandBase
  rintro tag level s _ rfl ha h rfl
  exact ⟨_, exec_setDemand ha (ownSetDemand_base level _), writeDemand_eq _ _, writeDemand_fan _ _,
    writeDemand_resolves _ _⟩

/-- Settles O18: the slot's entry is `timedEntry`'s. -/
theorem setDemandTimed : Obligations.SetDemandTimed := by
  unfold Obligations.SetDemandTimed
  rintro tag key level expiry exempt s _ rfl h1 h2 he ha h rfl
  obtain ⟨hslot, hothers⟩ := slot_writeDemand_setTimed _ _ h1 h2
  refine ⟨_, exec_setDemand ha (ownSetDemand_timed h1 h2 he level exempt _), writeDemand_eq _ _,
    hslot.trans (congrArg some (timedEntry_eq ..)), hothers, writeDemand_fan _ _, writeDemand_resolves _ _⟩

/-- Settles O19, by the owner's answer in each case of source and key. -/
theorem clearDemandAndRefusals : Obligations.ClearDemandAndRefusals := by
  unfold Obligations.ClearDemandAndRefusals
  refine ⟨?clear, ?set⟩
  case clear =>
    rintro tag source key s _ rfl ha h rfl
    refine ⟨?base, ?present, ?absent, ?badSlot, ?badKey, ?badSource⟩
    case base =>
      rintro rfl rfl
      exact ⟨_, exec_clearDemand ha (ownClearDemand_base _), writeDemand_eq _ _, writeDemand_resolves _ _⟩
    case present =>
      rintro rfl h1 h2 hsome
      obtain ⟨hslot, hothers⟩ := slot_writeDemand_setTimed _ none h1 h2
      exact ⟨_, exec_clearDemand ha ((ownClearDemand_timed h1 h2 _).trans (if_pos hsome)), writeDemand_eq _ _, hslot,
        hothers, writeDemand_resolves _ _⟩
    case absent =>
      rintro rfl h1 h2 hnone
      exact exec_clearDemand ha ((ownClearDemand_timed h1 h2 _).trans (if_neg (by rw [hnone]; decide)))
    case badSlot =>
      rintro rfl hkey
      exact exec_clearDemand ha (ownClearDemand_timed_badKey hkey _)
    case badKey =>
      rintro rfl hkey
      exact exec_clearDemand ha (ownClearDemand_base_badKey hkey _)
    case badSource => exact fun hsource => exec_clearDemand ha (ownClearDemand_badSource hsource key _)
  case set =>
    rintro tag source key level expiry exempt s _ rfl ha hbad
    exact exec_setDemand ha (ownSetDemand_refused hbad level _)

/-- Settles O22: stopped streams have no target; the targets of streams that are not stopped meet each law by the bounds of
the stages that give them. -/
theorem lawsOfTheTargets : Obligations.LawsOfTheTargets := by
  unfold Obligations.LawsOfTheTargets
  intro s
  by_cases hstop : stopped s = true
  · rw [targets_stopped hstop]
    simp
  · rw [targets_flowing hstop]
    have hbalance := extractFlow_le_supplyFlow s
    have hsupply := supplyFlow_zero_or_min s
    have hextract := extractFlow_zero_or_min s
    refine ⟨Nat.min_le_right .., by dsimp only; omega, fun h => absurd ((stopped_iff s).mpr h) hstop,
      bounds_of_le_capOf (st := .extract) (extractFlow_le_cap s),
      bounds_of_le_capOf (st := .supply) ((Nat.min_le_left ..).trans (supplyFlow_le_cap s)), fun hm ha => ?standby,
      hextract, by dsimp only; omega⟩
    case standby => simp [extractFlow_standby hm ha]

end Sys2Proof.Proofs
end

section
/-! SUPPORT. Proofs: what one step of the part can do, as a principle for whatever every step keeps. -/

namespace Sys2Proof.Proofs

open Sys2Proof Sys2Proof.Machine

/-! ### Requests and their owners -/

/-- The owner of each request: what `exec` hands it to. -/
def ownerOf : Request → State → Answer × State
  | .ping => ownPing
  | .getStatus page => ownGetStatus page
  | .getEvents => ownGetEvents
  | .setEventMask mask => ownSetEventMask mask
  | .setDemand source key level expiry exempt => ownSetDemand source key level expiry exempt
  | .clearDemand source key => ownClearDemand source key
  | .getDemands first => ownGetDemands first
  | .getFlows => ownGetFlows
  | .fanRecover stream => ownFanRecover stream
  | .getFrost => ownGetFrost
  | .forceDefrost => ownForceDefrost
  | .frostRelease => ownFrostRelease
  | .learnExchanger => ownLearnExchanger
  | .getFilter filter => ownGetFilter filter
  | .filterReset filter => ownFilterReset filter
  | .getNodes first => ownGetNodes first
  | .nodePin address room kind => ownNodePin address room kind
  | .nodeUnpin address => ownNodeUnpin address
  | .nodeForget address => ownNodeForget address
  | .discover => ownDiscover
  | .getRooms room => ownGetRooms room
  | .getSessions first => ownGetSessions first
  | .boostCancel room => ownBoostCancel room
  | .setMode mode => ownSetMode mode
  | .getParam id => ownGetParam id
  | .setParam id value => ownSetParam id value
  | .setTableTemperature points => ownSetTableTemperature points
  | .setTableFeedforward st points => ownSetTableFeedforward st points
  | .saveSettings => ownSaveSettings
  | .restoreDefaults => ownRestoreDefaults
  | .resetPart => ownResetPart

/-- Every request's row is the handling of that request by its owner. -/
theorem exec_request (tag : Byte) (q : Request) (s : State) :
    exec (q.toInstr tag) s = .next (whenRunning (hostRequest tag q (ownerOf q)) s) := by
  cases q <;> rfl

/-- An accepted request is served by its owner where its own frame's arrival left the part. -/
theorem exec_accepted {tag : Byte} {q : Request} {s : State} (h : Accepts tag q s) :
    exec (q.toInstr tag) s = .next (serveRequest tag q (ownerOf q) (heard tag q s)) := by
  rw [exec_request, whenRunning_hostRequest _ h]

/-- An accepted request whose owner answers at once leaves the owner's state with the reply queued. -/
theorem exec_accepted_now {tag : Byte} {q : Request} {s u : State} {r : Result} {p : List Byte} (h : Accepts tag q s)
    (ho : ownerOf q (heard tag q s) = (.now r p, u)) :
    exec (q.toInstr tag) s = .next (replied tag q r p u) := by
  rw [exec_accepted h, serveRequest_now ho]

/-! ### Sizes of replies (R172) -/

@[simp] theorem length_u8 (n : Nat) : (u8 n).length = 1 := rfl
@[simp] theorem length_u16 (n : Nat) : (u16 n).length = 2 := rfl
@[simp] theorem length_u32 (n : Nat) : (u32 n).length = 4 := rfl
@[simp] theorem length_s16 (i : Int) : (s16 i).length = 2 := rfl
@[simp] theorem length_u16Opt (o : Option Nat) : (u16Opt o).length = 2 := rfl
@[simp] theorem length_s16Opt (o : Option Int) : (s16Opt o).length = 2 := rfl
@[simp] theorem length_u8Opt (o : Option Nat) : (u8Opt o).length = 1 := rfl

@[simp] theorem length_encodeDemand (src : Source) (key : Nat) (e : DemandEntry) :
    (encodeDemand src key e).length = 10 := rfl
@[simp] theorem length_encodeResolution (r : Resolution) : (encodeResolution r).length = 13 := rfl
@[simp] theorem length_encodeFan (f : FanRecord) : (encodeFan f).length = 14 := rfl
@[simp] theorem length_encodeFrost (f : FrostRecord) : (encodeFrost f).length = 22 := rfl
@[simp] theorem length_encodeFilter (st : Stream) (f : FilterRecord) : (encodeFilter st f).length = 18 := rfl
@[simp] theorem length_encodeLine (l : LineRecord) : (encodeLine l).length = 10 := rfl
@[simp] theorem length_encodeSession (x : Session) : (encodeSession x).length = 19 := rfl
@[simp] theorem length_encodeChannel (c : ChannelRecord) : (encodeChannel c).length = 3 := rfl

@[simp] theorem length_encodeRow (r : Option NodeRow) : (encodeRow r).length = 11 := by
  cases r <;> rfl

@[simp] theorem length_encodeRoom (room : Nat) (r : RoomRecord) (x : Bool) : (encodeRoom room r x).length = 35 := rfl

@[simp] theorem length_paramBytes (p : Param) (x : Settings) : (p.bytes x).length = 2 := by
  unfold Param.bytes; split <;> rfl

/-- The bytes of some records of one size. -/
theorem length_flatten_map {α : Type} {n : Nat} (f : α → List Byte) (h : ∀ a, (f a).length = n) (l : List α) :
    (l.map f).flatten.length = l.length * n := by
  simp [List.length_flatten, Function.comp_def, h]

end Sys2Proof.Proofs
end

section
/-! SUPPORT. Proofs: what a fan's work and a frost evaluation hand on. -/

namespace Sys2Proof.Proofs

open Sys2Proof Sys2Proof.Machine

/-! ### The work of a control step (R22, R23, R28 to R35) -/

theorem drive_qCmd (e : FanEnv) (f : FanRecord) : (drive e f).qCmd = f.qCmd := by
  obtain ⟨-, -, -, -, -, -, hcmd, -⟩ := drive_keeps e f
  exact hcmd

theorem drive_qTarget (e : FanEnv) (f : FanRecord) : (drive e f).qTarget = f.qTarget := by
  obtain ⟨-, -, -, -, -, -, -, htarget, -⟩ := drive_keeps e f
  exact htarget

theorem driveFrozen_flows (e : FanEnv) (f : FanRecord) :
    (driveFrozen e f).qCmd = f.qCmd ∧ (driveFrozen e f).qTarget = f.qTarget := by
  unfold driveFrozen; split <;> exact ⟨rfl, rfl⟩

theorem steadyCheck_flows (f : FanRecord) :
    (steadyCheck f).1.qCmd = f.qCmd ∧ (steadyCheck f).1.qTarget = f.qTarget := by
  unfold steadyCheck; split_ifs <;> exact ⟨rfl, rfl⟩

theorem targetCheck_flows (f : FanRecord) :
    (targetCheck f).qCmd = f.qCmd ∧ (targetCheck f).qTarget = f.qTarget := by
  unfold targetCheck
  split
  · split <;> exact ⟨rfl, rfl⟩
  · exact ⟨rfl, rfl⟩

theorem countSteady_flows (f : FanRecord) :
    (countSteady f).1.qCmd = f.qCmd ∧ (countSteady f).1.qTarget = f.qTarget := by
  unfold countSteady; split_ifs <;> exact ⟨rfl, rfl⟩

theorem countSaturation_flows (f : FanRecord) :
    (countSaturation f).1.qCmd = f.qCmd ∧ (countSaturation f).1.qTarget = f.qTarget := by
  unfold countSaturation; split_ifs <;> exact ⟨rfl, rfl⟩

/-- R22, R23: the flow that a running step commands before it may stop. -/
theorem rampAndDrive_flows (e : FanEnv) (f : FanRecord) :
    (rampAndDrive e f).qCmd = coupled e (rampTo f.qCmd f.qTarget) ∧ (rampAndDrive e f).qTarget = f.qTarget :=
  ⟨drive_qCmd .., drive_qTarget ..⟩

theorem coupled_le {e : FanEnv} {c : Nat} (h : e.extractCmd = some c) (q : Nat) : coupled e q ≤ c := by
  simp only [coupled, h]; exact Nat.min_le_right ..

/-- The work of RAMPING and STEADY leaves the target, and commands the coupled ramp or nothing. -/
theorem workRun_flows (e : FanEnv) (f : FanRecord) :
    (workRun e f).1.qTarget = f.qTarget ∧
      ((workRun e f).1.qCmd = 0 ∨ (workRun e f).1.qCmd = coupled e (rampTo f.qCmd f.qTarget)) := by
  obtain ⟨hc1, ht1⟩ := steadyCheck_flows f
  obtain ⟨hc2, ht2⟩ := targetCheck_flows (steadyCheck f).1
  obtain ⟨hc3, ht3⟩ := rampAndDrive_flows e (targetCheck (steadyCheck f).1)
  rw [hc2, hc1, ht2, ht1] at hc3
  rw [ht2, ht1] at ht3
  unfold workRun
  dsimp only
  split
  · exact ⟨ht3, Or.inl rfl⟩
  · rw [(countSaturation_flows _).1, (countSaturation_flows _).2, (countSteady_flows _).1, (countSteady_flows _).2]
    exact ⟨ht3, Or.inr hc3⟩

/-- The work of every state leaves the target (R57), and commands nothing, the flow commanded before, or one that the
coupling bounds (R23). -/
theorem fanWork_flows (e : FanEnv) (f : FanRecord) :
    (fanWork e f).1.qTarget = f.qTarget ∧
      ((fanWork e f).1.qCmd = 0 ∨ (fanWork e f).1.qCmd = f.qCmd ∨ ∃ q, (fanWork e f).1.qCmd = coupled e q) := by
  have hrun := workRun_flows e f
  unfold fanWork
  split
  case h_1 => unfold workOff; dsimp only; split <;> exact ⟨rfl, Or.inl rfl⟩
  case h_2 =>
    split
    · unfold workSpin; dsimp only
      split_ifs
      · exact ⟨rfl, Or.inl rfl⟩
      all_goals exact ⟨rfl, Or.inr (Or.inl rfl)⟩
    · unfold workStart; dsimp only
      split
      · exact ⟨rfl, Or.inl rfl⟩
      split
      · exact ⟨(driveFrozen_flows e _).2, Or.inr (Or.inr ⟨_, (driveFrozen_flows e _).1⟩)⟩
      split <;> exact ⟨rfl, Or.inl rfl⟩
  case h_3 => exact ⟨hrun.1, hrun.2.imp id fun h => Or.inr ⟨_, h⟩⟩
  case h_4 => exact ⟨hrun.1, hrun.2.imp id fun h => Or.inr ⟨_, h⟩⟩
  case h_5 => unfold workStalled; dsimp only; split <;> exact ⟨rfl, Or.inl rfl⟩
  case h_6 => exact ⟨rfl, Or.inl rfl⟩

theorem fanWork_qMeas (e : FanEnv) (f : FanRecord) : (fanWork e f).1.qMeas = f.qMeas := by
  have h := fanWork_sensed e f
  simp only [FanRecord.sensed, Prod.mk.injEq] at h
  exact h.2.2.2.1

/-- What a channel hands on leaves its target and its measured flow, and a supply flow exceeds neither the one commanded
before nor the extract's (R23). -/
structure HandsOn (s : State) (st : Stream) (f : FanRecord) : Prop where
  target : f.qTarget = (s.fans.get st).qTarget
  measured : f.qMeas = (s.fans.get st).qMeas
  bounded : st = .supply → f.qCmd ≤ max s.fans.supply.qCmd s.fans.extract.qCmd

/-- A record that is handed on with its flows as they were. -/
theorem HandsOn.same {s : State} {st : Stream} {f : FanRecord} (ht : f.qTarget = (s.fans.get st).qTarget)
    (hm : f.qMeas = (s.fans.get st).qMeas) (hc : f.qCmd = (s.fans.get st).qCmd ∨ f.qCmd = 0) : HandsOn s st f where
  target := ht
  measured := hm
  bounded := by
    rintro rfl
    simp only [PerStream.get] at hc
    omega

/-- R21, R23: what the work of a control step hands on. -/
theorem fanWork_handsOn (s : State) (st : Stream) :
    HandsOn s st (fanWork (fanEnv s st) (s.fans.get st)).1 where
  target := (fanWork_flows _ _).1
  measured := fanWork_qMeas _ _
  bounded := by
    rintro rfl
    obtain ⟨-, h | h | ⟨q, h⟩⟩ := fanWork_flows (fanEnv s .supply) (s.fans.get .supply)
    · omega
    · rw [h]; exact Nat.le_max_left ..
    · rw [h]; exact (coupled_le rfl q).trans (Nat.le_max_right ..)

/-! ### Legal windows through a frost evaluation (R79) -/

/-- DEFROST, HOLD and LOCK, in which the window is 0. -/
def WindowShut (x : FrostStage) : Prop := x = .defrost ∨ x = .hold ∨ x = .lock

theorem windowLegal_enterDefrost {f : FrostRecord} {x : Settings} {n : Nat} (h : WindowLegal f) (hn : n ≤ 16) :
    WindowLegal (f.enterDefrost x n) := by
  obtain ⟨-, -, hs1, hs2, -⟩ := h
  simp [WindowLegal, FrostRecord.enterDefrost, FrostRecord.enter, hs1, hs2, hn]

theorem windowLegal_recoverFrom {f : FrostRecord} {x : Settings} (h : WindowLegal f) :
    WindowLegal (f.recoverFrom x) := by
  obtain ⟨-, -, -, -, he⟩ := h
  simp [WindowLegal, FrostRecord.recoverFrom, FrostRecord.enter, he]
  omega

theorem windowLegal_degradedShed {f : FrostRecord} {x : Settings} (h : WindowLegal f) :
    WindowLegal (f.degradedShed x) := by
  obtain ⟨-, -, -, -, he⟩ := h
  unfold FrostRecord.degradedShed
  split <;> simp_all [WindowLegal, FrostRecord.enter]

theorem windowLegal_degradedIdle {f : FrostRecord} {x : Settings} (h : WindowLegal f) :
    WindowLegal (f.degradedIdle x) := by
  obtain ⟨-, -, -, -, he⟩ := h
  unfold FrostRecord.degradedIdle
  split <;> simp_all [WindowLegal, FrostRecord.enter]

/-- A stage entered with the window it had, from a stage whose window is open or closed alike. -/
theorem windowLegal_enter {f : FrostRecord} {x : Settings} {st : FrostStage} (h : WindowLegal f)
    (hst : WindowShut st ↔ WindowShut f.stage) : WindowLegal (f.enter x st) := by
  obtain ⟨h0, h1, h2⟩ := h
  exact ⟨h0.trans hst.symm, h1, h2⟩

theorem windowLegal_ratioStep {e : FrostEnv} {f : FrostRecord} (h : WindowLegal f) :
    WindowLegal (ratioStep e f).1 := by
  unfold ratioStep learnAfter
  dsimp only
  split
  · split
    · split <;> exact h
    · exact h
  · exact h

theorem windowLegal_enterDegraded {e : FrostEnv} {f : FrostRecord} (h : WindowLegal f) :
    WindowLegal (enterDegraded e f).1 := by
  have hg : WindowLegal { f.zeroCounts with mode := .degraded, icing := 0 } := h
  obtain ⟨h0, h1, h2, h3, h4⟩ := id h
  unfold enterDegraded
  dsimp only
  split
  case h_1 hs => simp [WindowLegal, FrostRecord.zeroCounts, h2, h3, h4, hs]
  case h_2 hs => simp [WindowLegal, FrostRecord.enter, FrostRecord.zeroCounts, h2, h3, h4]
  case h_3 hs => exact hg
  case h_4 =>
    split
    · exact windowLegal_degradedShed hg
    · exact windowLegal_degradedIdle hg

theorem windowLegal_leaveDegraded {e : FrostEnv} {f : FrostRecord} (h : WindowLegal f) :
    WindowLegal (leaveDegraded e f).1 := by
  obtain ⟨h0, h1, h2, h3, h4⟩ := id h
  unfold leaveDegraded
  dsimp only
  split
  case h_1 hs =>
    simp only [hs, reduceCtorEq, or_self, iff_false] at h0
    simp [WindowLegal, FrostRecord.enter, h0, h1, h4]
    omega
  case h_2 hs =>
    simp only [hs, reduceCtorEq, or_self, iff_false] at h0
    simp [WindowLegal, FrostRecord.enter, h0, h1, h4]
    omega
  all_goals exact h

theorem windowLegal_modeStepFrost {e : FrostEnv} {f : FrostRecord} (h : WindowLegal f) :
    WindowLegal (modeStepFrost e f).1 := by
  have hg : WindowLegal { f with timer := min (f.timer + 1) 65535 } := h
  unfold modeStepFrost
  dsimp only
  split
  · split
    · exact windowLegal_enterDegraded hg
    · exact hg
  · split
    · exact hg
    · exact windowLegal_leaveDegraded hg

theorem windowLegal_shedEvent {x : Settings} {f : FrostRecord} (h : WindowLegal f) :
    WindowLegal (shedEvent x f).1 := by
  have hw : f.w ≤ 16 := by obtain ⟨-, h1, -⟩ := h; omega
  unfold shedEvent
  split
  · dsimp only
    obtain ⟨-, -, -, -, he⟩ := h
    split <;> simp_all [WindowLegal, FrostRecord.enter] <;> omega
  · exact windowLegal_enterDefrost h hw

theorem windowLegal_growWindow {x : Settings} {f : FrostRecord} (h : WindowLegal f) (hs : ¬ WindowShut f.stage) :
    WindowLegal (growWindow x f) := by
  obtain ⟨h0, h1, h2, h3, h4⟩ := id h
  have hpos : f.w ≠ 0 := fun hw => hs (h0.mp hw)
  have hst : ¬ (f.stage = .defrost ∨ f.stage = .hold ∨ f.stage = .lock) := hs
  unfold growWindow
  split_ifs
  · refine ⟨⟨fun hw => ?_, fun hc => absurd hc hst⟩, fun _ => ?_, h2, h3, h4⟩ <;> dsimp only at * <;> omega
  · refine ⟨⟨fun hw => ?_, fun hc => absurd hc hst⟩, fun _ => ?_, h2, h3, h4⟩ <;> dsimp only at * <;> omega
  · exact windowLegal_enter h (by simp [WindowShut, hst])

theorem windowLegal_guardRules {e : FrostEnv} {hit : Bool} {p : Nat} {t : Int} {f : FrostRecord} (h : WindowLegal f)
    (hs : ¬ WindowShut f.stage) : WindowLegal (guardRules e hit p t f).1 := by
  have hw : f.w ≤ 16 := by obtain ⟨-, h1, -⟩ := h; omega
  have hopen : ∀ st, ¬ WindowShut st → WindowLegal (f.enter e.settings st) := fun st hst =>
    windowLegal_enter h (by simp [hst, hs])
  unfold guardRules
  split
  · exact windowLegal_enterDefrost h hw
  split
  · split
    · exact hopen _ (by simp [WindowShut])
    · exact h
  split
  · exact windowLegal_shedEvent h
  split
  · exact hopen _ (by simp [WindowShut])
  split
  · exact hopen _ (by simp [WindowShut])
  split
  · exact windowLegal_growWindow h hs
  · exact h

theorem windowLegal_lockRules {e : FrostEnv} {f : FrostRecord} (h : WindowLegal f) : WindowLegal (lockRules e f).1 := by
  have hd : WindowLegal (f.enterDefrost e.settings 2) := windowLegal_enterDefrost h (by decide)
  unfold lockRules
  dsimp only
  split
  · exact hd
  · exact h

theorem windowLegal_normalRules {e : FrostEnv} {hit : Bool} {p : Nat} {f : FrostRecord} (h : WindowLegal f) :
    WindowLegal (normalRules e hit p f).1 := by
  have hz : WindowLegal f.zeroCounts := h
  unfold normalRules
  dsimp only
  split
  case h_1 hs =>
    unfold defrostRules
    split_ifs
    · exact windowLegal_recoverFrom hz
    · have he : WindowLegal (f.zeroCounts.enter e.settings .hold) :=
        windowLegal_enter hz (by simp [WindowShut, FrostRecord.zeroCounts, hs])
      exact he
    · exact hz
  case h_2 hs =>
    unfold holdRules
    split_ifs
    · exact windowLegal_recoverFrom hz
    · exact hz
    · have he : WindowLegal (f.zeroCounts.enter e.settings .lock) :=
        windowLegal_enter hz (by simp [WindowShut, FrostRecord.zeroCounts, hs])
      exact he
    · exact hz
  case h_3 hs => exact windowLegal_lockRules hz
  case h_4 hd hh hl =>
    exact windowLegal_guardRules (f := guardCounts _ f) h (by
      rintro (hs | hs | hs)
      exacts [hd hs, hh hs, hl hs])

theorem windowLegal_degradedRules {e : FrostEnv} {f : FrostRecord} (h : WindowLegal f) :
    WindowLegal (degradedRules e f).1 := by
  unfold degradedRules
  split
  · split
    · exact windowLegal_degradedShed h
    · exact h
  · split_ifs
    · exact windowLegal_degradedIdle h
    · exact windowLegal_enterDefrost h (by decide)
    · exact h
  · split_ifs
    · exact windowLegal_degradedShed h
    · exact windowLegal_degradedIdle h
    · exact h
  · exact windowLegal_lockRules h
  · exact h

theorem windowLegal_stageRules {e : FrostEnv} {hit : Bool} {p : Nat} {f : FrostRecord} (h : WindowLegal f) :
    WindowLegal (stageRules e hit p f).1 := by
  unfold stageRules
  split
  · exact windowLegal_normalRules h
  · exact windowLegal_degradedRules h

/-- R79: an evaluation keeps the window and the threshold legal. -/
theorem windowLegal_evalFrost {e : FrostEnv} {f : FrostRecord} (h : WindowLegal f) :
    WindowLegal (evalFrost e f).1 := by
  have hr : WindowLegal (ratioStep e { f with tg := guardOf e.chans.rhExt }).1 := windowLegal_ratioStep h
  exact windowLegal_stageRules (windowLegal_modeStepFrost hr)

end Sys2Proof.Proofs
end

section
/-! SUPPORT. Proofs: the allowance, the preheater and the record that a frost evaluation hands on. -/

namespace Sys2Proof.Proofs

open Sys2Proof Sys2Proof.Machine

/-! ### The allowance in use through a frost evaluation (R79) -/

/-- The allowance in use changes only with the stage or the window. -/
def AllowanceKept (f g : FrostRecord) : Prop := g.stage = f.stage → g.w = f.w → g.allowance = f.allowance

theorem allowanceKept_of_stage {f g : FrostRecord} (h : g.stage ≠ f.stage) : AllowanceKept f g :=
  fun hst => absurd hst h

theorem allowanceKept_of_eq {f g : FrostRecord} (h : g.allowance = f.allowance) : AllowanceKept f g := fun _ _ => h

theorem allowanceKept_shedEvent {x : Settings} {f : FrostRecord} (h : f.stage ≠ .defrost) :
    AllowanceKept f (shedEvent x f).1 := by
  unfold shedEvent
  split
  · dsimp only
    split
    · exact allowanceKept_of_eq rfl
    · exact allowanceKept_of_stage (Ne.symm ‹_›)
  · exact allowanceKept_of_stage (Ne.symm h)

theorem allowanceKept_growWindow {x : Settings} {f : FrostRecord} (h : f.stage ≠ .idle) :
    AllowanceKept f (growWindow x f) := by
  unfold growWindow
  split_ifs
  · exact allowanceKept_of_eq rfl
  · exact allowanceKept_of_eq rfl
  · exact allowanceKept_of_stage (Ne.symm h)

theorem allowanceKept_guardRules {e : FrostEnv} {hit : Bool} {p : Nat} {t : Int} {f : FrostRecord}
    (h : f.stage ≠ .defrost) : AllowanceKept f (guardRules e hit p t f).1 := by
  unfold guardRules
  split
  · exact allowanceKept_of_stage (Ne.symm h)
  split
  next hidle =>
    split
    · exact allowanceKept_of_stage (by rw [hidle]; exact nofun)
    · exact allowanceKept_of_eq rfl
  next hidle =>
  split
  · exact allowanceKept_shedEvent h
  split
  next hw => exact allowanceKept_of_stage (Ne.symm hidle)
  split
  next hw => exact allowanceKept_of_stage (by rw [hw.1]; exact nofun)
  split
  · exact allowanceKept_growWindow hidle
  · exact allowanceKept_of_eq rfl

theorem allowanceKept_lockRules {e : FrostEnv} {f : FrostRecord} (h : f.stage = .lock) :
    AllowanceKept f (lockRules e f).1 := by
  unfold lockRules
  dsimp only
  split
  · exact allowanceKept_of_stage (by rw [h]; exact nofun)
  · exact allowanceKept_of_eq rfl

theorem allowanceKept_normalRules {e : FrostEnv} {hit : Bool} {p : Nat} {f : FrostRecord} :
    AllowanceKept f (normalRules e hit p f).1 := by
  unfold normalRules
  dsimp only
  split
  case h_1 hs =>
    unfold defrostRules
    split_ifs
    · exact allowanceKept_of_stage (by rw [hs]; exact nofun)
    · exact allowanceKept_of_stage (by rw [hs]; exact nofun)
    · exact allowanceKept_of_eq rfl
  case h_2 hs =>
    unfold holdRules
    split_ifs
    · exact allowanceKept_of_stage (by rw [hs]; exact nofun)
    · exact allowanceKept_of_eq rfl
    · exact allowanceKept_of_stage (by rw [hs]; exact nofun)
    · exact allowanceKept_of_eq rfl
  case h_3 hs => exact allowanceKept_lockRules (f := f.zeroCounts) hs
  case h_4 hd _ _ => exact allowanceKept_guardRules (f := guardCounts _ f) hd

theorem allowanceKept_degradedRules {e : FrostEnv} {f : FrostRecord} : AllowanceKept f (degradedRules e f).1 := by
  unfold degradedRules FrostRecord.degradedShed FrostRecord.degradedIdle
  split
  case h_1 hs => split <;> simp [AllowanceKept, hs, FrostRecord.enter]
  case h_2 hs => split_ifs <;> simp_all [AllowanceKept, FrostRecord.enter, FrostRecord.enterDefrost]
  case h_3 hs => split_ifs <;> simp_all [AllowanceKept, FrostRecord.enter]
  case h_4 hs => exact allowanceKept_lockRules hs
  case h_5 => exact allowanceKept_of_eq rfl

/-- R80: an evaluation that enters DEGRADED, followed by its stage rules. -/
theorem allowanceKept_enterDegraded {e : FrostEnv} {f : FrostRecord} :
    AllowanceKept f (degradedRules e (enterDegraded e f).1).1 := by
  cases hs : f.stage <;> cases hc : coldCondition e <;>
    simp [AllowanceKept, enterDegraded, degradedRules, lockRules, FrostRecord.degradedShed, FrostRecord.degradedIdle,
      FrostRecord.zeroCounts, FrostRecord.enter, hs, hc] <;>
    split_ifs <;> simp [FrostRecord.enterDefrost, FrostRecord.enter]

theorem warm_guardCounts_fresh {t : Int} {f : FrostRecord} (h : f.warm = 0) : (guardCounts t f).warm ≤ 1 := by
  simp only [guardCounts, countUp, h]
  split <;> omega

/-- R72, R82: what the guarding rules leave of a RECOVER just entered: RECOVER itself, DEFROST, or SHED with a window that
the shed event has halved. -/
theorem guardRules_freshRecover {e : FrostEnv} {hit : Bool} {p : Nat} {t : Int} {f : FrostRecord}
    (hs : f.stage = .recover) (hw : f.warm ≤ 1) :
    (guardRules e hit p t f).1.stage = .recover ∨ (guardRules e hit p t f).1.stage = .defrost ∨
      ((guardRules e hit p t f).1.stage = .shed ∧ (guardRules e hit p t f).1.w ≠ f.w) := by
  have hgrow : ¬ 60 ≤ f.warm := by omega
  unfold guardRules
  split
  · exact Or.inr (Or.inl rfl)
  simp only [hs, reduceCtorEq, if_false, false_and, true_and, hgrow]
  split
  · unfold shedEvent
    split
    · refine Or.inr (Or.inr ?_)
      dsimp only
      rw [if_neg (by rw [hs]; exact nofun)]
      exact ⟨rfl, by omega⟩
    · exact Or.inr (Or.inl rfl)
  · exact Or.inl hs

/-- R82: an evaluation that leaves DEGRADED, followed by its stage rules. -/
theorem allowanceKept_leaveDegraded {e : FrostEnv} {hit : Bool} {p : Nat} {f : FrostRecord} :
    AllowanceKept f (normalRules e hit p (leaveDegraded e f).1).1 := by
  have hrecover : ∀ g : FrostRecord, (f.stage = .idle ∨ f.stage = .shed) → g.stage = .recover → g.warm = 0 → g.w = f.w →
      AllowanceKept f (normalRules e hit p g).1 := by
    intro g hf hg hwarm hw
    have hn : (normalRules e hit p g).1 = (guardRules e hit p e.chans.tExh.value (guardCounts e.chans.tExh.value g)).1 := by
      simp [normalRules, hg]
    rw [hn]
    intro hst hwin
    rcases guardRules_freshRecover (e := e) (hit := hit) (p := p) (t := e.chans.tExh.value)
      (f := guardCounts e.chans.tExh.value g) hg (warm_guardCounts_fresh hwarm) with h | h | ⟨h, hne⟩
    · rw [h] at hst; rcases hf with hf | hf <;> rw [hf] at hst <;> exact nomatch hst
    · rw [h] at hst; rcases hf with hf | hf <;> rw [hf] at hst <;> exact nomatch hst
    · exact absurd (hwin.trans hw.symm) hne
  have hsame : ∀ g : FrostRecord, g.stage = f.stage → g.w = f.w → g.allowance = f.allowance →
      AllowanceKept f (normalRules e hit p g).1 := by
    intro g hst hw ha
    unfold AllowanceKept
    rw [← hst, ← hw, ← ha]
    exact allowanceKept_normalRules
  unfold leaveDegraded
  dsimp only
  split
  case h_1 hs => exact hrecover _ (Or.inl hs) rfl rfl rfl
  case h_2 hs => exact hrecover _ (Or.inr hs) rfl rfl rfl
  all_goals exact hsame _ rfl rfl rfl

theorem ratioStep_stage (e : FrostEnv) (f : FrostRecord) :
    (ratioStep e f).1.stage = f.stage ∧ (ratioStep e f).1.w = f.w ∧ (ratioStep e f).1.allowance = f.allowance ∧
      (ratioStep e f).1.mode = f.mode := by
  unfold ratioStep learnAfter
  dsimp only
  split
  · split
    · split <;> exact ⟨rfl, rfl, rfl, rfl⟩
    · exact ⟨rfl, rfl, rfl, rfl⟩
  · exact ⟨rfl, rfl, rfl, rfl⟩

theorem enterDegraded_mode (e : FrostEnv) (f : FrostRecord) : (enterDegraded e f).1.mode = .degraded := by
  unfold enterDegraded FrostRecord.degradedShed FrostRecord.degradedIdle
  dsimp only
  split
  case h_4 => split <;> dsimp only <;> split <;> rfl
  all_goals rfl

theorem leaveDegraded_mode (e : FrostEnv) (f : FrostRecord) : (leaveDegraded e f).1.mode = .normal := by
  unfold leaveDegraded; dsimp only; split <;> rfl

theorem allowanceKept_rules {e : FrostEnv} {hit : Bool} {p : Nat} {f : FrostRecord} :
    AllowanceKept f (stageRules e hit p (modeStepFrost e f).1).1 := by
  have hn : ∀ g : FrostRecord, g.mode = .normal → (stageRules e hit p g).1 = (normalRules e hit p g).1 := by
    intro g hg; simp [stageRules, hg]
  have hd : ∀ g : FrostRecord, g.mode = .degraded → (stageRules e hit p g).1 = (degradedRules e g).1 := by
    intro g hg; simp [stageRules, hg]
  unfold modeStepFrost
  dsimp only
  split
  case h_1 hm =>
    split
    · rw [hd _ (enterDegraded_mode ..)]
      exact allowanceKept_enterDegraded (f := { f with timer := min (f.timer + 1) 65535 })
    · rw [hn { f with timer := min (f.timer + 1) 65535 } hm]
      exact allowanceKept_normalRules (f := { f with timer := min (f.timer + 1) 65535 })
  case h_2 hm =>
    split
    · rw [hd { f with timer := min (f.timer + 1) 65535 } hm]
      exact allowanceKept_degradedRules (f := { f with timer := min (f.timer + 1) 65535 })
    · rw [hn _ (leaveDegraded_mode ..)]
      exact allowanceKept_leaveDegraded (f := { f with timer := min (f.timer + 1) 65535 })

/-- R79: an evaluation changes the allowance in use only with the stage or the window. -/
theorem allowanceKept_evalFrost (e : FrostEnv) (f : FrostRecord) : AllowanceKept f (evalFrost e f).1 := by
  obtain ⟨hst, hw, ha, -⟩ := ratioStep_stage e { f with tg := guardOf e.chans.rhExt }
  have h : AllowanceKept (ratioStep e { f with tg := guardOf e.chans.rhExt }).1 (evalFrost e f).1 :=
    allowanceKept_rules
  unfold AllowanceKept at h ⊢
  rwa [hst, hw, ha] at h

/-! ### The preheater after a frost evaluation (R83, R84) -/

theorem interlock_iff {stage : FrostStage} {sup : FanRecord} {tPre : ChannelRecord} {low fitted : Bool} {block : Nat} :
    interlock stage sup tPre low fitted block = true ↔
      (stage = .watch ∨ stage = .shed ∨ stage = .recover) ∧ sup.running = true ∧ 150 ≤ sup.qMeas ∧
        tPre.validity = .valid ∧ low = false ∧ fitted = true ∧ block = 0 := by
  simp [interlock, and_assoc, or_assoc]

theorem setDuty_output {f : FrostRecord} {p : Nat} (h : (f.setDuty p).output = true) : p ≠ 0 := by
  rintro rfl
  simp [FrostRecord.setDuty] at h

/-- R84: the interlock tested between evaluations leaves a legal preheater. -/
theorem preheatLegal_check (s : State) (h : s.frost.output = true → s.frost.duty ≠ 0) :
    PreheatLegal (preheatCheck s) := by
  unfold preheatCheck
  split
  next hi => exact ⟨fun _ => interlock_iff.mp hi, h⟩
  · exact ⟨fun hd => absurd rfl hd, fun ho => absurd rfl (setDuty_output ho)⟩

/-- R63, step 5: an evaluation leaves a legal preheater. -/
theorem preheatLegal_evaluated (s : State) : PreheatLegal (s.setFrost (evalFrost (frostEnv s) s.frost).1) := by
  have key : ∀ f : FrostRecord, PreheatLegal (s.setFrost (preheatStep (frostEnv s) f).1) := by
    intro f
    unfold preheatStep
    dsimp only
    split
    next hi => exact ⟨fun _ => interlock_iff.mp hi, setDuty_output⟩
    · exact ⟨fun hd => absurd rfl hd, fun ho => absurd rfl (setDuty_output ho)⟩
  exact key _

/-! ### What a frost record's hand-over brings -/

/-- What a frost record that takes its place has kept: a legal window, the allowance of its stage, a legal preheater. -/
structure FrostMoves (s : State) (f : FrostRecord) : Prop where
  window : WindowLegal s.frost → WindowLegal f
  allowance : AllowanceKept s.frost f
  preheat : PreheatLegal (s.setFrost f)

theorem frostMoves_evalFrost (s : State) : FrostMoves s (evalFrost (frostEnv s) s.frost).1 :=
  ⟨windowLegal_evalFrost, allowanceKept_evalFrost _ _, preheatLegal_evaluated s⟩

/-- R73, R76, R77, R78: the record of a defrost that a request enters. -/
theorem frostMoves_requestDefrost {s : State} {n : Nat} (hs : s.frost.stage ≠ .defrost)
    (hn : WindowLegal s.frost → n ≤ 16) : FrostMoves s ((s.frost.enterDefrost s.settings n).setDuty 0) where
  window h := by
    have hd : WindowLegal (s.frost.enterDefrost s.settings n) := windowLegal_enterDefrost h (hn h)
    exact hd
  allowance := allowanceKept_of_stage (Ne.symm hs)
  preheat := ⟨fun hd => absurd rfl hd, fun ho => absurd rfl (setDuty_output ho)⟩

end Sys2Proof.Proofs
end

section
/-! SUPPORT. Proofs: every step is a chain of the part's own operations, so what each operation keeps, every step keeps. -/

namespace Sys2Proof.Proofs

open Sys2Proof Sys2Proof.Machine

/-! ### Frames of the operations -/

theorem updateSupplyLow_eq (s : State) :
    updateSupplyLow s =
      { s with
        seq := (updateSupplyLow s).seq
        events := (updateSupplyLow s).events
        frost :=
          { s.frost with
            duty := (updateSupplyLow s).frost.duty
            output := (updateSupplyLow s).frost.output } } := by
  unfold updateSupplyLow
  dsimp only
  split
  · rfl
  · rw [preheatCheck_eq]; rfl

/-- A filter record that has aged at its ceiling (R98). -/
structure FilterAges (f g : FilterRecord) : Prop where
  ceiling : g.ceiling = f.ceiling
  rank : f.state.rank ≤ g.state.rank
  dose : f.dose ≤ g.dose
  hours : f.hours ≤ g.hours

/-- The transaction of a line record polls an address of 1..30. -/
def PollsLegal (l : LineRecord) : Prop := ∀ x ∈ l.txn.toList, 1 ≤ x.address ∧ x.address ≤ 30

/-- A line record whose transaction polls a legal address where the table and the record before it were legal. -/
def LineMoves (s : State) (l : LineRecord) : Prop := NodesLegal s.nodes → PollsLegal s.line → PollsLegal l

/-- A store whose image and snapshot hold legal rows where the table and the store before it did. -/
def StoreMoves (s : State) (x : Store) : Prop :=
  NodesLegal s.nodes → ImageLegal s.store.image → ImageLegal s.store.writing → ImageLegal x.image ∧ ImageLegal x.writing

/-- A session with the room, level, urgency and hold that it had. -/
structure SameBoost (x y : Session) : Prop where
  room : y.room = x.room
  level : y.level = x.level
  urgency : y.urgency = x.urgency
  held : y.held = x.held

theorem SameBoost.trans {x y z : Session} (h : SameBoost x y) (h' : SameBoost y z) : SameBoost x z :=
  ⟨h'.room.trans h.room, h'.level.trans h.level, h'.urgency.trans h.urgency, h'.held.trans h.held⟩

/-! ### What each operation keeps -/

/-- A property that each operation inside the part keeps: all that an owner of a request, or a row that the link does not
see, is made of. An operation that the property does not read keeps it by unfolding. -/
structure Inside (P : State → Prop) : Prop where
  events : ∀ s v, P s → P { s with events := v } := by intros; assumption
  mask : ∀ s v, P s → P { s with mask := v } := by intros; assumption
  rooms : ∀ s v, P s → P { s with rooms := v } := by intros; assumption
  /-- R1, R2: the working copy of a scan, and what a scan's start takes. -/
  scan : ∀ s w n c a b, P s →
    P { s with seq := { s.seq with working := w, next := n, cal := c, faultRaised := a, restoredRaised := b } } := by
      intros; assumption
  supplyLow : ∀ s, P s → P (updateSupplyLow s) := by intro s h; rw [updateSupplyLow_eq]; exact h
  /-- R18 to R20: the tach input, its timer and the applied duty. -/
  tach : ∀ s st n applied absence seen count span, P s → P (s.setFan st
    { s.fans.get st with
      n := n, applied := applied, absence := absence, tachSeen := seen, tachCount := count, tachSpan := span }) := by
        intro s st; cases st <;> intros <;> assumption
  /-- R20: the absence timers under a changed duty_min. -/
  absences : ∀ s a b, P s →
    P { s with fans := ⟨{ s.fans.supply with absence := a }, { s.fans.extract with absence := b }⟩ } := by
      intros; assumption
  estimate : ∀ st s, P s → P (formEstimate st s) := by intro st s h; rw [formEstimate_eq]; cases st <;> exact h
  handOn : ∀ s st f es b, HandsOn s st f → P s → P (handOn st f es b s) := by
    intro s st f es b _ h; rw [handOn_eq]; exact h
  /-- R43: a write that leaves the BOOST, AIRING and FALLBACK places. -/
  writeDemand : ∀ s f, (∀ d, (f d).boost = d.boost ∧ (f d).airing = d.airing ∧ (f d).fallback = d.fallback) → P s →
    P (writeDemand f s) := by intros; assumption
  openSession : ∀ s room t u, s.session room = none → room ≤ 6 → P s → P (openSession room t u s) := by intros; assumption
  closeSession : ∀ s room why, P s → P (closeSession room why s) := by intros; assumption
  /-- A session replaced at its level, urgency and hold. -/
  putSession : ∀ s x y, s.session x.room = some x → SameBoost x y → P s → P (putSession y s) := by intros; assumption
  sampleSession : ∀ s x rh, s.session x.room = some x → P s → P (sampleSession rh x s) := by
    intro s x rh _ h; unfold sampleSession relevel; dsimp only; split <;> exact h
  /-- A row changed at its address and room. -/
  putRow : ∀ s p r r', rowAt s.nodes p = some r → r'.address = r.address → r'.room = r.room → P s →
    P (putRow p r' s) := by intros; assumption
  /-- A row created at an empty position, its address and room held by none. -/
  addRow : ∀ s p r, 1 ≤ p → p ≤ 6 → rowAt s.nodes p = none → rowOf s.nodes r.address = none →
    findRow s.nodes (fun r' => r'.room == r.room) = none → (TablesLegal s → 1 ≤ r.address ∧ r.address ≤ 30) →
    1 ≤ r.room → r.room ≤ 6 → P s → P (Machine.putRow p r s) := by intros; assumption
  dropRow : ∀ s p, P s → P { s with nodes := setRow s.nodes p none } := by intros; assumption
  line : ∀ s l, LineMoves s l → P s → P (s.setLine l) := by intros; assumption
  handFrost : ∀ s f es, FrostMoves s f → P s → P (handFrost f es s) := by
    intro s f es _ h; unfold Machine.handFrost resolveIf; rw [raiseAll_eq]; split <;> exact h
  /-- R68: a learn begun. -/
  learn : ∀ s a n m, P s → P (s.setFrost { s.frost with learnActive := a, learnCount := n, learnSum := m }) := by
    intros; assumption
  /-- R83: the preheater output and its window. -/
  output : ∀ s b ms, (b = true → s.frost.duty ≠ 0) → P s →
    P (s.setFrost { s.frost with output := b, windowMs := ms }) := by intros; assumption
  filterRecord : ∀ s st g, FilterAges (s.filters.get st) g → P s → P (s.setFilter st g) := by intros; assumption
  formCeiling : ∀ st s, P s → P (formCeiling st s) := by
    intro st s h; unfold Machine.formCeiling; dsimp only; split <;> exact h
  store : ∀ s x, StoreMoves s x → P s → P (s.setStore x) := by intros; assumption
  /-- Settings that no target and no interlock reads. -/
  settings : ∀ s x, x.qRated = s.settings.qRated → x.qMinRun = s.settings.qMinRun → x.qQuiet = s.settings.qQuiet →
    x.preheatFitted = s.settings.preheatFitted → P s → P { s with settings := x } := by intros; assumption
  /-- R62: settings that start a resolution. -/
  resettle : ∀ s x, x.preheatFitted = s.settings.preheatFitted → P s → P (resolve { s with settings := x }) := by
    intros; assumption
  /-- R86: PREHEAT_FITTED, which drops the preheater where it is cleared. -/
  refit : ∀ s x, x.qRated = s.settings.qRated → x.qMinRun = s.settings.qMinRun → x.qQuiet = s.settings.qQuiet → P s →
    P (paramEffect .preheatFitted { s with settings := x }) := by
      intro s x _ _ _ h; unfold paramEffect; dsimp only; split <;> exact h
  /-- The mode record's timers. -/
  modeTimers : ∀ s m, m.mode = s.mode.mode → m.nextAiring.isSome = s.mode.nextAiring.isSome →
    (0 < m.airing ↔ 0 < s.mode.airing) → P s → P { s with mode := m } := by intros; assumption
  changeMode : ∀ s m, m.inStandby = false → s.mode.mode.inStandby = false → P s → P (changeMode m s) := by
    intros; assumption
  enterEntry : ∀ s, s.mode.mode.inStandby = false → P s → P (holdSessions (Machine.changeMode .standbyEntry s)) := by
    intros; assumption
  leaveEntry : ∀ s m, m.inStandby = false → s.mode.mode = .standbyEntry → P s →
    P (unholdSessions (Machine.changeMode m s)) := by intros; assumption
  beginStandby : ∀ s, s.mode.mode = .standbyEntry → P s → P (beginStandby s) := by intros; assumption
  leaveStandby : ∀ s m, m.inStandby = false → s.mode.mode = .standby → P s → P (leaveStandby m s) := by
    intro s m _ _ h; unfold Machine.leaveStandby; dsimp only; split <;> exact h
  startBurst : ∀ s, s.mode.mode = .standby → P s → P (startBurst s) := by intros; assumption
  endBurst : ∀ s, P s → P (endBurst s) := by intros; assumption
  superv : ∀ s v, (v.state = .lost ↔ s.superv.state = .lost) → P s → P { s with superv := v } := by intros; assumption
  /-- R151, R154: the host is no longer LOST, and its FALLBACK entry is gone. -/
  endLoss : ∀ s v, v.state ≠ .lost → P s →
    P { Machine.writeDemand (fun d => { d with fallback := none }) s with superv := v } := by intros; assumption
  declareLost : ∀ s, P s → P (declareLost s) := by intros; assumption

namespace Inside

variable {P : State → Prop}

/-! ### Events, rooms and sessions -/

theorem raise (K : Inside P) {s : State} (e : Event) (h : P s) : P (raise e s) := K.events s _ h

theorem raiseIf (K : Inside P) {s : State} (b : Bool) (e : Event) (h : P s) : P (raiseIf b e s) := K.events s _ h

theorem raiseAll (K : Inside P) {s : State} (es : List Event) (h : P s) : P (raiseAll es s) := by
  rw [raiseAll_eq]; exact K.events s _ h

theorem setRoom (K : Inside P) {s : State} (room : Nat) (r : RoomRecord) (h : P s) : P (s.setRoom room r) :=
  K.rooms s _ h

end Inside

theorem session_room {s : State} {room : Nat} {x : Session} (h : s.session room = some x) : x.room = room := by
  simpa using List.find?_some h

/-- A session found for a room is the one found for its own room. -/
theorem session_self {s : State} {room : Nat} {x : Session} (h : s.session room = some x) :
    s.session x.room = some x := by
  rw [session_room h]; exact h

/-- A room number out of range names an unbound room. -/
theorem room_le_of_bound {s : State} {room : Nat} (h : (s.room room).bound = true) : room ≤ 6 := by
  by_contra hlt
  have hnone : s.rooms[room]? = none := by simp; omega
  simp [State.room, hnone, RoomRecord.unbound] at h

namespace Inside

variable {P : State → Prop}

theorem sensingLost (K : Inside P) {s : State} (room : Nat) (gone : Bool) (h : P s) : P (sensingLost room gone s) := by
  unfold Machine.sensingLost
  split
  · exact h
  next x hx =>
    have hkeep : SameBoost x x.loseSensing := by unfold Session.loseSensing; split <;> constructor <;> rfl
    exact K.putSession s x _ (session_self hx) (hkeep.trans ⟨rfl, rfl, rfl, rfl⟩) h

theorem roomReturned (K : Inside P) {s : State} (room : Nat) (h : P s) : P (roomReturned room s) := by
  unfold Machine.roomReturned
  split
  · exact h
  next x hx =>
    split
    · exact h
    · exact K.putSession s x _ (session_self hx) ⟨rfl, rfl, rfl, rfl⟩ h

theorem newSample (K : Inside P) {s : State} (room rh : Nat) (temp : Option Int) (h : P s) :
    P (newSample room rh temp s) := by
  unfold Machine.newSample
  split
  next hb =>
    have ha := K.setRoom room (addSample rh temp (s.room room)) h
    dsimp only
    split
    next x hx => exact K.sampleSession _ x rh (session_self hx) ha
    next hx =>
      unfold judgeTriggers
      dsimp only
      split_ifs
      · exact K.openSession _ _ _ _ hx (room_le_of_bound hb) ha
      · exact K.openSession _ _ _ _ hx (room_le_of_bound hb) ha
      · exact ha
  · exact h

theorem callArrival (K : Inside P) {s : State} (room : Nat) (h : P s) : P (callArrival room s) := by
  unfold Machine.callArrival
  split
  next hb =>
    split
    next hx => exact K.openSession _ _ _ _ hx (room_le_of_bound hb) h
    next x hx =>
      split
      · exact h
      · split
        · exact K.putSession s x _ (session_self hx) ⟨rfl, rfl, rfl, rfl⟩ h
        · exact K.closeSession _ _ _ h
        · exact h
  · exact h

theorem room0Sample (K : Inside P) {s : State} (h : P s) : P (room0Sample s) := by
  unfold Machine.room0Sample
  split
  · exact K.newSample _ _ _ h
  · exact K.setRoom _ _ h


end Inside

/-! ### The session step (R134) -/

theorem stepCall_boost (x : Session) : SameBoost x (stepCall x).1 := by
  unfold stepCall
  split
  · split_ifs <;> constructor <;> rfl
  · constructor <;> rfl

theorem stepOverrun_boost (b : Bool) (x : Session) : SameBoost x (stepOverrun b x).1 := by
  unfold stepOverrun
  split
  · split_ifs <;> constructor <;> rfl
  · constructor <;> rfl

theorem stepOpening_boost (q t : Nat) (x : Session) : SameBoost x (stepOpening q t x) := by
  unfold stepOpening; split <;> constructor <;> rfl

theorem stepShort_boost (t : Nat) (x : Session) : SameBoost x (stepShort t x).1 := by
  unfold stepShort; dsimp only; split_ifs <;> constructor <;> rfl

namespace Inside

variable {P : State → Prop}

theorem stepSession (K : Inside P) {s : State} {x : Session} (hx : s.session x.room = some x) (h : P s) :
    P (stepSession x s).1 := by
  have haged : SameBoost x { x with age := x.age + 1 } := ⟨rfl, rfl, rfl, rfl⟩
  have hrun := (haged.trans (stepCall_boost _)).trans (stepOverrun_boost (stepCall { x with age := x.age + 1 }).2 _)
  unfold Machine.stepSession
  dsimp only
  split
  · exact K.closeSession _ _ _ (K.putSession s x _ hx haged h)
  · split
    · exact K.closeSession _ _ _ (K.putSession s x _ hx hrun h)
    · exact K.raiseIf _ _ (K.putSession s x _ hx ((hrun.trans (stepOpening_boost _ _ _)).trans (stepShort_boost _ _)) h)

theorem stepRoom (K : Inside P) (acc : State × List SessionMark) (room : Nat) (h : P acc.1) :
    P (stepRoom acc room).1 := by
  unfold Machine.stepRoom
  split
  next x hx => exact K.stepSession (session_self hx) h
  · exact h

theorem sessionStep (K : Inside P) {s : State} (h : P s) : P (sessionStep s).1 := by
  have hfold : ∀ (rooms : List Nat) (acc : State × List SessionMark), P acc.1 →
      P (rooms.foldl Machine.stepRoom acc).1 := by
    intro rooms
    induction rooms with
    | nil => exact fun _ hacc => hacc
    | cons room rooms ih => exact fun acc hacc => ih _ (K.stepRoom acc room hacc)
  exact K.rooms _ _ (hfold _ (s, []) h)

end Inside

/-! ### The node table and the line -/

theorem mem_rows {t : NodeTable} {p : Nat} {r : NodeRow} (h : rowAt t p = some r) : r ∈ t.toList.filterMap id := by
  unfold rowAt at h
  split at h
  · exact nomatch h
  · simp only [Option.join_eq_some_iff, Vector.getElem?_eq_some_iff] at h
    obtain ⟨hlt, hget⟩ := h
    rw [List.mem_filterMap]
    exact ⟨some r, hget ▸ by simp, rfl⟩

theorem positions_range {p : Nat} (h : p ∈ positions) : 1 ≤ p ∧ p ≤ 6 := by
  simp [positions] at h; omega

theorem emptyPos_some {t : NodeTable} {p : Nat} (h : emptyPos t = some p) : 1 ≤ p ∧ p ≤ 6 ∧ rowAt t p = none := by
  obtain ⟨h1, h6⟩ := positions_range (List.mem_of_find?_eq_some h)
  exact ⟨h1, h6, by simpa using List.find?_some h⟩

theorem freeRoom_some {t : NodeTable} {room : Nat} (h : freeRoom t = some room) :
    1 ≤ room ∧ room ≤ 6 ∧ findRow t (fun r => r.room == room) = none := by
  obtain ⟨h1, h6⟩ := positions_range (List.mem_of_find?_eq_some h)
  exact ⟨h1, h6, by simpa using List.find?_some h⟩

theorem lineMoves_of_txn {s : State} {l : LineRecord} (h : l.txn = s.line.txn) : LineMoves s l := by
  intro _ hp
  unfold PollsLegal at *
  rwa [h]

theorem lineMoves_of_none {s : State} {l : LineRecord} (h : l.txn = none) : LineMoves s l := by
  intro _ _
  simp [PollsLegal, h]

theorem lineMoves_of_address {s : State} {l : LineRecord} {x y : Txn} (hx : s.line.txn = some x) (hy : l.txn = some y)
    (ha : y.address = x.address) : LineMoves s l := by
  intro _ hp
  simp only [PollsLegal, hx, hy, Option.mem_toList, Option.some.injEq, forall_eq'] at hp ⊢
  rwa [ha]

theorem lineMoves_visitRows (first : Nat) (s : State) : LineMoves s (visitRows first s).line := by
  unfold visitRows
  split
  next p r hfind =>
    obtain ⟨q, -, hq⟩ := List.exists_of_findSome?_eq_some hfind
    obtain ⟨r', hr, hite⟩ := Option.bind_eq_some_iff.mp hq
    split at hite
    · cases hite
      rintro ⟨-, hlegal⟩ _
      obtain ⟨h1, h30, -⟩ := hlegal r (mem_rows hr)
      simpa [PollsLegal, Txn.start] using ⟨h1, h30⟩
    · exact nomatch hite
  · exact lineMoves_of_none rfl

theorem lineMoves_visitAddresses (first : Nat) (s : State) : LineMoves s (visitAddresses first s).line := by
  unfold visitAddresses
  split
  next a hfind =>
    have hmem := List.mem_of_find?_eq_some hfind
    have hok := List.find?_some hfind
    simp only [List.mem_range, Bool.and_eq_true, decide_eq_true_eq] at hmem hok
    intro _ _
    simp only [PollsLegal, Txn.start, State.setLine_line, Option.mem_toList, Option.some.injEq, forall_eq']
    omega
  · exact lineMoves_of_none rfl

theorem lineMoves_proceed (s : State) : LineMoves s (proceed s).line := by
  unfold proceed
  split
  · exact lineMoves_visitRows _ _
  · exact lineMoves_visitRows _ _
  · exact lineMoves_visitAddresses _ _
  · exact lineMoves_of_txn rfl

theorem lineMoves_setLine {s : State} {l l' : LineRecord} (hl : l.txn = s.line.txn) (h : LineMoves (s.setLine l) l') :
    LineMoves s l' :=
  fun hn hp => h hn (lineMoves_of_txn hl hn hp)

theorem lineMoves_jobStart (s : State) : LineMoves s (jobStart s).line := by
  unfold jobStart
  split_ifs
  · exact lineMoves_setLine (by rfl) (lineMoves_visitRows _ _)
  · exact lineMoves_setLine (by rfl) (lineMoves_visitRows _ _)
  · exact lineMoves_setLine (by rfl) (lineMoves_visitAddresses _ _)
  all_goals exact lineMoves_of_txn rfl

namespace Inside

variable {P : State → Prop}

theorem proceed (K : Inside P) {s : State} (h : P s) : P (proceed s) := by
  rw [proceed_eq]; exact K.line s _ (lineMoves_proceed s) h

theorem jobStart (K : Inside P) {s : State} (h : P s) : P (jobStart s) := by
  rw [jobStart_eq]; exact K.line s _ (lineMoves_jobStart s) h

theorem bumpNodes (K : Inside P) {s : State} (h : P s) : P (bumpNodes s) := K.line s _ (lineMoves_of_txn rfl) h

theorem removeRow (K : Inside P) {s : State} (p : Nat) (r : NodeRow) (h : P s) : P (removeRow p r s) :=
  K.sensingLost _ _ (K.setRoom _ _ (K.bumpNodes (K.dropRow s p h)))

theorem handReading (K : Inside P) {s : State} (room : Nat) (d : Report) (h : P s) : P (handReading room d s) := by
  unfold Machine.handReading
  split
  · exact K.setRoom _ _ h
  · exact K.newSample _ _ _ h

theorem handCall (K : Inside P) {s : State} (room : Nat) (d : Report) (h : P s) : P (handCall room d s) := by
  unfold Machine.handCall
  split
  · exact K.raise _ (K.callArrival _ h)
  · exact h

end Inside

theorem roomReturned_nodes (room : Nat) (s : State) : (roomReturned room s).nodes = s.nodes := by
  unfold roomReturned
  split
  · rfl
  · split <;> rfl

theorem handReading_nodes (room : Nat) (d : Report) (s : State) : (handReading room d s).nodes = s.nodes := by
  unfold handReading
  split
  · rfl
  · rw [newSample_eq]

theorem rowAt_putRow {p : Nat} {r r' : NodeRow} {s : State} (h : rowAt s.nodes p = some r') :
    rowAt (putRow p r s).nodes p = some r := by
  unfold rowAt at h ⊢
  split at h
  · exact nomatch h
  next hp =>
    rw [if_neg hp]
    simp only [Option.join_eq_some_iff, Vector.getElem?_eq_some_iff] at h
    obtain ⟨hlt, -⟩ := h
    simp [setRow, hlt]

namespace Inside

variable {P : State → Prop}

theorem rowReply (K : Inside P) {s : State} {p : Nat} {r : NodeRow} (d : Report) (hr : rowAt s.nodes p = some r)
    (h : P s) : P (rowReply p r d s) := by
  have hread : ∀ r' : NodeRow, (readRow d r').address = r'.address ∧ (readRow d r').room = r'.room := by
    intro r'; unfold readRow; split <;> exact ⟨rfl, rfl⟩
  obtain ⟨hadr, hroom⟩ := hread { r with missed := 0, presence := .present, seqBit := !r.seqBit }
  have ha := K.putRow s p r _ hr hadr hroom h
  have hat := rowAt_putRow (r := readRow d { r with missed := 0, presence := .present, seqBit := !r.seqBit }) hr
  unfold Machine.rowReply
  dsimp only
  apply K.handCall
  unfold handKind
  set a := Machine.putRow p (readRow d { r with missed := 0, presence := .present, seqBit := !r.seqBit }) s with hadef
  have hb : P (if r.presence = .present then a else Machine.roomReturned r.room a) ∧
      (if r.presence = .present then a else Machine.roomReturned r.room a).nodes = a.nodes := by
    split
    · exact ⟨ha, rfl⟩
    · exact ⟨K.roomReturned _ ha, roomReturned_nodes _ _⟩
  split
  · refine K.setRoom _ _ (K.bumpNodes (K.putRow _ p (readRow d _) _ ?_ rfl rfl (K.handReading _ _ hb.1)))
    rw [handReading_nodes, hb.2]
    exact hat
  · exact K.handReading _ _ hb.1

theorem learnNode (K : Inside P) {s : State} {address : Nat} (d : Report) (hfree : rowOf s.nodes address = none)
    (hlegal : TablesLegal s → 1 ≤ address ∧ address ≤ 30) (h : P s) : P (learnNode address d s) := by
  have hread : ∀ r' : NodeRow, (readRow d r').address = r'.address ∧ (readRow d r').room = r'.room := by
    intro r'; unfold readRow; split <;> exact ⟨rfl, rfl⟩
  unfold Machine.learnNode
  split
  next p room hp hroom =>
    obtain ⟨hp1, hp6, hempty⟩ := emptyPos_some hp
    obtain ⟨hr1, hr6, hnone⟩ := freeRoom_some hroom
    obtain ⟨hra, hrr⟩ := hread { NodeRow.unheard address room d.kind with
      origin := .learned, presence := .present, seqBit := true }
    refine K.handCall _ _ (K.handReading _ _ (K.setRoom _ _ (K.bumpNodes
      (K.addRow _ p _ hp1 hp6 hempty ?_ ?_ ?_ ?_ ?_ (K.raise _ h)))))
    · rw [hra]; exact hfree
    · rw [hrr]; exact hnone
    · rw [hra]; exact hlegal
    · rw [hrr]; exact hr1
    · rw [hrr]; exact hr6
  · exact K.line s _ (lineMoves_of_txn rfl) h

theorem takeReply (K : Inside P) {s : State} {x : Txn} (d : Report) (hx : s.line.txn = some x) (h : P s) :
    P (takeReply x.address d s) := by
  have hlegal : TablesLegal s → 1 ≤ x.address ∧ x.address ≤ 30 := fun ⟨_, _, _, ht⟩ => ht x (by simp [hx])
  unfold Machine.takeReply
  split
  next hnone => exact K.learnNode d hnone hlegal h
  · exact h
  next p r hrow _ =>
    obtain ⟨-, -, hat, -⟩ := findRow_some hrow
    exact K.rowReply d hat h
  · exact h

theorem rowMiss (K : Inside P) {s : State} {p : Nat} {r : NodeRow} (hr : rowAt s.nodes p = some r) (h : P s) :
    P (rowMiss p r s) := by
  have hput : ∀ r' : NodeRow, r'.address = r.address → r'.room = r.room → P (Machine.putRow p r' s) :=
    fun r' ha hm => K.putRow s p r r' hr ha hm h
  unfold Machine.rowMiss
  dsimp only
  split
  · exact K.sensingLost _ _ (K.setRoom _ _ (K.raise _ (hput _ rfl rfl)))
  · split
    · split
      · exact K.removeRow _ _ (K.raise _ h)
      · exact K.raise _ (hput _ rfl rfl)
    · exact hput _ rfl rfl

theorem attemptFailed (K : Inside P) {s : State} {x : Txn} (hx : s.line.txn = some x) (h : P s) :
    P (attemptFailed x s) := by
  unfold Machine.attemptFailed
  split
  · exact K.line s _ (lineMoves_of_address hx rfl rfl) h
  · apply K.proceed
    unfold takeMiss
    split
    next p r _ hrow =>
      obtain ⟨-, -, hat, -⟩ := findRow_some hrow
      exact K.rowMiss hat h
    · exact h

theorem inExchange {s : State} (f : Txn → State → State)
    (hf : ∀ x, s.line.txn = some x → P (f x s)) (h : P s) : P (inExchange f s) := by
  unfold Machine.inExchange
  split
  next x hx =>
    split
    · exact hf x hx
    · exact h
  · exact h

theorem takeReading (K : Inside P) {s : State} (a rh : Nat) (temp : Int) (kind : Nat) (err call good : Bool) {x : Txn}
    (hx : s.line.txn = some x) (h : P s) : P (takeReading a rh temp kind err call good x s) := by
  unfold Machine.takeReading
  split
  next d hd =>
    obtain ⟨-, ha, -⟩ := (acceptable_isSome x a rh temp kind err call good).mp (by rw [hd]; rfl)
    exact K.proceed (ha ▸ K.takeReply d hx h)
  · exact K.attemptFailed hx h

theorem takeWait (K : Inside P) {s : State} (a : Nat) (good : Bool) {x : Txn} (hx : s.line.txn = some x) (h : P s) :
    P (takeWait a good x s) := by
  unfold Machine.takeWait
  split
  · exact K.line s _ (lineMoves_of_address hx rfl rfl) h
  · exact K.attemptFailed hx h

theorem sendPoll (K : Inside P) {s : State} (low : Bool) (h : P s) : P (sendPoll low s) := by
  have hlow := K.line s { s.line with heldLow := low } (lineMoves_of_txn rfl) h
  unfold Machine.sendPoll
  dsimp only
  split
  next x hx =>
    split
    · exact K.line _ _ (lineMoves_of_address (x := x) hx rfl rfl) hlow
    · exact hlow
  · exact hlow

theorem endPhase (K : Inside P) {s : State} (ph : TxnPhase) (h : P s) : P (endPhase ph s) := by
  unfold Machine.endPhase
  split
  next x hx =>
    split
    · exact K.line s _ (lineMoves_of_address hx rfl rfl) h
    · exact h
  · exact h

theorem addConflict (K : Inside P) {s : State} (h : P s) : P (addConflict s) := by
  unfold Machine.addConflict
  split_ifs
  · exact K.raise _ (K.line s _ (lineMoves_of_none rfl) h)
  · exact K.line s _ (lineMoves_of_txn rfl) h
  · exact h

theorem pollConflict (K : Inside P) {s : State} (h : P s) : P (pollConflict s) := by
  unfold Machine.pollConflict
  split
  next x hx =>
    split
    · exact K.addConflict (K.line s _ (lineMoves_of_address hx rfl rfl) h)
    · exact h
  · exact h

theorem overcurrent (K : Inside P) {s : State} (h : P s) : P (overcurrent s) := by
  unfold Machine.overcurrent
  split
  · exact K.raise _ (K.line s _ (lineMoves_of_none rfl) h)
  · exact h

/-- A row of the line that leaves its transaction. -/
theorem lineIf (K : Inside P) {s : State} (c : Prop) [Decidable c] (l : LineRecord) (hl : l.txn = s.line.txn) (h : P s) :
    P (if c then s.setLine l else s) := by
  split
  · exact K.line s l (lineMoves_of_txn hl) h
  · exact h

end Inside

end Sys2Proof.Proofs
end

section
/-! SUPPORT. Proofs: what the owners of the requests, the frost evaluations, the filters and the modes keep. -/

namespace Sys2Proof.Proofs

open Sys2Proof Sys2Proof.Machine

/-! ### Legal rows through the store (06, 10) -/

/-- Rows taken place by place keep distinct addresses and rooms. -/
theorem rowsLegal_map {α β : Type} {address room : α → Nat} {address' room' : β → Nat} {f : Option α → Option β}
    (hf : ∀ o b, f o = some b → ∃ a, o = some a ∧ address' b = address a ∧ room' b = room a) {l : List (Option α)}
    (h : RowsLegal address room (l.filterMap id)) : RowsLegal address' room' ((l.map f).filterMap id) := by
  obtain ⟨hpair, hrange⟩ := h
  rw [List.pairwise_filterMap] at hpair
  refine ⟨?_, ?_⟩
  · rw [List.pairwise_filterMap, List.pairwise_map]
    refine hpair.imp ?_
    intro o o' hne b hb b' hb'
    obtain ⟨a, ha, haddr, hroom⟩ := hf o b hb
    obtain ⟨a', ha', haddr', hroom'⟩ := hf o' b' hb'
    rw [haddr, hroom, haddr', hroom']
    exact hne a ha a' ha'
  · intro b hb
    simp only [List.mem_filterMap, List.mem_map, id_eq, exists_eq_right] at hb
    obtain ⟨o, ho, hfo⟩ := hb
    obtain ⟨a, rfl, haddr, hroom⟩ := hf o b hfo
    rw [haddr, hroom]
    exact hrange a (List.mem_filterMap.mpr ⟨some a, ho, rfl⟩)

theorem toList_mapVec {α β : Type} {n : Nat} (f : α → β) (v : Vector α n) : (mapVec f v).toList = v.toList.map f := rfl

/-- R168: a snapshot of a legal table holds legal rows. -/
theorem imageLegal_snapshot {s : State} (x : Settings) (h : NodesLegal s.nodes) : ImageLegal (some (snapshot x s)) := by
  intro i hi
  obtain rfl : i = snapshot x s := by simpa using hi
  refine rowsLegal_map ?_ h
  rintro (_ | r) b hb
  · exact nomatch hb
  · unfold storedRow at hb
    dsimp only at hb
    split at hb
    · cases hb; exact ⟨r, rfl, rfl, rfl⟩
    · exact nomatch hb

theorem imageLegal_none : ImageLegal none := by simp [ImageLegal]

theorem storeMoves_same {s : State} {x : Store} (hi : x.image = s.store.image) (hw : x.writing = s.store.writing) :
    StoreMoves s x := by
  intro _ h h'
  rw [hi, hw]
  exact ⟨h, h'⟩

theorem storeMoves_startSave (s : State) : StoreMoves s (startSave s).store :=
  fun hn _ _ => ⟨imageLegal_none, imageLegal_snapshot _ hn⟩

theorem storeMoves_askSave (s : State) : StoreMoves s (askSave s).store := by
  unfold askSave
  split_ifs
  · exact storeMoves_same rfl rfl
  · exact storeMoves_same rfl rfl
  · exact storeMoves_startSave s

/-! ### Filters that age (R97, R98) -/

theorem FilterAges.of_state {f g : FilterRecord} (hc : g.ceiling = f.ceiling) (hs : f.state.rank ≤ g.state.rank)
    (hd : g.dose = f.dose) (hh : g.hours = f.hours) : FilterAges f g :=
  ⟨hc, hs, hd.ge, hh.ge⟩

theorem filterAges_takeValid (r : Nat) (f : FilterRecord) : FilterAges f (takeValid r f) := by
  unfold takeValid
  dsimp only
  split
  next => exact .of_state rfl le_rfl rfl rfl
  next hs =>
    unfold learnIn
    split
    · have hrank : f.state.rank ≤ FilterState.clean.rank := by rw [hs]; decide
      exact .of_state rfl hrank rfl rfl
    · exact .of_state rfl le_rfl rfl rfl
  next =>
    unfold averageIn
    split
    · exact .of_state rfl le_rfl rfl rfl
    · exact .of_state rfl le_rfl rfl rfl

theorem filterAges_sampleRecord (j : SampleOutcome × Nat) (f : FilterRecord) : FilterAges f (sampleRecord j f) := by
  unfold sampleRecord
  dsimp only
  split
  · obtain ⟨hc, hr, hd, hh⟩ := filterAges_takeValid j.2 { f with lastOutcome := j.1 }
    exact ⟨hc, hr, hd, hh⟩
  · exact .of_state rfl le_rfl rfl rfl

theorem le_raiseCount (n : Nat) : n ≤ raiseCount n := by unfold raiseCount; split <;> omega

theorem filterAges_addDose (q : Nat) (f : FilterRecord) : FilterAges f (addDose q f) := by
  unfold addDose
  split
  · exact ⟨rfl, le_rfl, le_raiseCount _, le_rfl⟩
  · exact .of_state rfl le_rfl rfl rfl

theorem filterAges_addSecond (q : Nat) (f : FilterRecord) : FilterAges f (addSecond q f) := by
  unfold addSecond
  split_ifs
  · exact .of_state rfl le_rfl rfl rfl
  · exact ⟨rfl, le_rfl, le_rfl, le_raiseCount _⟩
  · exact .of_state rfl le_rfl rfl rfl

/-- R97: a check steps to a later state alone. -/
theorem stepOf_rank {x : Settings} {f : FilterRecord} {t : FilterState} (h : stepOf x f = some t) :
    f.state.rank < t.rank := by
  unfold stepOf at h
  split at h
  · split at h
    next hlt => cases h; exact hlt.2
    next => exact nomatch h
  · exact nomatch h

namespace Inside

variable {P : State → Prop}

/-! ### Saves and filters -/

theorem askSave (K : Inside P) {s : State} (h : P s) : P (askSave s) := by
  rw [askSave_eq]; exact K.store s _ (storeMoves_askSave s) h

theorem checkSteps (K : Inside P) {s : State} (st : Stream) (h : P s) : P (checkSteps st s) := by
  unfold Machine.checkSteps
  split
  next t ht =>
    exact K.askSave (K.formCeiling _ _ (K.raiseAll _
      (K.filterRecord s st _ (.of_state rfl (stepOf_rank ht).le rfl rfl) h)))
  next => exact h

theorem filterSample (K : Inside P) {s : State} (st : Stream) (h : P s) : P (filterSample st s).1 := by
  have hg := K.filterRecord s st _ (filterAges_sampleRecord (sampleJudgement st s) _) h
  unfold Machine.filterSample
  dsimp only
  apply K.formCeiling
  apply K.checkSteps
  unfold learned
  split
  · exact K.askSave (K.raise _ hg)
  · exact hg

theorem doseStep (K : Inside P) {s : State} (st : Stream) (h : P s) : P (doseStep st s).1 := by
  have hg := K.filterRecord s st _ (filterAges_addDose (s.fans.get st).qMeas _) h
  unfold Machine.doseStep
  dsimp only
  split
  · exact K.checkSteps _ hg
  · exact hg

theorem hourStep (K : Inside P) {s : State} (st : Stream) (h : P s) : P (hourStep st s).1 := by
  have hg := K.filterRecord s st _ (filterAges_addSecond (s.fans.get st).qMeas _) h
  unfold Machine.hourStep
  dsimp only
  split
  · exact K.checkSteps _ hg
  · exact hg

theorem accumulate (K : Inside P) {s : State} (st : Stream) (h : P s) : P (accumulate st s).1 :=
  K.hourStep st (K.doseStep st h)

theorem clearFanSaturation (K : Inside P) {s : State} (st : Stream) (h : P s) : P (clearFanSaturation st s) := by
  unfold Machine.clearFanSaturation
  dsimp only
  split
  · exact K.handOn s st _ _ _ (.same rfl rfl (Or.inl rfl)) h
  · exact h

/-! ### Fans and frost -/

theorem controlStep (K : Inside P) {s : State} (st : Stream) (h : P s) : P (controlStep st s).1 := by
  have hspeed : P (takeSpeed st s) := K.tach s st _ _ _ _ _ _ h
  exact K.handOn _ st _ _ _ (fanWork_handsOn _ st) (K.estimate st _ hspeed)

theorem tachAbsence (K : Inside P) {s : State} (st : Stream) (h : P s) : P (tachAbsence st s) := by
  unfold Machine.tachAbsence
  dsimp only
  split
  · split
    · exact K.handOn s st _ _ _ (.same rfl rfl (Or.inr rfl)) h
    · exact K.tach s st _ _ _ _ _ _ h
  · exact h

theorem frostEvaluate (K : Inside P) {s : State} (h : P s) : P (frostEvaluate s).1 := by
  have ha := K.handFrost s _ ((evalFrost (frostEnv s) s.frost).2.flatMap FrostMark.events) (frostMoves_evalFrost s) h
  unfold Machine.frostEvaluate
  dsimp only
  split
  · exact K.askSave ha
  · exact ha

theorem shedMarked (K : Inside P) {s : State} (h : P s) : P (shedMarked s) := by
  unfold Machine.shedMarked
  split
  · exact K.frostEvaluate h
  · exact h

theorem endOnTime (K : Inside P) {s : State} (h : P s) : P (endOnTime s) := by
  unfold Machine.endOnTime
  split
  · exact K.output s false _ nofun h
  · exact h

theorem expireSlot (K : Inside P) {s : State} (slot : Nat) (h : P s) : P (expireSlot slot s) := by
  unfold Machine.expireSlot
  split
  · exact K.raise _ (K.writeDemand s _ (fun _ => ⟨rfl, rfl, rfl⟩) h)
  · exact h

/-- R171: what follows a scan, where the property does not read the published records. -/
theorem completeScan (K : Inside P) {s : State} (hseq : ∀ u q, P u → P { u with seq := q })
    (hfinish : ∀ u, P u → P (finishStartUp u)) (h : P s) : P (completeScan s) := by
  have hp : P (publish s) := K.supplyLow _ (K.raiseIf _ _ (K.raiseIf _ _ (hseq s _ h)))
  unfold Machine.completeScan
  refine K.frostEvaluate (K.estimate _ _ (K.estimate _ _ ?_))
  split
  · exact hfinish _ hp
  · exact hp

theorem convertChannel (K : Inside P) {s : State} (ch : Channel) (raw : Nat) (n : Option Channel) (h : P s) :
    P { s with seq := { convertChannel ch raw s.seq with next := n } } := by
  unfold Machine.convertChannel
  dsimp only
  split <;> exact K.scan s _ _ _ _ _ h

theorem scanStart (K : Inside P) {s : State} (h : P s) : P (scanStart s) := by
  unfold Machine.scanStart
  split
  · exact h
  · exact K.scan s _ _ _ _ _ h

theorem recoverSupply (K : Inside P) {s : State} (h : P s) : P (recoverSupply s) := by
  unfold Machine.recoverSupply
  split
  · exact K.supplyLow s h
  · exact h

/-! ### Settings -/

theorem setSupervision (K : Inside P) {s : State} (h : P s) : P (setSupervision s) := by
  unfold Machine.setSupervision
  dsimp only
  split
  next hl =>
    refine K.endLoss s _ ?_ h
    simp [superviseFor, hl.1]
  next hl =>
    refine K.superv s _ ?_ h
    unfold superviseFor
    split
    next hi => simpa using fun hs => hl ⟨hi, hs⟩
    next =>
      split
      next hs => simp [hs]
      next hs => simp [hs]
      · exact Iff.rfl
      · exact Iff.rfl

theorem reformCeilings (K : Inside P) {s : State} (x : Settings) (hx : x.preheatFitted = s.settings.preheatFitted)
    (h : P s) : P (reformCeilings { s with settings := x }) :=
  K.formCeiling _ _ (K.formCeiling _ _ (K.resettle s x hx h))

theorem applyParam (K : Inside P) {s : State} (p : Param) (v : Int) (h : P s) : P (applyParam p v s) := by
  cases p
  case dutyMin => exact K.absences _ _ _ (K.settings s (Param.put .dutyMin v s.settings) rfl rfl rfl rfl h)
  case qRated => exact K.reformCeilings _ rfl h
  case qMinRun => exact K.reformCeilings _ rfl h
  case qQuiet => exact K.resettle s _ rfl h
  case preheatFitted => exact K.refit s _ rfl rfl rfl h
  case supervisionInterval => exact K.setSupervision (K.settings s _ rfl rfl rfl rfl h)
  all_goals exact K.settings s _ rfl rfl rfl rfl h

theorem restoreAll (K : Inside P) {s : State} (h : P s) : P (restoreAll s) := by
  have hfold : ∀ (ps : List Param) (u : State), P u → P (ps.foldl restoreParam u) := by
    intro ps
    induction ps with
    | nil => exact fun _ hu => hu
    | cons p ps ih =>
      refine fun u hu => ih _ ?_
      unfold restoreParam
      split
      · exact hu
      · exact K.applyParam _ _ hu
  have hr : P (Param.all.foldl restoreParam s) := hfold _ s h
  unfold Machine.restoreAll restoreTables
  generalize Param.all.foldl restoreParam s = u at hr ⊢
  exact K.settings u _ rfl rfl rfl rfl hr

theorem commitAndSave (K : Inside P) {s : State} (h : P s) : P (commitAndSave s) :=
  have hc : StoreMoves s { s.store with commitPending := true } := storeMoves_same rfl rfl
  K.askSave (K.store s _ hc h)

/-! ### Modes -/

theorem inStandby_of_running {m : Mode} (h : m = .run ∨ m = .quiet) : m.inStandby = false := by
  obtain rfl | rfl := h <;> rfl

theorem chooseRunning (K : Inside P) {s : State} {m : Mode} (hm : m.inStandby = false) (h : P s) :
    P (chooseRunning m s) := by
  unfold Machine.chooseRunning
  split
  next hs => exact K.leaveStandby s m hm hs h
  next hs => exact K.leaveEntry s m hm hs h
  next hs =>
    split
    · exact h
    · exact K.changeMode s m hm (by rw [hs]; rfl) h
  next hs =>
    split
    · exact h
    · exact K.changeMode s m hm (by rw [hs]; rfl) h

theorem enterStandby (K : Inside P) {s : State} (hs : s.mode.mode.inStandby = false) (h : P s) :
    P (enterStandby s) := by
  have ha := K.enterEntry s hs h
  unfold Machine.enterStandby
  dsimp only
  split
  · exact K.beginStandby _ rfl ha
  · exact ha

theorem setMode (K : Inside P) {s : State} (mode : Byte) (h : P s) : P (ownSetMode mode s).2 := by
  unfold ownSetMode
  split
  · exact K.chooseRunning rfl h
  · exact K.chooseRunning rfl h
  · unfold chooseStandby
    split
    · exact h
    split
    · exact h
    split
    · exact h
    · exact K.enterStandby (by simpa using ‹¬ s.mode.mode.inStandby = true›) h
  · exact h

theorem waitStep (K : Inside P) {s : State} (hs : s.mode.mode = .standby) (h : P s) : P (waitStep s).1 := by
  unfold Machine.waitStep
  split
  next n hn =>
    split
    · exact K.startBurst _ hs (K.modeTimers s { s.mode with nextAiring := some 0 } rfl (by rw [hn]; rfl) Iff.rfl h)
    · exact K.modeTimers s _ rfl (by rw [hn]; rfl) Iff.rfl h
  next => exact h

theorem standbyStep (K : Inside P) {s : State} (hs : s.mode.mode = .standby) (h : P s) : P (standbyStep s).1 := by
  have ha := K.modeTimers s { s.mode with elapsed := s.mode.elapsed + 1 } rfl rfl Iff.rfl h
  unfold Machine.standbyStep
  dsimp only
  split
  · exact K.raise _ (K.leaveStandby _ _ rfl hs ha)
  · unfold airingStep
    dsimp only
    split
    next hair =>
      split
      · exact K.endBurst _ ha
      · exact K.modeTimers { s with mode := { s.mode with elapsed := s.mode.elapsed + 1 } } _ rfl rfl
          ⟨fun _ => hair, fun _ => by dsimp only; omega⟩ ha
    next => exact K.waitStep hs ha

theorem modeWork (K : Inside P) {s : State} (h : P s) : P (modeWork s).1 := by
  unfold Machine.modeWork
  split
  next hs =>
    split
    · exact K.beginStandby s hs h
    · exact h
  next hs => exact K.standbyStep hs h
  all_goals exact h

/-! ### Requests of the node table -/

theorem createRow (K : Inside P) {s : State} {p : Nat} {r : NodeRow} (hp : emptyPos s.nodes = some p)
    (ha : rowOf s.nodes r.address = none) (hm : findRow s.nodes (fun r' => r'.room == r.room) = none)
    (hr : 1 ≤ r.address ∧ r.address ≤ 30 ∧ 1 ≤ r.room ∧ r.room ≤ 6) (h : P s) : P (createRow p r s) := by
  obtain ⟨h1, h6, hempty⟩ := emptyPos_some hp
  obtain ⟨ha1, ha30, hm1, hm6⟩ := hr
  exact K.setRoom _ _ (K.bumpNodes (K.addRow s p r h1 h6 hempty ha hm (fun _ => ⟨ha1, ha30⟩) hm1 hm6 h))

theorem pinRow (K : Inside P) {s : State} {p : Nat} {r : NodeRow} (k : RoomKind) (hr : rowAt s.nodes p = some r)
    (h : P s) : P (pinRow p r k s) := by
  have ha : P (if r.origin = .pinned then s else
        Machine.askSave (Machine.bumpNodes (Machine.putRow p { r with origin := .pinned } s))) ∧
      ∃ r', rowAt (if r.origin = .pinned then s else
        Machine.askSave (Machine.bumpNodes (Machine.putRow p { r with origin := .pinned } s))).nodes p = some r' ∧
        r.address = r'.address ∧ r.room = r'.room := by
    split
    · exact ⟨h, r, hr, rfl, rfl⟩
    · refine ⟨K.askSave (K.bumpNodes (K.putRow s p r _ hr rfl rfl h)), { r with origin := .pinned }, ?_, rfl, rfl⟩
      rw [askSave_eq]
      exact rowAt_putRow hr
  obtain ⟨ha, r', hr', haddr, hroom⟩ := ha
  unfold Machine.pinRow
  dsimp only
  split
  · exact ha
  · exact K.askSave (K.setRoom _ _ (K.bumpNodes (K.putRow _ p r' _ hr' haddr hroom ha)))

theorem unpinRow (K : Inside P) {s : State} {p : Nat} {r : NodeRow} (hr : rowAt s.nodes p = some r) (h : P s) :
    P (unpinRow p r s) := by
  have ha := K.askSave (K.bumpNodes (K.putRow s p r { r with origin := .learned } hr rfl rfl h))
  unfold Machine.unpinRow
  dsimp only
  split
  · exact K.askSave (K.removeRow _ _ ha)
  · exact ha

theorem nodePin (K : Inside P) {s : State} (address room kind : Byte) (h : P s) :
    P (ownNodePin address room kind s).2 := by
  unfold ownNodePin
  split
  · exact h
  dsimp only
  split
  · exact h
  next k _ hrange =>
    split
    next p r hrow =>
      obtain ⟨-, -, hat, -⟩ := findRow_some hrow
      split
      · exact K.pinRow k hat h
      · exact h
    · exact h
    next hrow hfree =>
      split
      · exact h
      next p hp =>
        refine K.askSave (K.createRow hp hrow hfree ?_ h)
        dsimp only [NodeRow.unheard]
        omega

theorem nodeUnpin (K : Inside P) {s : State} (address : Byte) (h : P s) : P (ownNodeUnpin address s).2 := by
  unfold ownNodeUnpin
  split
  · exact h
  split
  · exact h
  next p r hrow =>
    obtain ⟨-, -, hat, -⟩ := findRow_some hrow
    split
    · exact K.unpinRow hat h
    · exact h

theorem nodeForget (K : Inside P) {s : State} (address : Byte) (h : P s) : P (ownNodeForget address s).2 := by
  unfold ownNodeForget
  split
  · exact h
  split
  · exact h
  · exact K.askSave (K.removeRow _ _ h)

/-! ### The owners -/

theorem setDemand (K : Inside P) {s : State} (source key : Byte) (level expiry : Half) (exempt : Byte) (h : P s) :
    P (ownSetDemand source key level expiry exempt s).2 := by
  unfold ownSetDemand
  dsimp only
  split
  · split
    · exact h
    split
    · exact h
    · exact K.writeDemand s _ (fun _ => ⟨rfl, rfl, rfl⟩) h
  split
  · split
    · exact h
    split
    · exact h
    · exact K.writeDemand s _ (fun _ => ⟨rfl, rfl, rfl⟩) h
  · exact h

theorem clearDemand (K : Inside P) {s : State} (source key : Byte) (h : P s) : P (ownClearDemand source key s).2 := by
  unfold ownClearDemand
  split
  · split
    · exact h
    · exact K.writeDemand s _ (fun _ => ⟨rfl, rfl, rfl⟩) h
  split
  · split
    · exact h
    split
    · exact K.writeDemand s _ (fun _ => ⟨rfl, rfl, rfl⟩) h
    · exact h
  · exact h

theorem fanRecover (K : Inside P) {s : State} (stream : Byte) (h : P s) : P (ownFanRecover stream s).2 := by
  unfold ownFanRecover
  split
  · exact h
  dsimp only
  split
  · exact K.handOn s _ _ _ _ (.same rfl rfl (Or.inl rfl)) h
  · exact h

theorem windowLegal_w {f : FrostRecord} (h : WindowLegal f) : f.w ≤ 16 := by
  obtain ⟨-, h1, -⟩ := h; omega

theorem forceDefrost (K : Inside P) {s : State} (h : P s) : P (ownForceDefrost s).2 := by
  unfold ownForceDefrost
  split
  · exact h
  next hs => exact K.handFrost s _ _ (frostMoves_requestDefrost (fun hd => hs (Or.inl hd)) windowLegal_w) h

theorem frostRelease (K : Inside P) {s : State} (h : P s) : P (ownFrostRelease s).2 := by
  unfold ownFrostRelease
  split
  next hs =>
    exact K.handFrost s _ _ (frostMoves_requestDefrost (by rw [hs]; exact nofun) (fun _ => by decide)) h
  · exact h

theorem setParam (K : Inside P) {s : State} (id : Byte) (value : Half) (h : P s) : P (ownSetParam id value s).2 := by
  unfold ownSetParam
  split
  · exact h
  · exact K.applyParam _ _ h
  · exact h

theorem filterReset (K : Inside P) {s : State} (filter : Byte)
    (hrenew : ∀ st, streamOf filter = some st → P (s.setFilter st (s.filters.get st).renewed)) (h : P s) :
    P (ownFilterReset filter s).2 := by
  unfold ownFilterReset
  split
  · exact h
  next st hst => exact K.askSave (K.clearFanSaturation _ (K.formCeiling _ _ (hrenew st hst)))

/-- What each operation keeps, the owner of each request keeps; the record of a new filter is apart (R98). -/
theorem owner (K : Inside P) {s : State} (q : Request)
    (hrenew : ∀ filter st, q = .filterReset filter → streamOf filter = some st →
      P (s.setFilter st (s.filters.get st).renewed)) (h : P s) : P (ownerOf q s).2 := by
  cases q with
  | getEvents => exact K.events s _ h
  | setEventMask mask => dsimp only [ownerOf, ownSetEventMask]; split <;> [exact K.mask s _ h; exact h]
  | setDemand source key level expiry exempt => exact K.setDemand _ _ _ _ _ h
  | clearDemand source key => exact K.clearDemand _ _ h
  | fanRecover stream => exact K.fanRecover _ h
  | forceDefrost => exact K.forceDefrost h
  | frostRelease => exact K.frostRelease h
  | learnExchanger => exact K.learn s _ _ _ h
  | filterReset filter => exact K.filterReset _ (fun st hst => hrenew filter st rfl hst) h
  | nodePin address room kind => exact K.nodePin _ _ _ h
  | nodeUnpin address => exact K.nodeUnpin _ h
  | nodeForget address => exact K.nodeForget _ h
  | discover => dsimp only [ownerOf, ownDiscover]; split <;> [exact h; exact K.line s _ (lineMoves_of_txn rfl) h]
  | boostCancel room =>
    dsimp only [ownerOf, ownBoostCancel]
    split
    · exact h
    · split <;> [exact h; exact K.closeSession _ _ _ h]
  | setMode mode => exact K.setMode _ h
  | setParam id value => exact K.setParam _ _ h
  | setTableTemperature points =>
    dsimp only [ownerOf, ownSetTableTemperature]
    split_ifs <;> [exact h; exact K.settings s _ rfl rfl rfl rfl h; exact h]
  | setTableFeedforward st points =>
    dsimp only [ownerOf, ownSetTableFeedforward]
    split_ifs <;> [exact h; exact K.settings s _ rfl rfl rfl rfl h; exact h]
  | saveSettings => exact K.commitAndSave h
  | restoreDefaults =>
    dsimp only [ownerOf, ownRestoreDefaults]
    exact K.commitAndSave (K.restoreAll h)
  | resetPart =>
    have hc : StoreMoves s { s.store with closed := true } := storeMoves_same rfl rfl
    dsimp only [ownerOf, ownResetPart]
    split <;> [exact h; exact K.store s _ hc h]
  | ping | getFlows | getFrost => exact h
  | getStatus page => dsimp only [ownerOf, ownGetStatus]; split_ifs <;> exact h
  | getDemands first => dsimp only [ownerOf, ownGetDemands]; split_ifs <;> exact h
  | getNodes first => dsimp only [ownerOf, ownGetNodes]; split_ifs <;> exact h
  | getRooms room => dsimp only [ownerOf, ownGetRooms]; split_ifs <;> exact h
  | getSessions first => dsimp only [ownerOf, ownGetSessions]; split_ifs <;> exact h
  | getFilter filter => dsimp only [ownerOf, ownGetFilter]; split <;> exact h
  | getParam id => dsimp only [ownerOf, ownGetParam]; split <;> exact h

end Inside

end Sys2Proof.Proofs
end

section
/-! SUPPORT. Proofs: the step principle. What the operations of the part and of its link keep, every step keeps. -/

namespace Sys2Proof.Proofs

open Sys2Proof Sys2Proof.Machine

/-! ### What an owner leaves to the link, and what it answers -/

/-- No owner touches the link (R161). -/
theorem inside_link (l : Link) : Inside (fun s => s.link = l) where

theorem owner_link (q : Request) (s : State) : (ownerOf q s).2.link = s.link :=
  (inside_link s.link).owner q (fun _ _ _ _ => rfl) rfl

theorem length_take_flatten {α : Type} {n : Nat} (f : α → List Byte) (h : ∀ a, (f a).length = n) (k : Nat)
    (l : List α) : ((l.take k).map f).flatten.length ≤ k * n := by
  rw [length_flatten_map f h, List.length_take]
  exact Nat.mul_le_mul_right n (Nat.min_le_left ..)

theorem length_statusChannels (s : State) : (statusChannels s).length = 34 := rfl

theorem length_statusPart (s : State) : (statusPart s).length = 21 := rfl

theorem length_statusLink (s : State) : (statusLink s).length = 16 := rfl

/-- R172: the payload of a reply that an owner answers at once fits its frame. -/
theorem owner_payload {q : Request} {s : State} {r : Result} {p : List Byte} (h : (ownerOf q s).1 = .now r p) :
    p.length ≤ 45 := by
  have hempty : ∀ {r' : Result}, Answer.now r' [] = .now r p → p.length ≤ 45 := by
    rintro r' ⟨⟩; exact Nat.zero_le _
  have hreport : ∀ {p' : List Byte}, p'.length ≤ 45 → (report p' s).1 = .now r p → p.length ≤ 45 := by
    rintro p' hp ⟨⟩; exact hp
  have hmode : ∀ {u : State}, (modeReply u).1 = .now r p → p.length ≤ 45 := by
    rintro u ⟨⟩; simp
  cases q with
  | ping => exact hreport (by simp) h
  | getStatus page =>
    dsimp only [ownerOf, ownGetStatus] at h
    split_ifs at h
    · exact hreport (by simp [length_statusChannels]) h
    · exact hreport (by simp [length_statusPart]) h
    · exact hreport (by simp [length_statusLink]) h
    · exact hempty h
  | getEvents => cases h; simp
  | setEventMask mask =>
    dsimp only [ownerOf, ownSetEventMask] at h
    split at h <;> [(cases h; simp); exact hempty h]
  | setDemand source key level expiry exempt =>
    dsimp only [ownerOf, ownSetDemand] at h
    split_ifs at h <;>
      [exact hempty h; exact hempty h; (cases h; simp); exact hempty h; exact hempty h; (cases h; simp); exact hempty h]
  | clearDemand source key =>
    dsimp only [ownerOf, ownClearDemand] at h
    split_ifs at h <;> exact hempty h
  | getDemands first =>
    dsimp only [ownerOf, ownGetDemands] at h
    split at h
    · exact hempty h
    · refine hreport ?_ h
      have := length_take_flatten (fun e : Source × Nat × DemandEntry => encodeDemand e.1 e.2.1 e.2.2)
        (fun _ => length_encodeDemand ..) 4 (s.demand.entries.drop first.toNat)
      simp only [List.length_append, length_u8]
      omega
  | getFlows => exact hreport (by simp) h
  | fanRecover stream =>
    dsimp only [ownerOf, ownFanRecover] at h
    split at h
    · exact hempty h
    · split at h <;> exact hempty h
  | getFrost => exact hreport (by simp) h
  | forceDefrost => dsimp only [ownerOf, ownForceDefrost] at h; split at h <;> exact hempty h
  | frostRelease => dsimp only [ownerOf, ownFrostRelease] at h; split at h <;> exact hempty h
  | learnExchanger => exact hempty h
  | getFilter filter =>
    dsimp only [ownerOf, ownGetFilter] at h
    split at h <;> [exact hempty h; exact hreport (by simp) h]
  | filterReset filter => dsimp only [ownerOf, ownFilterReset] at h; split at h <;> exact hempty h
  | getNodes first =>
    dsimp only [ownerOf, ownGetNodes] at h
    split at h
    · exact hempty h
    · refine hreport ?_ h
      have := length_take_flatten (fun p => encodeRow (rowAt s.nodes p)) (fun _ => length_encodeRow _) 3
        (positions.drop (first.toNat - 1))
      simp only [List.length_append, length_encodeLine]
      omega
  | nodePin address room kind =>
    dsimp only [ownerOf, ownNodePin] at h
    split at h
    · exact hempty h
    split at h
    · exact hempty h
    split at h
    · split at h <;> exact hempty h
    · exact hempty h
    · split at h <;> exact hempty h
  | nodeUnpin address =>
    dsimp only [ownerOf, ownNodeUnpin] at h
    split at h
    · exact hempty h
    split at h
    · exact hempty h
    · split at h <;> exact hempty h
  | nodeForget address =>
    dsimp only [ownerOf, ownNodeForget] at h
    split at h
    · exact hempty h
    · split at h <;> exact hempty h
  | discover => dsimp only [ownerOf, ownDiscover] at h; split at h <;> exact hempty h
  | getRooms room =>
    dsimp only [ownerOf, ownGetRooms] at h
    split at h <;> [exact hempty h; exact hreport (by simp) h]
  | getSessions first =>
    dsimp only [ownerOf, ownGetSessions] at h
    split at h
    · exact hempty h
    · refine hreport ?_ h
      have := length_take_flatten encodeSession length_encodeSession 2 (s.sessions.drop first.toNat)
      simp only [List.length_append, length_u8]
      omega
  | boostCancel room =>
    dsimp only [ownerOf, ownBoostCancel] at h
    split at h
    · exact hempty h
    · split at h <;> exact hempty h
  | setMode mode =>
    dsimp only [ownerOf, ownSetMode] at h
    split at h
    · exact hmode h
    · exact hmode h
    · unfold chooseStandby at h
      split_ifs at h <;> [exact hmode h; exact hempty h; exact hempty h; exact hmode h]
    · exact hempty h
  | getParam id =>
    dsimp only [ownerOf, ownGetParam] at h
    split at h <;> [exact hreport (by simp) h; exact hempty h]
  | setParam id value =>
    dsimp only [ownerOf, ownSetParam] at h
    split at h
    · exact hempty h
    · cases h; simp
    · exact hempty h
  | setTableTemperature points =>
    dsimp only [ownerOf, ownSetTableTemperature] at h
    split_ifs at h <;> exact hempty h
  | setTableFeedforward st points =>
    dsimp only [ownerOf, ownSetTableFeedforward] at h
    split_ifs at h <;> exact hempty h
  | saveSettings => exact nomatch h
  | restoreDefaults => exact nomatch h
  | resetPart => dsimp only [ownerOf, ownResetPart] at h; split at h <;> exact hempty h

/-! ### What each operation keeps, the link's included -/

/-- Whether the slot's request has been answered. -/
def answered (s : State) : Prop := s.link.slot.map (·.phase) = some .replied

/-- A property that each operation of the part and of its link keeps. -/
structure Linked (P : State → Prop) : Prop extends Inside P where
  resetLine : ∀ s b, P s → P { s with resetLine := b } := by intros; assumption
  /-- R157, R158: the receiver and the counters. -/
  receiver : ∀ s l, l.tx = s.link.tx → l.slot = s.link.slot → P s → P { s with link := l } := by intros; assumption
  /-- R162: a reply of a request that has none yet. -/
  reply : ∀ s kind tag req r p, ¬ answered s → p.length ≤ 45 → P s → P (reply kind tag req r p s) := by
    intros; assumption
  /-- R161, R169: a request that waits for its owner, or for its save. -/
  slot : ∀ s (x : Slot), ¬ answered s → x.phase ≠ .replied → P s → P { s with link := { s.link with slot := some x } } := by
    intros; assumption
  answer : ∀ s kind tag r, P s → P (enqueueAnswer (replyBody kind tag r []) s) := by
    intro s _ _ _ h; unfold enqueueAnswer; split <;> exact h
  alive : ∀ s n, P s → P (enqueueAlive n s) := by
    intro s _ h; unfold enqueueAlive; split <;> exact h
  /-- R162: the first frame of the queue leaves; after the slot's reply the slot is empty. -/
  popFrame : ∀ s fr rest, s.link.tx = fr :: rest → P s →
    P { s with link := { s.link with
      tx := rest, txMs := 0, slot := if fr.cls = .slotReply then none else s.link.slot } } := by intros; assumption

/-- A property that the queue's changes and the passing of a millisecond keep too. -/
structure Kept (P : State → Prop) : Prop extends Linked P where
  pending : ∀ s l, P s → P { s with pending := l } := by intros; assumption
  advance : ∀ s, P s → P (advance s) := by intros; assumption

namespace Linked

variable {P : State → Prop}

/-! ### Requests and frames -/

theorem frameArrival (K : Linked P) {s : State} (h : P s) : P (frameArrival s) := by
  unfold Machine.frameArrival
  split
  next hs => exact K.superv s _ (by simp [hs]) h
  next hs => exact K.superv s _ (by simp [hs]) h
  · exact K.raise _ (K.endLoss s ⟨.ok, 0, 0⟩ nofun h)
  · exact h

theorem acceptFrame (K : Linked P) {s : State} (h : P s) : P (acceptFrame s) :=
  K.frameArrival (K.receiver s _ rfl rfl h)

theorem arrived (K : Linked P) {s : State} (h : P s) : P (arrived s) :=
  K.acceptFrame (K.receiver s _ rfl rfl h)

theorem heard (K : Linked P) {s : State} (tag : Byte) (q : Request) (h : P s) : P (heard tag q s) := by
  unfold Machine.heard
  split
  · exact h
  · exact K.arrived h

theorem serveRequest (K : Linked P) {s : State} (tag : Byte) (q : Request) (hslot : ¬ answered s)
    (hrenew : ∀ filter st, q = .filterReset filter → streamOf filter = some st → ∀ u, P u →
      P (u.setFilter st (u.filters.get st).renewed)) (h : P s) :
    P (serveRequest tag q (ownerOf q) s) := by
  have ho : P (ownerOf q s).2 := K.owner q (fun filter st hq hst => hrenew filter st hq hst s h) h
  have hl : ¬ answered (ownerOf q s).2 := by unfold answered; rwa [owner_link]
  unfold Machine.serveRequest
  split
  next r p t heq =>
    rw [heq] at ho hl
    exact K.reply t _ _ _ _ _ hl (owner_payload (q := q) (s := s) (by rw [heq])) ho
  next t heq =>
    rw [heq] at ho hl
    exact K.slot t _ hl nofun ho

theorem place (K : Linked P) {s : State} (kind tag : Byte) (enter : State → State)
    (henter : s.link.slot = none → P (enter s)) (h : P s) : P (place kind tag enter s) := by
  unfold Machine.place
  split
  · exact K.answer _ _ _ _ (K.receiver s _ rfl rfl h)
  split
  · exact K.answer _ _ _ _ (K.receiver s _ rfl rfl h)
  next hs _ => exact henter (by simpa using hs)

theorem not_answered_of_none {s : State} (h : s.link.slot = none) : ¬ answered s := by simp [answered, h]

theorem hostRequest (K : Linked P) {s : State} (tag : Byte) (q : Request)
    (hrenew : ∀ filter st, q = .filterReset filter → streamOf filter = some st → ∀ u, P u →
      P (u.setFilter st (u.filters.get st).renewed)) (h : P s) :
    P (hostRequest tag q (ownerOf q) s) := by
  unfold Machine.hostRequest
  split
  next hs => exact K.serveRequest tag q (by simp [answered, hs]) hrenew h
  · exact K.place _ _ _ (fun hs => K.serveRequest tag q (not_answered_of_none hs) hrenew (K.arrived h)) (K.arrived h)

theorem enterSlot (K : Linked P) {s : State} (kind tag : Byte) (payload : List Byte) (hs : s.link.slot = none) (h : P s) :
    P (enterSlot kind tag payload s) := by
  unfold Machine.enterSlot
  split
  · exact K.reply s _ _ _ _ _ (not_answered_of_none hs) (Nat.zero_le _) h
  · exact K.slot s _ (not_answered_of_none hs) nofun h

theorem goodFrame (K : Linked P) {s : State} (check : Byte) (h : P s) : P (goodFrame check s) := by
  unfold Machine.goodFrame
  split
  · have ha := K.acceptFrame (K.receiver s { s.link.hunt with silence := 0 } rfl rfl h)
    unfold placeBody
    split
    · exact K.place _ _ _ (fun hs => K.enterSlot _ _ _ hs ha) ha
    · exact ha
  · exact h

/-- Rows of the receiver that leave the queue and the slot. -/
theorem receiverIf (K : Linked P) {s : State} (c : Prop) [Decidable c] (l : Link) (ht : l.tx = s.link.tx)
    (hs : l.slot = s.link.slot) (h : P s) : P (if c then s.setLink l else s) := by
  split
  · exact K.receiver s l ht hs h
  · exact h

theorem byteReceived (K : Linked P) {s : State} (b : Byte) (h : P s) : P (s.setLink (s.link.take b)) := by
  refine K.receiver s _ ?_ ?_ h <;> (unfold Link.take; split <;> first | rfl | (split <;> rfl))

theorem frameSent (K : Linked P) {s : State} (hreset : (s.store.closed && replyLeaving s) = true → P (startUp .command s))
    (h : P s) : P (frameSent s) := by
  unfold Machine.frameSent
  split
  · exact h
  next fr rest htx =>
    have hpop := K.popFrame s fr rest htx h
    dsimp only
    split
    next hcls =>
      split
      next hclosed => exact hreset (by simp [hclosed, replyLeaving, htx, hcls])
      next => rw [if_pos hcls] at hpop; exact hpop
    next hcls => rw [if_neg (by rw [hcls]; exact nofun)] at hpop; exact hpop
    next hcls => rw [if_neg (by rw [hcls]; exact nofun)] at hpop; exact hpop

/-! ### The store and the mode step -/

theorem startPending (K : Linked P) {s : State} (h : P s) : P (startPending s) := by
  have hc : StoreMoves s { s.store with savePending := false } := storeMoves_same rfl rfl
  unfold Machine.startPending
  split
  · exact K.store _ _ (storeMoves_startSave _) (K.store s _ hc h)
  · exact h

theorem writeComplete (K : Linked P) {s : State} (h : P s) : P (writeComplete s) := by
  unfold Machine.writeComplete
  split
  · exact h
  next image hw =>
    have hmoves : StoreMoves s { s.store with
        image := some image, writing := none, writeMs := 0, completed := sat16 s.store.completed, releases := false } := by
      intro _ _ hwriting
      rw [hw] at hwriting
      exact ⟨hwriting, imageLegal_none⟩
    have ha := K.store s _ hmoves h
    apply K.startPending
    split
    · unfold releaseReply
      split
      next x hx =>
        split
        next hph =>
          exact K.reply _ _ _ _ _ _ (by unfold answered; rw [hx]; simp [hph]) (Nat.zero_le _) ha
        · exact ha
      · exact ha
    · exact ha

theorem superviseStep (K : Linked P) {s : State} (h : P s) : P (superviseStep s).1 := by
  unfold Machine.superviseStep
  split
  next hs =>
    split
    · exact K.alive _ _ (K.superv s _ (by simp [hs]) h)
    · exact K.superv s _ (by simp [hs]) h
  next hs =>
    split
    · exact K.alive _ _ (K.superv s _ (by simp [hs]) h)
    · exact K.declareLost s h
  · exact h
  · exact h

theorem modeStep (K : Linked P) {s : State} (h : P s) : P (modeStep s).1 := K.modeWork (K.superviseStep h)

theorem takeConversion (K : Linked P) {s : State} (raw : Nat) (hscan : ∀ u, P u → P (completeScan u))
    (hreset : resets (.conversion raw) s = true → P (startUp .brownout s)) (h : P s) : P (takeConversion raw s) := by
  unfold Machine.takeConversion
  split
  · exact h
  next ch hch =>
    have ha := K.convertChannel ch raw ch.succ h
    dsimp only
    split
    · split
      next hb => exact hreset (by simpa [resets, hch] using hb)
      next => exact hscan _ ha
    · exact ha

/-! ### Every command, and every step -/

/-- What each operation keeps, every command keeps: the publication of a scan, a reset and a new filter's record apart. -/
theorem exec (K : Linked P) {c : Instr} {s t : State} (hscan : ∀ u, P u → P (completeScan u))
    (hreset : resets c s = true → ∀ power line cause, P (blank power line cause (imageAfterReset s.store) s.pending))
    (hrenew : ∀ tag filter st, c = .filterReset tag filter → streamOf filter = some st → ∀ u, P u →
      P (u.setFilter st (u.filters.get st).renewed))
    (h : P s) (ht : exec c s = .next t) : P t := by
  have hrow : ∀ {f : State → State}, P (f s) → P (whenRunning f s) := fun hf => whenRunning_keeps h fun _ => hf
  have hmark : ∀ {μ : Type} [DecidableEq μ] {m : μ} {f : State → State × List μ}, P (f s).1 →
      P (whenRunning (whenMarked m f) s) := fun hf => hrow (whenMarked_keeps h hf)
  have hrequest : ∀ {tag : Byte} {q : Request}, (∀ filter, q ≠ .filterReset filter) →
      P (whenRunning (Machine.hostRequest tag q (ownerOf q)) s) := fun hq =>
    hrow (K.hostRequest _ _ (fun filter _ hf => absurd hf (hq filter)) h)
  cases c
  all_goals (injection ht with ht; subst ht)
  case powerOn =>
    unfold applyPower
    split <;> exact hreset rfl _ _ _
  case resetLineAssert =>
    unfold assertReset
    split
    next hp => exact hreset (by simp [resets, hp]) _ _ _
    next => exact K.resetLine s _ h
  case resetLineRelease =>
    unfold releaseReset
    split
    next hp => exact hreset (by simp [resets, hp]) _ _ _
    next => exact K.resetLine s _ h
  case powerFail => exact hreset rfl _ _ _
  case scanStart => exact hrow (K.scanStart h)
  case conversion raw => exact hrow (K.takeConversion raw hscan (fun hr => hreset hr _ _ _) h)
  case supplyLowRecovery => exact hrow (K.recoverSupply h)
  case pwmPeriod st => exact hrow (K.tach s st _ _ _ _ _ _ h)
  case tachPulse st interval => exact hrow (K.tach s st _ _ _ _ _ _ h)
  case tachAbsence st => exact hrow (K.tachAbsence st h)
  case controlStep st => exact hrow (K.controlStep st h)
  case startAttemptFailed st => exact hmark (K.controlStep st h)
  case steadyEntry st => exact hmark (K.controlStep st h)
  case retryCountClear st => exact hmark (K.controlStep st h)
  case spinTestStart st => exact hmark (K.controlStep st h)
  case spinTestFailed st => exact hmark (K.controlStep st h)
  case fanSaturation st => exact hmark (K.controlStep st h)
  case demandExpiry slot => exact hrow (K.expireSlot slot h)
  case watchExit => exact hmark (K.frostEvaluate h)
  case shedEvent => exact hrow (K.shedMarked h)
  case icingSignDefrost => exact hmark (K.frostEvaluate h)
  case deepColdDefrost => exact hmark (K.frostEvaluate h)
  case recoverEntry => exact hmark (K.frostEvaluate h)
  case recoveryGrowth => exact hmark (K.frostEvaluate h)
  case holdEntry => exact hmark (K.frostEvaluate h)
  case holdCheck => exact hmark (K.frostEvaluate h)
  case lockRelease => exact hmark (K.frostEvaluate h)
  case degradedTimedDefrost => exact hmark (K.frostEvaluate h)
  case degradedDefrostEnd => exact hmark (K.frostEvaluate h)
  case exchangerLearnComplete => exact hmark (K.frostEvaluate h)
  case overtempBlockEnd => exact hmark (K.frostEvaluate h)
  case preheatWindow => exact hrow (K.output s _ _ (fun hd => by simpa [Nat.pos_iff_ne_zero] using hd) h)
  case preheatOnTimeEnd => exact hrow (K.endOnTime h)
  case filterSample st => exact hrow (K.filterSample st h)
  case filterLearnComplete st => exact hmark (K.filterSample st h)
  case accumulationStep st => exact hrow (K.accumulate st h)
  case doseUnit st => exact hmark (K.accumulate st h)
  case filterHour st => exact hmark (K.accumulate st h)
  case pollCycleDue => exact hrow (K.line s _ (lineMoves_of_txn (by rfl)) h)
  case jobStart => exact hrow (K.jobStart h)
  case poll low => exact hrow (K.sendPoll low h)
  case reading a rh temp kind err call good =>
    exact hrow (Inside.inExchange _ (fun x hx => K.takeReading a rh temp kind err call good hx h) h)
  case wait a good => exact hrow (Inside.inExchange _ (fun x hx => K.takeWait a good hx h) h)
  case replyWindowClose => exact hrow (Inside.inExchange _ (fun x hx => K.attemptFailed hx h) h)
  case waitGapEnd => exact hrow (K.endPhase .gap h)
  case lineConflict => exact hrow (K.pollConflict h)
  case lineHeldLowTimeout => exact hrow (K.addConflict (K.line s _ (lineMoves_of_txn (by rfl)) h))
  case conflictRestEnd => exact hrow (K.endPhase .rest h)
  case suspensionEnd => exact hrow (K.lineIf _ _ (by rfl) h)
  case callPulse => exact hrow (K.lineIf _ _ (by rfl) h)
  case discoveryTimerExpiry => exact hrow (K.line s _ (lineMoves_of_txn (by rfl)) h)
  case overcurrent => exact hrow (K.overcurrent h)
  case lineRestart => exact hrow (K.lineIf _ _ (by rfl) h)
  case lineSettleEnd => exact hrow (K.lineIf _ _ (by rfl) h)
  case room0Sample => exact hrow (K.room0Sample h)
  case sessionStep => exact hrow (K.sessionStep h)
  case sessionTimeout room => exact hmark (K.sessionStep h)
  case callTimeEnd room => exact hmark (K.sessionStep h)
  case overrunEnd room => exact hmark (K.sessionStep h)
  case openingTimeout room => exact hmark (K.sessionStep h)
  case boostShort room => exact hmark (K.sessionStep h)
  case modeStep => exact hrow (K.modeStep h)
  case standbyBegin => exact hmark (K.modeStep h)
  case airingBurstStart => exact hmark (K.modeStep h)
  case airingBurstEnd => exact hmark (K.modeStep h)
  case standbyLimit => exact hmark (K.modeStep h)
  case probingStart => exact hmark (K.modeStep h)
  case alive => exact hmark (K.modeStep h)
  case hostLost => exact hmark (K.modeStep h)
  case goodFrame check => exact hrow (K.goodFrame check h)
  case badCheckFrame check => exact hrow (K.receiverIf _ _ (by rfl) (by rfl) h)
  case lengthError byte => exact hrow (K.receiverIf _ _ (by rfl) (by rfl) h)
  case interByteGap =>
    refine hrow ?_
    unfold gapAbandon
    split
    · exact h
    · exact K.receiver s _ (by rfl) (by rfl) h
  case lineErrorByte => exact hrow (K.receiver s _ (by rfl) (by rfl) h)
  case frameSent => exact hrow (K.frameSent (fun hr => hreset hr _ _ _) h)
  case byteReceived byte => exact hrow (K.byteReceived byte h)
  case saveWriteComplete => exact hrow (K.writeComplete h)
  case fanRunningHour =>
    have hc : StoreMoves s { s.store with fanRunning := 0 } := storeMoves_same rfl rfl
    exact hrow (K.askSave (K.store s _ hc h))
  case filterReset tag filter =>
    refine hrow (K.hostRequest tag (.filterReset filter) ?_ h)
    intro _ st hq hst
    cases hq
    exact hrenew tag filter st rfl hst
  case ping tag => exact hrequest (q := .ping) nofun
  case getStatus tag page => exact hrequest (q := .getStatus page) nofun
  case getEvents tag => exact hrequest (q := .getEvents) nofun
  case setEventMask tag mask => exact hrequest (q := .setEventMask mask) nofun
  case setDemand tag source key level expiry exempt =>
    exact hrequest (q := .setDemand source key level expiry exempt) nofun
  case clearDemand tag source key => exact hrequest (q := .clearDemand source key) nofun
  case getDemands tag first => exact hrequest (q := .getDemands first) nofun
  case getFlows tag => exact hrequest (q := .getFlows) nofun
  case fanRecover tag stream => exact hrequest (q := .fanRecover stream) nofun
  case getFrost tag => exact hrequest (q := .getFrost) nofun
  case forceDefrost tag => exact hrequest (q := .forceDefrost) nofun
  case frostRelease tag => exact hrequest (q := .frostRelease) nofun
  case learnExchanger tag => exact hrequest (q := .learnExchanger) nofun
  case getFilter tag filter => exact hrequest (q := .getFilter filter) nofun
  case getNodes tag first => exact hrequest (q := .getNodes first) nofun
  case nodePin tag address room kind => exact hrequest (q := .nodePin address room kind) nofun
  case nodeUnpin tag address => exact hrequest (q := .nodeUnpin address) nofun
  case nodeForget tag address => exact hrequest (q := .nodeForget address) nofun
  case discover tag => exact hrequest (q := .discover) nofun
  case getRooms tag room => exact hrequest (q := .getRooms room) nofun
  case getSessions tag first => exact hrequest (q := .getSessions first) nofun
  case boostCancel tag room => exact hrequest (q := .boostCancel room) nofun
  case setMode tag mode => exact hrequest (q := .setMode mode) nofun
  case getParam tag id => exact hrequest (q := .getParam id) nofun
  case setParam tag id value => exact hrequest (q := .setParam id value) nofun
  case setTableTemperature tag points => exact hrequest (q := .setTableTemperature points) nofun
  case setTableFeedforward tag st points => exact hrequest (q := .setTableFeedforward st points) nofun
  case saveSettings tag => exact hrequest (q := .saveSettings) nofun
  case restoreDefaults tag => exact hrequest (q := .restoreDefaults) nofun
  case resetPart tag => exact hrequest (q := .resetPart) nofun

end Linked

/-- What each operation keeps, every step of the part keeps, those with no command waiting included. -/
theorem Kept.step {P : State → Prop} (K : Kept P) {s t : State} (hscan : ∀ u, P u → P (completeScan u))
    (hreset : ∀ u power line cause, P u → P (blank power line cause (imageAfterReset u.store) u.pending))
    (hrenew : ∀ st u, P u → P (u.setFilter st (u.filters.get st).renewed))
    (h : P s) (ht : step s = .next t) : P t := by
  unfold Machine.step at ht
  split at ht
  · injection ht with ht
    subst ht
    exact whenRunning_keeps h fun _ => K.pending _ _ (K.advance s h)
  next c rest _ =>
    have hs := K.pending s rest h
    exact K.exec hscan (fun _ => fun _ _ _ => hreset _ _ _ _ hs) (fun _ _ st _ _ => hrenew st) hs ht

end Sys2Proof.Proofs
end

section
/-! SUPPORT. Proofs: what every step keeps of fans, frost guarding and filters (O16, O29, O30, O36). -/

namespace Sys2Proof.Proofs

open Sys2Proof Sys2Proof.Machine

/-! ### The coupling (R23) -/

theorem coupled_handOn {s : State} {st : Stream} {f : FanRecord} (es : List Event) (b : Bool) (hf : HandsOn s st f)
    (h : Coupled s) : Coupled (handOn st f es b s) := by
  have hfan := congrArg FanRecord.qCmd (handOn_fan st f es b s)
  have hbound := hf.bounded
  cases st with
  | supply =>
    have hext := (handOn_other .supply f es b s).2 rfl
    simp only [PerStream.get] at hfan
    have := hbound rfl
    unfold Coupled at *
    omega
  | extract =>
    unfold handOn Coupled resolveIf clipSupply at *
    dsimp only
    simp only [raiseAll_eq, preheatCheckFor]
    split_ifs <;> simp_all [withTargets, PerStream.set, PerStream.get] <;> omega

theorem kept_coupled : Kept Coupled where
  handOn _ _ _ es b := coupled_handOn es b

/-- Settles O16. -/
theorem supplyNeverExceedsExtract : Obligations.SupplyNeverExceedsExtract := by
  unfold Obligations.SupplyNeverExceedsExtract
  intro s t h
  refine kept_coupled.step ?scan ?reset ?renew h
  case scan =>
    refine fun _ => kept_coupled.completeScan (fun _ _ hu => hu) fun u _ => ?_
    rw [finishStartUp]
    exact le_rfl
  case reset => exact fun _ _ _ _ _ => le_rfl
  case renew => exact fun _ _ hu => hu

/-! ### The window (R79) -/

theorem kept_window : Kept fun s => WindowLegal s.frost where
  handFrost s f es hf h := by rw [handFrost_eq]; exact hf.window h
  refit s x _ _ _ h := by unfold paramEffect; dsimp only; split <;> exact h

theorem windowLegal_reset (rx0 : Option Nat) (a : Nat) : WindowLegal (.reset rx0 a) := by
  simp [WindowLegal, FrostRecord.reset]

/-- Settles O29. -/
theorem windowStaysLegal : Obligations.WindowStaysLegal := by
  unfold Obligations.WindowStaysLegal
  intro s t h
  refine kept_window.step ?scan ?reset ?renew h
  case scan =>
    refine fun _ => kept_window.completeScan (fun _ _ hu => hu) fun u _ => ?_
    rw [finishStartUp_eq]
    exact windowLegal_reset _ _
  case reset => exact fun _ _ _ _ _ => windowLegal_reset _ _
  case renew => exact fun _ _ hu => hu

/-! ### The preheater (R83, R84) -/

theorem preheatLegal_off {s : State} (hd : s.frost.duty = 0) (ho : s.frost.output = false) : PreheatLegal s :=
  ⟨fun h => absurd hd h, fun h => absurd (ho.symm.trans h) nofun⟩

/-- A duty taken to 0 leaves a legal preheater, whatever else stands. -/
theorem preheatLegal_dropped (s : State) (f : FrostRecord) (h : s.frost = f.setDuty 0) : PreheatLegal s :=
  preheatLegal_off (by rw [h]; rfl) (by rw [h]; simp [FrostRecord.setDuty])

/-- What the interlock and the preheater's legality read. -/
def preheatView (s : State) : Nat × Bool × FrostStage × Nat × FanState × Nat × Validity × Bool × Bool :=
  (s.frost.duty, s.frost.output, s.frost.stage, s.frost.block, s.fans.supply.state, s.fans.supply.qMeas,
    s.seq.published.tPre.validity, s.seq.supplyLow, s.settings.preheatFitted)

theorem preheatLegal_of_view {s u : State} (hv : preheatView u = preheatView s) (h : PreheatLegal s) :
    PreheatLegal u := by
  simp only [preheatView, Prod.mk.injEq] at hv
  obtain ⟨hd, ho, hst, hb, hsup, hq, ht, hl, hf⟩ := hv
  unfold PreheatLegal FanRecord.running at *
  rw [hd, ho, hst, hb, hsup, hq, ht, hl, hf]
  exact h

theorem preheatLegal_resolveIf {s : State} (b : Bool) (h : PreheatLegal s) : PreheatLegal (resolveIf b s) := by
  cases b <;> exact h

theorem preheatView_clipSupply (old new : Nat) (s : State) : preheatView (clipSupply old new s) = preheatView s := by
  unfold clipSupply; split <;> rfl

theorem preheatView_raiseAll (es : List Event) (s : State) : preheatView (raiseAll es s) = preheatView s := by
  rw [raiseAll_eq]; rfl

theorem preheatLegal_handOn {s : State} {st : Stream} {f : FanRecord} (es : List Event) (b : Bool) (hf : HandsOn s st f)
    (h : PreheatLegal s) : PreheatLegal (handOn st f es b s) := by
  have hm := hf.measured
  unfold handOn
  refine preheatLegal_resolveIf _ ?_
  cases st with
  | supply =>
    dsimp only
    split
    next hst =>
      refine preheatLegal_of_view ?_ h
      rw [preheatView_raiseAll]
      simp only [PerStream.get] at hst hm
      simp [preheatView, PerStream.set, hst, hm]
    next => exact preheatLegal_check _ (by rw [raiseAll_eq]; exact h.2)
  | extract =>
    have hc : PreheatLegal (raiseAll es (clipSupply (s.fans.get .extract).qCmd f.qCmd (s.setFan .extract f))) :=
      preheatLegal_of_view (by rw [preheatView_raiseAll, preheatView_clipSupply]; rfl) h
    dsimp only
    split <;> exact hc

theorem kept_preheat : Kept PreheatLegal where
  supplyLow s h := by
    unfold updateSupplyLow
    dsimp only
    split
    next hl =>
      refine preheatLegal_of_view (s := s) ?_ h
      simp only [preheatView, hl, supplyLowUpdate_published]
    next => exact preheatLegal_check _ h.2
  estimate st s h := by
    unfold formEstimate
    cases st
    · exact preheatLegal_check _ h.2
    · exact h
  handOn _ _ _ es b := preheatLegal_handOn es b
  handFrost s f es hf _ := by
    unfold handFrost
    exact preheatLegal_resolveIf _ (preheatLegal_of_view (preheatView_raiseAll es _) hf.preheat)
  output _ _ _ hb h := ⟨h.1, hb⟩
  settings s x _ _ _ hx := preheatLegal_of_view (by simp only [preheatView, hx])
  resettle s x hx := preheatLegal_of_view (by simp only [preheatView, resolve, withTargets, hx])
  refit s x _ _ _ h := by
    unfold paramEffect
    dsimp only
    split
    next hx =>
      refine ⟨fun hd => ?_, h.2⟩
      obtain ⟨h1, h2, h3, h4, h5, -, h7⟩ := h.1 hd
      exact ⟨h1, h2, h3, h4, h5, hx, h7⟩
    next => exact preheatLegal_dropped _ s.frost rfl

/-- R63, step 5: a scan ends in an evaluation, which leaves a legal preheater whatever the scan published. -/
theorem preheatLegal_frostEvaluate (s : State) : PreheatLegal (frostEvaluate s).1 := by
  have ha : PreheatLegal (handFrost (evalFrost (frostEnv s) s.frost).1
      ((evalFrost (frostEnv s) s.frost).2.flatMap FrostMark.events) s) := by
    unfold handFrost
    exact preheatLegal_resolveIf _ (preheatLegal_of_view (preheatView_raiseAll _ _) (preheatLegal_evaluated s))
  unfold frostEvaluate
  dsimp only
  split
  · rw [askSave_eq]; exact ha
  · exact ha

/-- Settles O30: an evaluation makes the preheater legal, and what lies between evaluations tests the interlock. -/
theorem preheatOnlyUnderInterlock : Obligations.PreheatOnlyUnderInterlock := by
  unfold Obligations.PreheatOnlyUnderInterlock
  intro s t h
  refine kept_preheat.step ?scan ?reset ?renew h
  case scan => exact fun u _ => preheatLegal_frostEvaluate _
  case reset => exact fun _ _ _ _ _ => preheatLegal_off rfl rfl
  case renew => exact fun _ _ hu => hu

/-! ### Filters between resets (R98) -/

/-- A filter's state, dose and hours have not gone below those of a record. -/
def NotBelow (f : FilterRecord) (st : Stream) (s : State) : Prop :=
  f.state.rank ≤ (s.filters.get st).state.rank ∧ f.dose ≤ (s.filters.get st).dose ∧ f.hours ≤ (s.filters.get st).hours

theorem notBelow_setFilter {f g : FilterRecord} {st : Stream} {s : State} (st' : Stream)
    (hg : st' = st → FilterAges (s.filters.get st') g) (h : NotBelow f st s) : NotBelow f st (s.setFilter st' g) := by
  obtain ⟨hr, hd, hh⟩ := h
  by_cases hst : st' = st
  · subst hst
    obtain ⟨-, hr', hd', hh'⟩ := hg rfl
    simp only [NotBelow, State.setFilter_filters, PerStream.get_set]
    exact ⟨hr.trans hr', hd.trans hd', hh.trans hh'⟩
  · simp only [NotBelow, State.setFilter_filters, PerStream.get_set_ne _ _ (Ne.symm hst)]
    exact ⟨hr, hd, hh⟩

theorem kept_notBelow (f : FilterRecord) (st : Stream) : Kept (NotBelow f st) where
  filterRecord s st' g hg := notBelow_setFilter st' fun _ => hg
  formCeiling st' s h := by
    have hc : NotBelow f st (s.setFilter st' { s.filters.get st' with ceiling := ceilingOf s.settings (s.filters.get st') }) := by
      obtain ⟨hr, hd, hh⟩ := h
      cases st <;> cases st' <;> exact ⟨hr, hd, hh⟩
    rw [formCeiling_eq]
    exact hc

/-- Settles O36: a filter's record ages in every command but its own reset. -/
theorem filterNeverGoesBack : Obligations.FilterNeverGoesBack := by
  unfold Obligations.FilterNeverGoesBack
  intro c s t st ht hreset hrenew
  have K := kept_notBelow (s.filters.get st) st
  refine K.exec ?scan (fun hr => absurd (hreset.symm.trans hr) nofun) ?renew ⟨le_rfl, le_rfl, le_rfl⟩ ht
  case scan =>
    refine fun _ => K.completeScan (fun _ _ hu => hu) fun u hu => ?_
    rw [finishStartUp_eq]
    exact hu
  case renew =>
    intro tag filter st' hc hst' u hu
    exact notBelow_setFilter st' (fun hst => absurd (hst ▸ hst') (hrenew tag filter hc)) hu

end Sys2Proof.Proofs
end

section
/-! SUPPORT. Proofs: what every step keeps of the node table and the boost sessions (O43, O47). -/

namespace Sys2Proof.Proofs

open Sys2Proof Sys2Proof.Machine

/-! ### Legal node tables (06) -/

/-- A row lies in its ranges. -/
def RowInRange (r : NodeRow) : Prop := 1 ≤ r.address ∧ r.address ≤ 30 ∧ 1 ≤ r.room ∧ r.room ≤ 6

/-- Two rows share no address and no room. -/
def RowsApart (a b : NodeRow) : Prop := a.address ≠ b.address ∧ a.room ≠ b.room

/-- A legal table, place by place. -/
theorem nodesLegal_iff {t : NodeTable} :
    NodesLegal t ↔ (∀ (i j : Nat) (a b : NodeRow), i ≠ j → t[i]? = some (some a) → t[j]? = some (some b) → RowsApart a b) ∧
      ∀ (i : Nat) (a : NodeRow), t[i]? = some (some a) → RowInRange a := by
  have hget : ∀ (i : Nat) (a : NodeRow), t[i]? = some (some a) ↔ t.toList[i]? = some (some a) := fun i a => by simp
  have hmem : ∀ a, a ∈ t.toList.filterMap id ↔ ∃ i : Nat, t[i]? = some (some a) := by
    intro a
    simp only [hget, ← List.mem_iff_getElem?, List.mem_filterMap, id_eq, exists_eq_right]
  unfold NodesLegal RowsLegal
  rw [List.pairwise_filterMap, List.pairwise_iff_getElem]
  constructor
  · rintro ⟨hpair, hrange⟩
    have hlt : ∀ (i j : Nat) (a b : NodeRow), i < j → t[i]? = some (some a) → t[j]? = some (some b) → RowsApart a b := by
      intro i j a b hij hi hj
      obtain ⟨hi6, hia⟩ := List.getElem?_eq_some_iff.mp ((hget i a).mp hi)
      obtain ⟨hj6, hjb⟩ := List.getElem?_eq_some_iff.mp ((hget j b).mp hj)
      exact hpair i j hi6 hj6 hij a hia b hjb
    refine ⟨fun i j a b hij hi hj => ?_, fun i a hi => hrange a ((hmem a).mpr ⟨i, hi⟩)⟩
    obtain h | h := Nat.lt_or_gt_of_ne hij
    · exact hlt i j a b h hi hj
    · obtain ⟨ha, hm⟩ := hlt j i b a h hj hi
      exact ⟨Ne.symm ha, Ne.symm hm⟩
  · rintro ⟨hapart, hrange⟩
    refine ⟨fun i j hi hj hij a ha b hb => ?_, fun a ha => ?_⟩
    · exact hapart i j a b hij.ne ((hget i a).mpr (List.getElem?_eq_some_iff.mpr ⟨hi, ha⟩))
        ((hget j b).mpr (List.getElem?_eq_some_iff.mpr ⟨hj, hb⟩))
    · obtain ⟨i, hi⟩ := (hmem a).mp ha
      exact hrange i a hi

/-- A row placed apart from every other, or a place emptied, leaves a legal table. -/
theorem nodesLegal_setRow {t : NodeTable} {p : Nat} {r : Option NodeRow} (h : NodesLegal t)
    (hr : ∀ a, r = some a → RowInRange a ∧ ∀ j b, j ≠ p - 1 → t[j]? = some (some b) → RowsApart a b) :
    NodesLegal (setRow t p r) := by
  obtain ⟨hapart, hrange⟩ := nodesLegal_iff.mp h
  have hat : ∀ (i : Nat) (a : NodeRow), (setRow t p r)[i]? = some (some a) → (i = p - 1 ∧ r = some a) ∨ (i ≠ p - 1 ∧ t[i]? = some (some a)) := by
    intro i a hi
    unfold setRow at hi
    rw [Vector.getElem?_setIfInBounds] at hi
    split at hi
    next hpi =>
      split at hi
      · exact Or.inl ⟨hpi.symm, by simpa using hi⟩
      · exact nomatch hi
    next hpi => exact Or.inr ⟨Ne.symm hpi, hi⟩
  refine nodesLegal_iff.mpr ⟨fun i j a b hij hi hj => ?_, fun i a hi => ?_⟩
  · obtain ⟨rfl, ha⟩ | ⟨hip, ha⟩ := hat i a hi <;> obtain ⟨rfl, hb⟩ | ⟨hjp, hb⟩ := hat j b hj
    · exact absurd rfl hij
    · exact (hr a ha).2 j b hjp hb
    · obtain ⟨haddr, hroom⟩ := (hr b hb).2 i a hip ha
      exact ⟨Ne.symm haddr, Ne.symm hroom⟩
    · exact hapart i j a b hij ha hb
  · obtain ⟨-, ha⟩ | ⟨-, ha⟩ := hat i a hi
    · exact (hr a ha).1
    · exact hrange i a ha

theorem getElem?_of_rowAt {t : NodeTable} {p : Nat} {r : NodeRow} (h : rowAt t p = some r) :
    t[p - 1]? = some (some r) := by
  unfold rowAt at h
  split at h
  · exact nomatch h
  · simpa [Option.join_eq_some_iff] using h

/-- A table in which no row passes a test. -/
theorem findRow_none {t : NodeTable} {ok : NodeRow → Bool} (h : findRow t ok = none) {j : Nat} {b : NodeRow}
    (hb : t[j]? = some (some b)) : ok b = false := by
  obtain ⟨hj, -⟩ := Vector.getElem?_eq_some_iff.mp hb
  have hpos : j + 1 ∈ positions := by simp [positions]; omega
  have hp := List.findSome?_eq_none_iff.mp h (j + 1) hpos
  have hrow : rowAt t (j + 1) = some b := by
    unfold rowAt
    rw [if_neg (by omega), Nat.add_sub_cancel, hb]
    rfl
  simpa [hrow] using hp

theorem tablesLegal_nodes {s u : State} (hn : NodesLegal u.nodes) (hs : u.store = s.store) (hl : u.line = s.line)
    (h : TablesLegal s) : TablesLegal u := by
  obtain ⟨-, hi, hw, ht⟩ := h
  unfold TablesLegal
  rw [hs, hl]
  exact ⟨hn, hi, hw, ht⟩

theorem nodesLegal_tick {t : NodeTable} (h : NodesLegal t) : NodesLegal (mapVec (Option.map NodeRow.tick) t) := by
  refine rowsLegal_map ?_ h
  rintro (_ | r) b hb
  · exact nomatch hb
  · obtain rfl : r.tick = b := by simpa using hb
    refine ⟨r, rfl, ?_⟩
    unfold NodeRow.tick
    split
    · split <;> exact ⟨rfl, rfl⟩
    · exact ⟨rfl, rfl⟩

theorem nodesLegal_loadRow {i : Image} (h : RowsLegal StoredRow.address StoredRow.room (i.rows.toList.filterMap id)) :
    NodesLegal (mapVec loadRow i.rows) := by
  refine rowsLegal_map ?_ h
  rintro (_ | r) b hb
  · exact nomatch hb
  · obtain rfl : NodeRow.unheard r.address r.room r.kind = b := by simpa [loadRow] using hb
    exact ⟨r, rfl, rfl, rfl⟩

theorem tickTxn_legal {l : LineRecord} (h : PollsLegal l) : PollsLegal l.tickDiscovery.tickState.tickTxn := by
  have htxn : l.tickDiscovery.tickState.txn = l.txn := by
    have hd : l.tickDiscovery.txn = l.txn := by unfold LineRecord.tickDiscovery; split <;> rfl
    rw [← hd]
    unfold LineRecord.tickState
    split <;> (try split) <;> (try split) <;> rfl
  unfold PollsLegal LineRecord.tickTxn at *
  dsimp only
  rw [htxn]
  cases hx : l.txn with
  | none => simp
  | some x =>
    rw [hx] at h
    simpa using h

theorem kept_tables : Kept TablesLegal where
  putRow s p r r' hr ha hm h := by
    obtain ⟨hapart, hrange⟩ := nodesLegal_iff.mp h.1
    have hp := getElem?_of_rowAt hr
    refine tablesLegal_nodes (s := s) (nodesLegal_setRow h.1 ?_) rfl rfl h
    rintro a ⟨⟩
    unfold RowInRange RowsApart
    rw [ha, hm]
    exact ⟨hrange _ r hp, fun j b hj hb => hapart _ j r b (Ne.symm hj) hp hb⟩
  addRow s p r h1 h6 hempty ha hm hadr hr1 hr6 h := by
    obtain ⟨ha1, ha30⟩ := hadr h
    refine tablesLegal_nodes (s := s) (nodesLegal_setRow h.1 ?_) rfl rfl h
    rintro a ⟨⟩
    refine ⟨⟨ha1, ha30, hr1, hr6⟩, fun j b _ hb => ⟨?_, ?_⟩⟩
    · have := findRow_none ha hb
      exact fun he => by simp [he] at this
    · have := findRow_none hm hb
      exact fun he => by simp [he] at this
  dropRow s p h := tablesLegal_nodes (s := s) (nodesLegal_setRow h.1 nofun) rfl rfl h
  line s l hl h := ⟨h.1, h.2.1, h.2.2.1, hl h.1 h.2.2.2⟩
  store s x hx h := ⟨h.1, (hx h.1 h.2.1 h.2.2.1).1, (hx h.1 h.2.1 h.2.2.1).2, h.2.2.2⟩
  advance s h := ⟨nodesLegal_tick h.1, h.2.1, h.2.2.1, tickTxn_legal h.2.2.2⟩

theorem imageLegal_afterReset {x : Store} (h : ImageLegal x.image) : ImageLegal (imageAfterReset x) := by
  unfold imageAfterReset
  split
  · exact imageLegal_none
  · exact h

theorem tablesLegal_blank (power : Power) (line : Bool) (cause : ResetCause) {image : Option Image} (pending : List Instr)
    (h : ImageLegal image) : TablesLegal (blank power line cause image pending) := by
  refine ⟨?_, h, imageLegal_none, by simp [blank, LineRecord.reset]⟩
  refine nodesLegal_loadRow ?_
  cases image with
  | none => decide
  | some i => exact h i (by simp)

/-- Settles O43. -/
theorem tablesStayLegal : Obligations.TablesStayLegal := by
  unfold Obligations.TablesStayLegal
  intro s t h
  refine kept_tables.step ?scan ?reset ?renew h
  case scan =>
    refine fun _ => kept_tables.completeScan (fun _ _ hu => hu) fun u hu => ?_
    rw [finishStartUp_eq]
    exact hu
  case reset => exact fun u _ _ _ hu => tablesLegal_blank _ _ _ _ (imageLegal_afterReset hu.2.1)
  case renew => exact fun _ _ hu => hu

/-! ### Boost sessions and their entries (R42, R131, R132, R139) -/

/-- What a BOOST entry, and a session, show of each other. -/
def boostShown (s : State) (room : Nat) : Option (Nat × Bool) :=
  (s.demand.boostOf room).map fun e => (e.level, e.exempt)

def sessionShown (s : State) (room : Nat) : Option (Nat × Bool) :=
  (s.session room).map fun x => (x.level, x.urgency.exempt)

theorem session_map {f : Session → Session} (hf : ∀ x, (f x).room = x.room) (l : List Session) (room : Nat) :
    (l.map f).find? (fun x => x.room == room) = (l.find? fun x => x.room == room).map f := by
  have hroom : (fun x => x.room == room) ∘ f = fun x => x.room == room := by funext x; simp [hf]
  rw [List.find?_map, hroom]

theorem rooms_map {f : Session → Session} (hf : ∀ x, (f x).room = x.room) (l : List Session) :
    (l.map f).map (·.room) = l.map (·.room) := by
  simp [Function.comp_def, hf]

/-- Sessions changed at their rooms, levels and urgencies. -/
theorem boostsMatch_map {s u : State} {f : Session → Session}
    (hf : ∀ x, (f x).room = x.room ∧ (f x).level = x.level ∧ (f x).urgency = x.urgency)
    (hs : u.sessions = s.sessions.map f) (hd : u.demand.boost = s.demand.boost) (h : BoostsMatch s) : BoostsMatch u := by
  obtain ⟨hnodup, hrange, hshown⟩ := h
  have hroom : ∀ x, (f x).room = x.room := fun x => (hf x).1
  refine ⟨?_, ?_, fun room hr => ?_⟩
  · rw [hs, rooms_map hroom]; exact hnodup
  · intro x hx
    rw [hs, List.mem_map] at hx
    obtain ⟨y, hy, rfl⟩ := hx
    rw [hroom]; exact hrange y hy
  · have hsession : u.session room = (s.session room).map f := by
      unfold State.session; rw [hs]; exact session_map hroom _ _
    have hboost : u.demand.boostOf room = s.demand.boostOf room := by unfold DemandTable.boostOf; rw [hd]
    rw [hsession, hboost, hshown room hr, Option.map_map]
    congr 1
    funext x
    simp [(hf x).2.1, (hf x).2.2]

theorem session_none {s : State} {room : Nat} (h : s.session room = none) : ∀ x ∈ s.sessions, x.room ≠ room := by
  simpa [State.session] using h

theorem boostsMatch_openSession {s : State} {room : Nat} (t : Trigger) (u : Urgency) (hnone : s.session room = none)
    (hr : room ≤ 6) (h : BoostsMatch s) : BoostsMatch (openSession room t u s) := by
  obtain ⟨hnodup, hrange, hshown⟩ := h
  have hfree := session_none hnone
  obtain ⟨hat, hother⟩ := boostOf_setBoost s.demand room
    (some ⟨(newSession room t u s).level, none, u.exempt, s.uptime, 0⟩) hr
  refine ⟨?_, ?_, fun room' hr' => ?_⟩
  · have hrooms : (openSession room t u s).sessions.map (·.room) = s.sessions.map (·.room) ++ [room] := by
      simp [openSession, writeDemand, newSession]
    rw [hrooms]
    refine List.nodup_append.mpr ⟨hnodup, List.nodup_singleton _, ?_⟩
    simpa using hfree
  · intro x hx
    rw [openSession_eq] at hx
    obtain hx | hx := List.mem_append.mp hx
    · exact hrange x hx
    · obtain rfl : x = newSession room t u s := by simpa using hx
      exact hr
  · have hboost : (openSession room t u s).demand.boostOf room' =
        (setBoost room (some ⟨(newSession room t u s).level, none, u.exempt, s.uptime, 0⟩) s.demand).boostOf room' := rfl
    have hsession : (openSession room t u s).session room' =
        (s.session room').or (if room = room' then some (newSession room t u s) else none) := by
      simp [State.session, openSession, writeDemand, List.find?_append, List.find?_singleton, newSession]
    rw [hboost, hsession]
    by_cases he : room = room'
    · subst he
      rw [hat, hnone]
      simp [newSession]
    · rw [hother room' (Ne.symm he), if_neg he, Option.or_none]
      exact hshown room' hr'

theorem boostsMatch_closeSession {s : State} (room : Nat) (why : CloseReason) (h : BoostsMatch s) :
    BoostsMatch (closeSession room why s) := by
  obtain ⟨hnodup, hrange, hshown⟩ := h
  refine ⟨?_, ?_, fun room' hr' => ?_⟩
  · exact hnodup.sublist (List.filter_sublist.map _)
  · exact fun x hx => hrange x (List.mem_of_mem_filter hx)
  · have hboost : (closeSession room why s).demand.boostOf room' = (setBoost room none s.demand).boostOf room' := rfl
    have hsession : (closeSession room why s).session room' = if room = room' then none else s.session room' := by
      have hlist : (closeSession room why s).sessions = s.sessions.filter fun x => x.room != room := rfl
      unfold State.session
      rw [hlist, List.find?_filter]
      split
      next he => subst he; simp
      next he =>
        congr 1
        funext x
        by_cases hx : x.room = room' <;> simp [hx, Ne.symm he]
    rw [hboost, hsession]
    by_cases he : room = room'
    · subst he
      rw [(boostOf_setBoost s.demand room none hr').1]
      simp
    · rw [if_neg he]
      have : (setBoost room none s.demand).boostOf room' = s.demand.boostOf room' := by
        simp [DemandTable.boostOf, setBoost, he]
      rw [this]
      exact hshown room' hr'

theorem putSession_session {s : State} {y : Session} {x : Session} (hx : s.session y.room = some x) (room : Nat) :
    (putSession y s).session room = if room = y.room then some y else s.session room := by
  have hmap : (putSession y s).session room = (s.session room).map fun z => if z.room = y.room then y else z := by
    unfold State.session
    rw [putSession_sessions]
    refine session_map (fun z => ?_) _ _
    split <;> simp_all
  rw [hmap]
  split
  next he => subst he; rw [hx]; simp [session_room hx]
  next he =>
    cases hs : s.session room with
    | none => rfl
    | some z => simp [session_room hs, he]

theorem boostsMatch_putSession {s : State} {x y : Session} (hx : s.session x.room = some x) (hy : SameBoost x y)
    (h : BoostsMatch s) : BoostsMatch (putSession y s) := by
  obtain ⟨hnodup, hrange, hshown⟩ := h
  obtain ⟨hroom, hlevel, hurgency, -⟩ := hy
  have hf : ∀ z : Session, (if z.room = y.room then y else z).room = z.room := fun z => by split <;> simp_all
  refine ⟨?_, ?_, fun room hr => ?_⟩
  · rw [putSession_sessions, rooms_map hf]; exact hnodup
  · intro z hz
    rw [putSession_sessions, List.mem_map] at hz
    obtain ⟨w, hw, rfl⟩ := hz
    rw [hf]; exact hrange w hw
  · have hxy : s.session y.room = some x := by rw [hroom]; exact hx
    rw [putSession_session hxy, putSession_demand, hshown room hr]
    split
    next he => rw [he, hxy]; simp [hlevel, hurgency]
    next => rfl

theorem sampledSession_room (rh : Nat) (r : RoomRecord) (x : Session) :
    (sampledSession rh r x).room = x.room ∧ (sampledSession rh r x).held = x.held := by
  have hpeak : ∀ z : Session, (raisePeak rh z).room = z.room ∧ (raisePeak rh z).held = z.held := by
    intro z; unfold raisePeak; split
    · split <;> exact ⟨rfl, rfl⟩
    · exact ⟨rfl, rfl⟩
  have hlimit : ∀ z : Session, (raiseToLimit rh r z).room = z.room ∧ (raiseToLimit rh r z).held = z.held := by
    intro z; unfold raiseToLimit; split <;> exact ⟨rfl, rfl⟩
  have hrelease : ∀ t (z : Session), (applyRelease t z).room = z.room ∧ (applyRelease t z).held = z.held := by
    intro t z; unfold applyRelease; split
    · exact ⟨rfl, rfl⟩
    · split <;> exact ⟨rfl, rfl⟩
    · exact ⟨rfl, rfl⟩
  unfold sampledSession
  dsimp only
  rw [(hrelease _ _).1, (hrelease _ _).2, (hlimit _).1, (hlimit _).2, (hpeak _).1, (hpeak _).2]
  exact ⟨rfl, rfl⟩

theorem boostsMatch_sampleSession {s : State} {x : Session} (rh : Nat) (hx : s.session x.room = some x)
    (h : BoostsMatch s) : BoostsMatch (sampleSession rh x s) := by
  obtain ⟨hroom, hheld⟩ := sampledSession_room rh (s.room x.room) x
  unfold sampleSession relevel
  dsimp only
  generalize sampledSession rh (s.room x.room) x = y at hroom hheld ⊢
  split
  next he => exact boostsMatch_putSession hx ⟨hroom, he.1.symm, he.2.symm, hheld⟩ h
  next =>
    have hxy : s.session y.room = some x := by rw [hroom]; exact hx
    have hr6 : x.room ≤ 6 := h.2.1 x (List.mem_of_find?_eq_some hx)
    obtain ⟨hnodup, hrange, hshown⟩ := h
    have hf : ∀ z : Session, (if z.room = y.room then y else z).room = z.room := fun z => by split <;> simp_all
    refine ⟨?_, ?_, fun room hr => ?_⟩
    · exact (rooms_map hf s.sessions).symm ▸ hnodup
    · intro z hz
      obtain ⟨w, hw, rfl⟩ := List.mem_map.mp hz
      rw [hf]; exact hrange w hw
    · have hboost : ∀ g : DemandTable → Option DemandEntry, (writeDemand (fun d => setBoost x.room (g d) d) (putSession y s)).demand.boostOf room =
          (setBoost x.room (g s.demand) s.demand).boostOf room := fun _ => rfl
      have hsession : ∀ g : DemandTable → DemandTable, (writeDemand g (putSession y s)).session room = (putSession y s).session room := fun _ => rfl
      rw [hboost fun d => (d.boostOf x.room).map fun e => { e with level := y.level, exempt := y.urgency.exempt }, hsession,
        putSession_session hxy]
      by_cases he : room = x.room
      · subst he
        have hentry := hshown x.room hr6
        rw [hx] at hentry
        obtain ⟨e, he, -⟩ := Option.map_eq_some_iff.mp hentry
        rw [(boostOf_setBoost s.demand x.room _ hr6).1, he, if_pos hroom.symm]
        rfl
      · rw [(boostOf_setBoost s.demand x.room _ hr6).2 room he, if_neg (by rw [hroom]; exact he)]
        exact hshown room hr

theorem kept_boosts : Kept BoostsMatch where
  writeDemand s f hf h := by
    refine boostsMatch_map (s := s) (f := id) (fun _ => ⟨rfl, rfl, rfl⟩) (by simp [writeDemand]) ?_ h
    exact (hf s.demand).1
  openSession s room t u hnone hr h := boostsMatch_openSession t u hnone hr h
  closeSession s room why h := boostsMatch_closeSession room why h
  putSession s x y hx hy h := boostsMatch_putSession hx hy h
  sampleSession s x rh hx h := boostsMatch_sampleSession rh hx h
  enterEntry s _ h :=
    boostsMatch_map (s := s) (f := fun x => { x with held := true, shortCount := 0 }) (fun _ => ⟨rfl, rfl, rfl⟩) rfl rfl h
  leaveEntry s m _ _ h := boostsMatch_map (s := s) (f := fun x => { x with held := false }) (fun _ => ⟨rfl, rfl, rfl⟩) rfl rfl h
  leaveStandby s m _ _ h := by
    unfold Machine.leaveStandby
    dsimp only
    split <;> exact boostsMatch_map (s := s) (f := fun x => { x with held := false }) (fun _ => ⟨rfl, rfl, rfl⟩) rfl rfl h

/-- Settles O47. -/
theorem boostsStayMatched : Obligations.BoostsStayMatched := by
  unfold Obligations.BoostsStayMatched
  intro s t h
  refine kept_boosts.step ?scan ?reset ?renew h
  case scan =>
    refine fun _ => kept_boosts.completeScan (fun _ _ hu => hu) fun u hu => ?_
    rw [finishStartUp_eq]
    exact boostsMatch_map (s := u) (f := fun x => { x with held := false }) (fun _ => ⟨rfl, rfl, rfl⟩) rfl rfl hu
  case reset =>
    intro u power line cause _
    refine ⟨List.nodup_nil, nofun, fun room hr => ?_⟩
    have hseven : room < 7 := by omega
    simp [blank, DemandTable.reset, DemandTable.boostOf, State.session, hseven]
  case renew => exact fun _ _ hu => hu

end Sys2Proof.Proofs
end

section
/-! SUPPORT. Proofs: what every step keeps of airing, the held sessions and the FALLBACK entry (O51). -/

namespace Sys2Proof.Proofs

open Sys2Proof Sys2Proof.Machine

/-- What every step keeps of the modes (R140, R147 to R153). -/
abbrev ModesLegal (s : State) : Prop := AiringLegal s ∧ HeldLegal s ∧ FallbackLegal s

theorem ModesLegal.airing {s : State} (h : ModesLegal s) : AiringLegal s := h.1

theorem ModesLegal.held {s : State} (h : ModesLegal s) : HeldLegal s := h.2.1

theorem ModesLegal.fallback {s : State} (h : ModesLegal s) : FallbackLegal s := h.2.2

theorem ne_standby_of_not_inStandby {m : Mode} (h : m.inStandby = false) : m ≠ .standby := by
  rintro rfl
  exact nomatch h

/-- Airing outside STANDBY: nothing is scheduled, no burst lives. -/
theorem airingLegal_outside {s : State} (hmode : s.mode.mode ≠ .standby) :
    AiringLegal s ↔ s.mode.nextAiring = none ∧ s.demand.airing = none ∧ s.mode.airing = 0 := by
  unfold AiringLegal
  constructor
  · rintro ⟨hnext, hentry, hburst⟩
    have hzero : s.mode.airing = 0 := by
      by_contra hpos
      exact hmode (hburst (Nat.pos_of_ne_zero hpos))
    refine ⟨by simpa [hmode] using hnext, ?_, hzero⟩
    simpa [hzero] using hentry
  · rintro ⟨hnext, hentry, hzero⟩
    simp [hnext, hentry, hzero, hmode]

/-- The sessions, changed to be held as the mode says. -/
theorem held_map {f : Session → Session} {b : Bool} (hf : ∀ x, (f x).held = b) (l : List Session) :
    ∀ x ∈ l.map f, x.held = b := by
  intro x hx
  obtain ⟨y, -, rfl⟩ := List.mem_map.mp hx
  exact hf y

/-- A session put in place of its like keeps every session's hold. -/
theorem held_putSession {s : State} {x y : Session} (hx : s.session x.room = some x) (hy : y.held = x.held) (h : HeldLegal s) :
    HeldLegal (putSession y s) := by
  unfold HeldLegal
  intro z hz
  rw [putSession_sessions, List.mem_map] at hz
  obtain ⟨w, hw, rfl⟩ := hz
  split
  · rw [hy]
    exact h x (List.mem_of_find?_eq_some hx)
  · exact h w hw

theorem modesLegal_sampleSession {s : State} {x : Session} (rh : Nat) (hx : s.session x.room = some x) (h : ModesLegal s) :
    ModesLegal (sampleSession rh x s) := by
  have hheld := held_putSession hx (sampledSession_room rh (s.room x.room) x).2 h.held
  unfold sampleSession relevel
  dsimp only
  split
  · exact ⟨h.airing, hheld, h.fallback⟩
  · exact ⟨h.airing, hheld, h.fallback⟩

/-- A burst that ends, in any mode, keeps the AIRING entry and its timer together. -/
theorem airingLegal_endBurst {s : State} (h : AiringLegal s) : AiringLegal (endBurst s) := by
  unfold endBurst AiringLegal writeDemand
  simpa using h.1

theorem modesLegal_leaveStandby {s : State} {m : Mode} (hm : m.inStandby = false) (h : ModesLegal s) :
    ModesLegal (leaveStandby m s) := by
  have hentry : AiringLegal s := h.airing
  unfold Machine.leaveStandby
  dsimp only
  split
  next => exact
    ⟨(airingLegal_outside (ne_standby_of_not_inStandby hm)).mpr ⟨rfl, rfl, rfl⟩, held_map (fun _ => hm.symm) _, h.fallback⟩
  next hpos =>
    have hzero : s.mode.airing = 0 := by omega
    have hnone : s.demand.airing = none := by simpa [hzero] using hentry.2.1
    exact ⟨(airingLegal_outside (ne_standby_of_not_inStandby hm)).mpr ⟨rfl, hnone, hzero⟩, held_map (fun _ => hm.symm) _, h.fallback⟩

theorem kept_modes : Kept ModesLegal where
  writeDemand s f hf h := by
    obtain ⟨-, hairing, hfallback⟩ := hf s.demand
    refine ⟨?_, h.held, ?_⟩
    · have := h.airing
      unfold AiringLegal at *
      rwa [← hairing] at this
    · have := h.fallback
      unfold FallbackLegal at *
      rwa [← hfallback] at this
  openSession s room t u _ _ h := by
    refine ⟨h.airing, ?_, h.fallback⟩
    intro x hx
    rw [openSession_eq] at hx
    obtain hx | hx := List.mem_append.mp hx
    · exact h.held x hx
    · obtain rfl : x = newSession room t u s := by simpa using hx
      rfl
  closeSession s room why h := ⟨h.airing, fun x hx => h.held x (List.mem_of_mem_filter hx), h.fallback⟩
  putSession s x y hx hy h := by
    obtain ⟨-, -, -, hheld⟩ := hy
    exact ⟨h.airing, held_putSession hx hheld h.held, h.fallback⟩
  sampleSession s x rh hx h := modesLegal_sampleSession rh hx h
  modeTimers s m hmode hnext hburst h := by
    refine ⟨?_, ?_, h.fallback⟩
    · have := h.airing
      unfold AiringLegal at *
      dsimp only
      rwa [hmode, hnext, hburst]
    · have := h.held
      unfold HeldLegal at *
      dsimp only
      rwa [hmode]
  changeMode s m hm hs h := by
    refine ⟨(airingLegal_outside (ne_standby_of_not_inStandby hm)).mpr
      ((airingLegal_outside (ne_standby_of_not_inStandby hs)).mp h.airing), fun x hx => ?_, h.fallback⟩
    rw [h.held x hx, hs]
    exact hm.symm
  enterEntry s hs h :=
    ⟨(airingLegal_outside (s := holdSessions (changeMode .standbyEntry s)) nofun).mpr
      ((airingLegal_outside (ne_standby_of_not_inStandby hs)).mp h.airing),
      held_map (f := fun x => { x with held := true, shortCount := 0 }) (fun _ => rfl) _, h.fallback⟩
  leaveEntry s m hm hs h :=
    ⟨(airingLegal_outside (ne_standby_of_not_inStandby hm)).mpr
      ((airingLegal_outside (s := s) (by rw [hs]; exact nofun)).mp h.airing),
      held_map (f := fun x => { x with held := false }) (fun _ => hm.symm) _, h.fallback⟩
  beginStandby s hs h := by
    obtain ⟨-, hentry, -⟩ := (airingLegal_outside (by rw [hs]; exact nofun)).mp h.airing
    refine ⟨?_, fun x hx => ?_, h.fallback⟩
    · unfold AiringLegal beginStandby changeMode scheduleAiring
      simp [hentry]
    · rw [h.held x hx, hs]
      rfl
  leaveStandby s m hm _ h := modesLegal_leaveStandby hm h
  startBurst s hs h := by
    refine ⟨?_, h.held, h.fallback⟩
    unfold AiringLegal startBurst scheduleAiring writeDemand
    simp [hs]
  endBurst s h := ⟨airingLegal_endBurst h.airing, h.held, h.fallback⟩
  superv s v hv h := ⟨h.airing, h.held, h.fallback.trans hv.symm⟩
  endLoss s v hv h := ⟨h.airing, h.held, by unfold FallbackLegal writeDemand; simp [hv]⟩
  declareLost s h := ⟨h.airing, h.held, by unfold FallbackLegal declareLost writeDemand; simp⟩

theorem supervision_reset_ne_lost (interval : Nat) : (Supervision.reset interval).state ≠ .lost := by
  unfold Supervision.reset
  split <;> exact nofun

theorem modesLegal_finishStartUp (s : State) : ModesLegal (finishStartUp s) := by
  rw [finishStartUp_eq]
  have hairing : AiringLegal (settleBlocks s) :=
    (airingLegal_outside (s := settleBlocks s) (ne_standby_of_not_inStandby rfl)).mpr ⟨rfl, rfl, rfl⟩
  refine ⟨hairing, held_map (f := fun x => { x with held := false }) (fun _ => rfl) s.sessions, ?_⟩
  exact iff_of_false nofun (supervision_reset_ne_lost s.settings.supervisionInterval)

/-- Settles O51: the modes' work, and the release of the hold at every start-up, keep the three together. -/
theorem modesStayLegal : Obligations.ModesStayLegal := by
  unfold Obligations.ModesStayLegal
  intro s t hairing hheld hfallback hstep
  refine kept_modes.step ?scan ?reset ?renew ⟨hairing, hheld, hfallback⟩ hstep
  case scan => exact fun _ => kept_modes.completeScan (fun _ _ hu => hu) fun u _ => modesLegal_finishStartUp u
  case reset =>
    intro u power line cause _
    exact ⟨(airingLegal_outside (s := blank _ _ _ _ _) (ne_standby_of_not_inStandby rfl)).mpr ⟨rfl, rfl, rfl⟩, nofun,
      iff_of_false nofun (supervision_reset_ne_lost _)⟩
  case renew => exact fun _ _ hu => hu

end Sys2Proof.Proofs
end

section
/-! SUPPORT. Proofs: what every step keeps of the transmit queue (O55). -/

namespace Sys2Proof.Proofs

open Sys2Proof Sys2Proof.Machine

/-- What every step keeps of the transmit queue (R162, R172). -/
abbrev SendsLegally (s : State) : Prop := QueueLegal s ∧ FramesFit s

/-- The frames of a class in a queue. -/
def classCount (c : TxClass) (tx : List TxFrame) : Nat := (tx.filter fun fr => fr.cls == c).length

theorem waitingOf_eq (c : TxClass) (s : State) : waitingOf c s = classCount c s.link.tx := rfl

theorem classCount_append (c : TxClass) (tx : List TxFrame) (fr : TxFrame) :
    classCount c (tx ++ [fr]) = classCount c tx + if fr.cls = c then 1 else 0 := by
  unfold classCount
  by_cases h : fr.cls = c <;> simp [List.filter_append, h]

theorem classCount_cons (c : TxClass) (fr : TxFrame) (tx : List TxFrame) :
    classCount c (fr :: tx) = classCount c tx + if fr.cls = c then 1 else 0 := by
  unfold classCount
  by_cases h : fr.cls = c <;> simp [h]

/-- What the legality of the queue reads of a link. -/
def LinkLegal (tx : List TxFrame) (slot : Option Slot) : Prop :=
  classCount .slotReply tx ≤ 1 ∧ classCount .answer tx ≤ 2 ∧ classCount .notice tx ≤ 1 ∧
    (classCount .slotReply tx = 1 ↔ slot.map (·.phase) = some .replied) ∧
    ∀ fr ∈ tx, 2 ≤ fr.body.length ∧ fr.body.length ≤ 48

theorem sendsLegally_iff (s : State) : SendsLegally s ↔ LinkLegal s.link.tx s.link.slot := by
  unfold LinkLegal
  simp only [← waitingOf_eq]
  tauto

/-- A slot that is taken while no reply of it waits. -/
theorem linkLegal_slot {tx : List TxFrame} {slot : Option Slot} {x : Slot} (hslot : slot.map (·.phase) ≠ some .replied)
    (hx : x.phase ≠ .replied) (h : LinkLegal tx slot) : LinkLegal tx (some x) := by
  obtain ⟨hone, htwo, hnotice, hreplied, hfit⟩ := h
  refine ⟨hone, htwo, hnotice, ?_, hfit⟩
  simpa [hx] using fun hc => hslot (hreplied.mp hc)

/-- The slot's reply joins the queue. -/
theorem linkLegal_reply {tx : List TxFrame} {slot : Option Slot} {x : Slot} {body : List Byte}
    (hslot : slot.map (·.phase) ≠ some .replied) (hx : x.phase = .replied) (hlo : 2 ≤ body.length) (hhi : body.length ≤ 48)
    (h : LinkLegal tx slot) : LinkLegal (tx ++ [⟨.slotReply, body⟩]) (some x) := by
  obtain ⟨hone, htwo, hnotice, hreplied, hfit⟩ := h
  have hzero : classCount .slotReply tx = 0 := by
    have : classCount .slotReply tx ≠ 1 := fun hc => hslot (hreplied.mp hc)
    omega
  unfold LinkLegal
  simp only [classCount_append]
  refine ⟨by simp [hzero], by simpa using htwo, by simpa using hnotice, by simp [hzero, hx], ?_⟩
  simp only [List.forall_mem_append, List.forall_mem_singleton]
  exact ⟨hfit, hlo, hhi⟩

/-- A BUSY or WAKING reply, or a notice, joins the queue. -/
theorem linkLegal_append {tx : List TxFrame} {slot : Option Slot} {fr : TxFrame}
    (hanswer : fr.cls = .answer → classCount .answer tx < 2) (hnotice : fr.cls = .notice → classCount .notice tx = 0)
    (hcls : fr.cls ≠ .slotReply) (hlo : 2 ≤ fr.body.length) (hhi : fr.body.length ≤ 48) (h : LinkLegal tx slot) :
    LinkLegal (tx ++ [fr]) slot := by
  obtain ⟨hone, htwo, hfew, hreplied, hfit⟩ := h
  unfold LinkLegal
  simp only [classCount_append, if_neg hcls, Nat.add_zero]
  refine ⟨hone, ?_, ?_, hreplied, ?_⟩
  · split
    next hc => exact hanswer hc
    next => exact htwo
  · split
    next hc => rw [hnotice hc]
    next => exact hfew
  · simp only [List.forall_mem_append, List.forall_mem_singleton]
    exact ⟨hfit, hlo, hhi⟩

/-- The first frame leaves the queue, and the slot's reply empties the slot. -/
theorem linkLegal_popFrame {fr : TxFrame} {rest : List TxFrame} {slot : Option Slot} (h : LinkLegal (fr :: rest) slot) :
    LinkLegal rest (if fr.cls = .slotReply then none else slot) := by
  obtain ⟨hone, htwo, hfew, hreplied, hfit⟩ := h
  simp only [classCount_cons] at hone htwo hfew hreplied
  have hrest : ∀ r ∈ rest, 2 ≤ r.body.length ∧ r.body.length ≤ 48 := fun r hr => hfit r (List.mem_cons_of_mem _ hr)
  refine ⟨by omega, by omega, by omega, ?_, hrest⟩
  split
  next hc =>
    rw [if_pos hc] at hone
    have hzero : classCount .slotReply rest = 0 := by omega
    simp [hzero]
  next hc => simpa [if_neg hc] using hreplied

theorem replyBody_length_le {kind tag : Byte} {r : Result} {p : List Byte} (hp : p.length ≤ 45) :
    2 ≤ (replyBody kind tag r p).length ∧ (replyBody kind tag r p).length ≤ 48 := by
  unfold replyBody
  split <;> simp
  omega

theorem kept_queue : Kept SendsLegally where
  receiver s l htx hslot h := by
    rw [sendsLegally_iff] at *
    dsimp only
    rwa [htx, hslot]
  reply s kind tag req r p hs hp h := by
    obtain ⟨hlo, hhi⟩ := replyBody_length_le (kind := kind) (tag := tag) (r := r) hp
    rw [sendsLegally_iff] at *
    exact linkLegal_reply hs rfl hlo hhi h
  slot s x hs hx h := by
    rw [sendsLegally_iff] at *
    exact linkLegal_slot hs hx h
  answer s kind tag r h := by
    obtain ⟨hlo, hhi⟩ := replyBody_length_le (kind := kind) (tag := tag) (r := r) (p := []) (by simp)
    unfold enqueueAnswer
    split
    next hfew =>
      rw [sendsLegally_iff] at *
      exact linkLegal_append (fun _ => hfew) nofun nofun hlo hhi h
    next => exact h
  alive s n h := by
    unfold enqueueAlive
    split
    next hnone =>
      rw [sendsLegally_iff] at *
      refine linkLegal_append nofun (fun _ => hnone) nofun ?_ ?_ h <;> simp [aliveBody]
    next => exact h
  popFrame s fr rest htx h := by
    rw [sendsLegally_iff] at *
    rw [htx] at h
    exact linkLegal_popFrame h

/-- Settles O55: each of the four operations on the queue keeps its counts, and a start-up empties it. -/
theorem queueStaysLegal : Obligations.QueueStaysLegal := by
  unfold Obligations.QueueStaysLegal
  intro s t hqueue hfit hstep
  refine kept_queue.step ?scan ?reset ?renew ⟨hqueue, hfit⟩ hstep
  case scan =>
    refine fun _ => kept_queue.completeScan (fun _ _ hu => hu) fun u hu => ?_
    rw [finishStartUp_eq]
    exact hu
  case reset =>
    intro u power line cause _
    rw [sendsLegally_iff]
    refine ⟨Nat.zero_le _, Nat.zero_le _, Nat.zero_le _, iff_of_false nofun nofun, nofun⟩
  case renew => exact fun _ _ hu => hu

end Sys2Proof.Proofs
end

section
/-! SUPPORT. Proofs: no step changes an input of the resolution without a resolution (O23). -/

namespace Sys2Proof.Proofs

open Sys2Proof Sys2Proof.Machine

/-! ### What the targets are formed from (R53 to R57) -/

/-- What stage 1 reads of an entry: its source, level and exemption. -/
def DemandTable.shown (d : DemandTable) : List (Source × Nat × Bool) :=
  d.entries.map fun e => (e.1, e.2.2.level, e.2.2.exempt)

/-- The demand is formed from what stage 1 reads of the entries. -/
theorem qDem_of_shown (m : Mode) (qQuiet : Nat) {d d' : DemandTable} (h : DemandTable.shown d' = DemandTable.shown d) :
    (stage1 m qQuiet d').qDem = (stage1 m qQuiet d).qDem := by
  have hshown : ∀ d : DemandTable, (stage1 m qQuiet d).qDem =
      largest (((DemandTable.shown d).filter fun e => eligible m e.1).map fun e =>
        takenLevel m qQuiet ⟨e.2.1, none, e.2.2, 0, 0⟩) := by
    intro d
    simp only [stage1, DemandTable.shown, List.filter_map, List.map_map]
    rfl
  rw [hshown, hshown, h]

/-- R49: the passing of time changes nothing that stage 1 reads. -/
theorem shown_tick (d : DemandTable) :
    DemandTable.shown { d with timed := mapVec (Option.map DemandEntry.tick) d.timed } = DemandTable.shown d := by
  have htick : ∀ e : DemandEntry, e.tick.level = e.level ∧ e.tick.exempt = e.exempt := by
    intro e
    unfold DemandEntry.tick
    split
    · split <;> exact ⟨rfl, rfl⟩
    · exact ⟨rfl, rfl⟩
  have hslot : ∀ i : Nat, ((mapVec (Option.map DemandEntry.tick) d.timed)[i]?).join =
      ((d.timed[i]?).join).map DemandEntry.tick := by
    intro i
    rw [← Vector.getElem?_toList, toList_mapVec, List.getElem?_map, Vector.getElem?_toList]
    cases d.timed[i]? with
    | none => rfl
    | some o => rfl
  simp only [DemandTable.shown, DemandTable.entries, hslot, List.map_cons, List.map_append, List.map_filterMap, Option.map_map,
    Function.comp_def, (htick _).1, (htick _).2]

/-- The inputs of a resolution are the same in two states. -/
structure SameInputs (s u : State) : Prop where
  states : ∀ st, (u.fans.get st).state = (s.fans.get st).state := by exact fun _ => rfl
  satCaps : ∀ st, (u.fans.get st).satCap = (s.fans.get st).satCap := by exact fun _ => rfl
  ceilings : ∀ st, (u.filters.get st).ceiling = (s.filters.get st).ceiling := by exact fun _ => rfl
  stage : u.frost.stage = s.frost.stage := by rfl
  window : u.frost.w = s.frost.w := by rfl
  allowance : u.frost.allowance = s.frost.allowance := by rfl
  mode : u.mode.mode = s.mode.mode := by rfl
  qQuiet : u.settings.qQuiet = s.settings.qQuiet := by rfl
  qMinRun : u.settings.qMinRun = s.settings.qMinRun := by rfl
  qRated : u.settings.qRated = s.settings.qRated := by rfl
  demand : DemandTable.shown u.demand = DemandTable.shown s.demand := by rfl

/-- R52: the same inputs give the same targets. -/
theorem SameInputs.targets {s u : State} (h : SameInputs s u) : targets u = targets s := by
  have hcap : ∀ st, capOf u st = capOf s st := fun st => by
    unfold capOf; rw [h.qRated, h.ceilings, h.satCaps]
  have hflow : demandFlow u = demandFlow s := by
    unfold demandFlow; rw [h.mode, h.qQuiet, h.qMinRun, h.qRated, qDem_of_shown _ _ h.demand]
  have hbefore : extractBefore u = extractBefore s := by unfold extractBefore; rw [hflow, hcap]
  have hsupply : supplyFlow u = supplyFlow s := by unfold supplyFlow; rw [hbefore, hcap, h.window]
  have hextract : extractFlow u = extractFlow s := by unfold extractFlow; rw [hbefore, hsupply, h.allowance]
  have hfault : fanFault u = fanFault s := by
    have hs := h.states .supply
    have he := h.states .extract
    simp only [PerStream.get] at hs he
    unfold fanFault
    rw [hs, he]
  unfold Machine.targets stopped
  rw [hfault, h.stage, hextract, hsupply]

/-- The targets that stand in two states, and whether the part runs. -/
structure SameTargets (s u : State) : Prop where
  power : u.power = s.power := by rfl
  startingUp : u.startingUp = s.startingUp := by rfl
  fans : ∀ st, (u.fans.get st).qTarget = (s.fans.get st).qTarget := by exact fun _ => rfl
  res : u.res = s.res := by rfl

/-- What every step keeps of the targets (R52, R57, R61). -/
def TargetsStand (s : State) : Prop := Settled s

/-- The same inputs and the same targets stay settled. -/
theorem targetsStand_same {s u : State} (h : TargetsStand s) (hin : SameInputs s u) (hout : SameTargets s u) : TargetsStand u := by
  intro hp hs
  have hsupply := hout.fans .supply
  have hextract := hout.fans .extract
  simp only [PerStream.get] at hsupply hextract
  rw [hin.targets, hout.res, hsupply, hextract]
  exact h (hout.power ▸ hp) (hout.startingUp ▸ hs)

theorem targetsStand_resolve (s : State) : TargetsStand (resolve s) := settled_resolve s

/-- What a resolution has just left. -/
theorem targetsStand_of_resolved {s : State} (h : Resolved s) : TargetsStand s := by
  obtain ⟨hextract, hsupply, hres⟩ := h
  exact fun _ _ => ⟨hextract, hsupply, congrArg Resolution.extTarget hres, congrArg Resolution.supTarget hres⟩

theorem targetsStand_writeDemand (f : DemandTable → DemandTable) (s : State) : TargetsStand (writeDemand f s) := targetsStand_resolve _

/-- A resolution under a condition that holds where an input has changed. -/
theorem targetsStand_resolveIf {s u : State} {b : Bool} (hb : b = false → SameInputs s u) (hout : SameTargets s u) (h : TargetsStand s) :
    TargetsStand (resolveIf b u) := by
  unfold resolveIf
  cases b with
  | true => exact targetsStand_resolve u
  | false => exact targetsStand_same h (hb rfl) hout

/-- R23: the clip changes no input and no target. -/
theorem clipSupply_same (old new : Nat) (s : State) :
    SameInputs s (clipSupply old new s) ∧ SameTargets s (clipSupply old new s) := by
  unfold clipSupply
  split
  · have hfans : ∀ st, ((s.setFan .supply { s.fans.supply with qCmd := min s.fans.supply.qCmd new }).fans.get st) =
        { s.fans.get st with qCmd := ((s.setFan .supply
          { s.fans.supply with qCmd := min s.fans.supply.qCmd new }).fans.get st).qCmd } := by
      intro st; cases st <;> rfl
    exact ⟨{ states := fun st => by rw [hfans], satCaps := fun st => by rw [hfans] }, { fans := fun st => by rw [hfans] }⟩
  · exact ⟨{}, {}⟩

/-- A record put in place of one of the same state, saturation cap and target. -/
theorem targetsStand_setFan {s : State} {st : Stream} {f : FanRecord} (hstate : f.state = (s.fans.get st).state)
    (hcap : f.satCap = (s.fans.get st).satCap) (htarget : f.qTarget = (s.fans.get st).qTarget) (h : TargetsStand s) :
    TargetsStand (s.setFan st f) := by
  refine targetsStand_same h { states := fun st' => ?_, satCaps := fun st' => ?_ } { fans := fun st' => ?_ } <;>
    · by_cases he : st' = st
      · subst he; simpa
      · simp [PerStream.get_set_ne _ _ he]

/-- Both fan records replaced at their states, saturation caps and targets. -/
theorem targetsStand_fansKept {s : State} {fans : PerStream FanRecord}
    (hf : ∀ st, (fans.get st).state = (s.fans.get st).state ∧ (fans.get st).satCap = (s.fans.get st).satCap ∧
      (fans.get st).qTarget = (s.fans.get st).qTarget) (h : TargetsStand s) : TargetsStand { s with fans := fans } :=
  targetsStand_same h { states := fun st => (hf st).1, satCaps := fun st => (hf st).2.1 } { fans := fun st => (hf st).2.2 }

/-- R49, R106: a millisecond changes no input and no target. -/
theorem targetsStand_advance {s : State} (h : TargetsStand s) : TargetsStand (advance s) := by
  have hfans : ∀ st, (PerStream.mk s.fans.supply.tick s.fans.extract.tick).get st = (s.fans.get st).tick := by
    intro st; cases st <;> rfl
  unfold Machine.advance
  refine targetsStand_same h { states := fun st => ?_, satCaps := fun st => ?_, demand := shown_tick s.demand }
    { fans := fun st => ?_ } <;> exact (congrArg _ (hfans st)).trans rfl

theorem targetsStand_raiseAll {s : State} (es : List Event) (h : TargetsStand s) : TargetsStand (raiseAll es s) := by
  rw [raiseAll_eq]
  exact targetsStand_same h {} {}

/-- R21, R38: what a channel hands on changes an input only with a resolution. -/
theorem targetsStand_handOn {s : State} {st : Stream} {f : FanRecord} (es : List Event) (b : Bool)
    (htarget : f.qTarget = (s.fans.get st).qTarget) (h : TargetsStand s) : TargetsStand (handOn st f es b s) := by
  by_cases hchanged : f.state ≠ (s.fans.get st).state ∨ b = true ∨ f.satCap ≠ (s.fans.get st).satCap
  · obtain ⟨-, -, u, hu⟩ := handOn_changed st f es b s hchanged
    rw [hu]
    exact targetsStand_resolve u
  · obtain ⟨hstate, rfl, hcap⟩ : f.state = (s.fans.get st).state ∧ b = false ∧ f.satCap = (s.fans.get st).satCap := by
      simpa using hchanged
    have hset := targetsStand_setFan hstate hcap htarget h
    unfold handOn
    simp only [hstate, hcap, bne_self_eq_false, Bool.or_self, if_true]
    refine targetsStand_raiseAll es ?_
    cases st with
    | supply => exact hset
    | extract =>
      obtain ⟨hin, hout⟩ := clipSupply_same s.fans.extract.qCmd f.qCmd (s.setFan .extract f)
      exact targetsStand_same hset hin hout

theorem targetsStand_raise {s : State} (e : Event) (h : TargetsStand s) : TargetsStand (raise e s) := targetsStand_same h {} {}

/-! ### Writes to the demand table and changes of mode -/

theorem targetsStand_openSession (room : Nat) (t : Trigger) (u : Urgency) (s : State) : TargetsStand (openSession room t u s) := by
  unfold openSession
  exact targetsStand_raise _ (targetsStand_writeDemand _ _)

theorem targetsStand_closeSession (room : Nat) (why : CloseReason) (s : State) : TargetsStand (closeSession room why s) := by
  unfold closeSession
  exact targetsStand_same (targetsStand_writeDemand (setBoost room none) s) {} {}

theorem targetsStand_putSession {s : State} (x : Session) (h : TargetsStand s) : TargetsStand (putSession x s) := targetsStand_same h {} {}

theorem targetsStand_sampleSession {s : State} (rh : Nat) (x : Session) (h : TargetsStand s) : TargetsStand (sampleSession rh x s) := by
  have hput := targetsStand_putSession (sampledSession rh (s.room x.room) x) h
  unfold sampleSession relevel
  dsimp only
  split
  · exact hput
  · exact targetsStand_writeDemand _ _

theorem targetsStand_changeMode (m : Mode) (s : State) : TargetsStand (changeMode m s) := by
  unfold changeMode
  exact targetsStand_resolve _

theorem targetsStand_sessions {s : State} (l : List Session) (h : TargetsStand s) : TargetsStand { s with sessions := l } :=
  targetsStand_same h {} {}

theorem targetsStand_scheduleAiring {s : State} (h : TargetsStand s) : TargetsStand (scheduleAiring s) := targetsStand_same h {} {}

theorem targetsStand_superv {s : State} (v : Supervision) (h : TargetsStand s) : TargetsStand { s with superv := v } := targetsStand_same h {} {}

/-! ### Fans, frost guarding and filters -/

theorem targetsStand_preheatCheckFor {s : State} (st : Stream) (h : TargetsStand s) : TargetsStand (preheatCheckFor st s) := by
  rw [preheatCheckFor_eq]
  exact targetsStand_same h {} {}

theorem estimate_eq (x : Settings) (p : PerChannel ChannelRecord) (st : Stream) (f : FanRecord) :
    estimate x p st f = { f with qMeas := (estimate x p st f).qMeas, loop := (estimate x p st f).loop } := rfl

theorem targetsStand_formEstimate {s : State} (st : Stream) (h : TargetsStand s) : TargetsStand (formEstimate st s) := by
  unfold Machine.formEstimate
  refine targetsStand_preheatCheckFor st (targetsStand_setFan ?_ ?_ ?_ h) <;> rw [estimate_eq]

/-- R63: what a frost record's hand-over changes comes with a resolution. -/
theorem targetsStand_handFrost {s : State} {f : FrostRecord} (es : List Event) (hf : AllowanceKept s.frost f) (h : TargetsStand s) :
    TargetsStand (handFrost f es s) := by
  unfold Machine.handFrost
  rw [raiseAll_eq]
  refine targetsStand_resolveIf (fun hb => ?_) {} h
  obtain ⟨hstage, hw⟩ : f.stage = s.frost.stage ∧ f.w = s.frost.w := by simpa using hb
  exact { stage := hstage, window := hw, allowance := hf hstage hw }

theorem targetsStand_formCeiling {s : State} (st : Stream) (h : TargetsStand s) : TargetsStand (formCeiling st s) := by
  unfold Machine.formCeiling
  dsimp only
  split
  · exact h
  · exact targetsStand_resolve _

/-- A filter record put in place of one of the same ceiling. -/
theorem targetsStand_setFilter {s : State} {st : Stream} {g : FilterRecord} (hg : g.ceiling = (s.filters.get st).ceiling)
    (h : TargetsStand s) : TargetsStand (s.setFilter st g) := by
  refine targetsStand_same h { ceilings := fun st' => ?_ } {}
  by_cases he : st' = st
  · subst he; simpa
  · simp [PerStream.get_set_ne _ _ he]

/-! ### Every step -/

theorem kept_targets : Kept TargetsStand where
  events s v h := targetsStand_same h {} {}
  mask s v h := targetsStand_same h {} {}
  rooms s v h := targetsStand_same h {} {}
  scan s w n c a b h := targetsStand_same h {} {}
  supplyLow s h := by
    rw [updateSupplyLow_eq]
    exact targetsStand_same h {} {}
  tach s st n applied absence seen count span h := targetsStand_setFan rfl rfl rfl h
  absences s a b h := targetsStand_fansKept (fun st => by cases st <;> exact ⟨rfl, rfl, rfl⟩) h
  estimate st s h := targetsStand_formEstimate st h
  handOn s st f es b hf h := targetsStand_handOn es b hf.target h
  writeDemand s f _ _ := targetsStand_writeDemand f s
  openSession s room t u _ _ _ := targetsStand_openSession room t u s
  closeSession s room why _ := targetsStand_closeSession room why s
  putSession s x y _ _ h := targetsStand_putSession y h
  sampleSession s x rh _ h := targetsStand_sampleSession rh x h
  putRow s p r r' _ _ _ h := targetsStand_same h {} {}
  addRow s p r _ _ _ _ _ _ _ _ h := targetsStand_same h {} {}
  dropRow s p h := targetsStand_same h {} {}
  line s l _ h := targetsStand_same h {} {}
  handFrost s f es hf h := targetsStand_handFrost es hf.allowance h
  learn s a n m h := targetsStand_same h {} {}
  output s b ms _ h := targetsStand_same h {} {}
  filterRecord s st g hg h := targetsStand_setFilter hg.ceiling h
  formCeiling st s h := targetsStand_formCeiling st h
  store s x _ h := targetsStand_same h {} {}
  settings s x hRated hMinRun hQuiet _ h := targetsStand_same h { qRated := hRated, qMinRun := hMinRun, qQuiet := hQuiet } {}
  resettle s x _ _ := targetsStand_resolve _
  refit s x hRated hMinRun hQuiet h := by
    unfold paramEffect
    dsimp only
    have hset : TargetsStand { s with settings := x } := targetsStand_same h { qRated := hRated, qMinRun := hMinRun, qQuiet := hQuiet } {}
    split
    · exact hset
    · exact targetsStand_same hset {} {}
  modeTimers s m hmode _ _ h := targetsStand_same h { mode := hmode } {}
  changeMode s m _ _ _ := targetsStand_changeMode m s
  enterEntry s _ _ := targetsStand_sessions _ (targetsStand_changeMode .standbyEntry s)
  leaveEntry s m _ _ _ := targetsStand_sessions _ (targetsStand_changeMode m s)
  beginStandby s _ _ := targetsStand_changeMode .standby _
  leaveStandby s m _ _ _ := targetsStand_sessions _ (targetsStand_changeMode m _)
  startBurst s _ _ := targetsStand_scheduleAiring (targetsStand_writeDemand _ _)
  endBurst s _ := targetsStand_writeDemand _ _
  superv s v _ h := targetsStand_superv v h
  endLoss s v _ _ := targetsStand_superv v (targetsStand_writeDemand _ s)
  declareLost s _ := targetsStand_raise .hostLost (targetsStand_superv _ (targetsStand_writeDemand _ s))
  pending s l h := targetsStand_same h {} {}
  advance s h := targetsStand_advance h
  resetLine s b h := targetsStand_same h {} {}
  receiver s l _ _ h := targetsStand_same h {} {}
  reply s kind tag req r p _ _ h := targetsStand_same h {} {}
  slot s x _ _ h := targetsStand_same h {} {}
  answer s kind tag r h := by
    unfold enqueueAnswer
    split <;> exact targetsStand_same h {} {}
  alive s n h := by
    unfold enqueueAlive
    split
    · exact targetsStand_same h {} {}
    · exact h
  popFrame s fr rest _ h := targetsStand_same h {} {}

/-- R61: the first resolution of a start-up settles the targets. -/
theorem targetsStand_finishStartUp (s : State) : TargetsStand (finishStartUp s) :=
  targetsStand_of_resolved (resolved_finishStartUp s).1

/-- Settles O23: an operation that changes an input of the resolution makes one, and a part in reset or in its first scan is
excepted. -/
theorem targetsAreAlwaysTargetsStand : Obligations.TargetsAreAlwaysSettled := by
  unfold Obligations.TargetsAreAlwaysSettled
  intro s t h
  refine kept_targets.step (P := TargetsStand) ?scan ?reset ?renew h
  case scan => exact fun _ => kept_targets.completeScan (fun _ _ hu => targetsStand_same hu {} {}) fun u _ => targetsStand_finishStartUp u
  case reset => exact fun _ _ _ _ _ _ hs => nomatch hs
  case renew => exact fun _ _ hu => targetsStand_setFilter rfl hu

end Sys2Proof.Proofs
end

section
/-! SUPPORT. Proofs: a request that is refused changes nothing but the link (O3). -/

namespace Sys2Proof.Proofs

open Sys2Proof Sys2Proof.Machine

/-- An owner that refuses leaves the state as it found it. -/
def RefusalKeeps (s : State) (a : Answer × State) : Prop := ∀ r p, a.1 = .now r p → 16 ≤ r.code → a.2 = s

theorem refusalKeeps_same (s : State) (x : Answer) : RefusalKeeps s (x, s) := fun _ _ _ _ => rfl

theorem refusalKeeps_accepted {s u : State} {r : Result} {p : List Byte} (hr : r.code < 16) : RefusalKeeps s (.now r p, u) := by
  rintro r' p' ⟨⟩ hcode
  omega

theorem refusalKeeps_ok (s u : State) : RefusalKeeps s (ok u) := refusalKeeps_accepted (by decide)

theorem refusalKeeps_modeReply (s u : State) : RefusalKeeps s (modeReply u) := refusalKeeps_accepted (by decide)

theorem clampResult_code (b : Bool) : (clampResult b).code < 16 := by cases b <;> decide

/-- R161: whatever its kind, a request that its owner refuses leaves the part as it was. -/
theorem owner_refused (q : Request) (s : State) : RefusalKeeps s (ownerOf q s) := by
  have hsame := refusalKeeps_same s
  have hok := refusalKeeps_ok s
  have hmode := refusalKeeps_modeReply s
  cases q with
  | ping => exact hsame _
  | getStatus page => dsimp only [ownerOf, ownGetStatus]; split_ifs <;> exact hsame _
  | getEvents => exact refusalKeeps_accepted (by decide)
  | setEventMask mask =>
    dsimp only [ownerOf, ownSetEventMask]
    split <;> [exact refusalKeeps_accepted (by decide); exact hsame _]
  | setDemand source key level expiry exempt =>
    have hwritten := fun u p => refusalKeeps_accepted (s := s) (u := u) (p := p)
      (clampResult_code (min level.toNat s.settings.qRated == level.toNat))
    dsimp only [ownerOf, ownSetDemand]
    split_ifs <;>
      [exact hsame _; exact hsame _; exact hwritten _ _; exact hsame _; exact hsame _; exact hwritten _ _; exact hsame _]
  | clearDemand source key =>
    dsimp only [ownerOf, ownClearDemand]
    split_ifs <;> [exact hsame _; exact hok _; exact hsame _; exact hok _; exact hsame _; exact hsame _]
  | getDemands first => dsimp only [ownerOf, ownGetDemands]; split <;> exact hsame _
  | getFlows => exact hsame _
  | fanRecover stream =>
    dsimp only [ownerOf, ownFanRecover]
    split
    · exact hsame _
    · split <;> [exact hok _; exact hsame _]
  | getFrost => exact hsame _
  | forceDefrost => dsimp only [ownerOf, ownForceDefrost]; split <;> [exact hsame _; exact hok _]
  | frostRelease => dsimp only [ownerOf, ownFrostRelease]; split <;> [exact hok _; exact hsame _]
  | learnExchanger => exact hok _
  | getFilter filter => dsimp only [ownerOf, ownGetFilter]; split <;> exact hsame _
  | filterReset filter => dsimp only [ownerOf, ownFilterReset]; split <;> [exact hsame _; exact hok _]
  | getNodes first => dsimp only [ownerOf, ownGetNodes]; split <;> exact hsame _
  | nodePin address room kind =>
    dsimp only [ownerOf, ownNodePin]
    split
    · exact hsame _
    split
    · exact hsame _
    split
    · split <;> [exact hok _; exact hsame _]
    · exact hsame _
    · split <;> [exact hsame _; exact hok _]
  | nodeUnpin address =>
    dsimp only [ownerOf, ownNodeUnpin]
    split
    · exact hsame _
    split
    · exact hsame _
    · split <;> exact hok _
  | nodeForget address =>
    dsimp only [ownerOf, ownNodeForget]
    split
    · exact hsame _
    split <;> [exact hsame _; exact hok _]
  | discover => dsimp only [ownerOf, ownDiscover]; split <;> [exact hsame _; exact hok _]
  | getRooms room => dsimp only [ownerOf, ownGetRooms]; split <;> exact hsame _
  | getSessions first => dsimp only [ownerOf, ownGetSessions]; split <;> exact hsame _
  | boostCancel room =>
    dsimp only [ownerOf, ownBoostCancel]
    split
    · exact hsame _
    split <;> [exact hsame _; exact hok _]
  | setMode mode =>
    dsimp only [ownerOf, ownSetMode]
    split
    · exact hmode _
    · exact hmode _
    · unfold chooseStandby
      split_ifs <;> [exact hmode _; exact hsame _; exact hsame _; exact hmode _]
    · exact hsame _
  | getParam id => dsimp only [ownerOf, ownGetParam]; split <;> exact hsame _
  | setParam id value =>
    dsimp only [ownerOf, ownSetParam]
    split
    · exact hsame _
    · refine refusalKeeps_accepted ?_
      split <;> decide
    · exact hsame _
  | setTableTemperature points =>
    dsimp only [ownerOf, ownSetTableTemperature]
    split_ifs <;> [exact hsame _; exact hok _; exact hsame _]
  | setTableFeedforward st points =>
    dsimp only [ownerOf, ownSetTableFeedforward]
    split_ifs <;> [exact hsame _; exact hok _; exact hsame _]
  | saveSettings => exact nofun
  | restoreDefaults => exact nofun
  | resetPart => dsimp only [ownerOf, ownResetPart]; split <;> [exact hsame _; exact hok _]

/-- The code of the result that a reply's body carries. -/
theorem code_of_replyBody {kind tag : Byte} {r r' : Result} {p p' : List Byte}
    (h : replyBody kind tag r p = replyBody kind tag r' p') : r.code = r'.code := by
  have hcode : u8 r.code = u8 r'.code := by
    have := congrArg (fun l => (l.drop 2).take 1) h
    simpa [replyBody, u8] using this
  have hbyte : ∀ x : Result, x.code < 256 := by intro x; cases x <;> decide
  have hnat : (BitVec.ofNat 8 r.code).toNat = (BitVec.ofNat 8 r'.code).toNat := by
    simpa [u8] using congrArg (List.map BitVec.toNat) hcode
  simpa [Nat.mod_eq_of_lt (hbyte r), Nat.mod_eq_of_lt (hbyte r')] using hnat

/-- Settles O3: the reply shows that the owner refused, and an owner that refuses keeps the state. -/
theorem refusedRequestChangesNothing : Obligations.RefusedRequestChangesNothing := by
  unfold Obligations.RefusedRequestChangesNothing
  intro tag q s t r hacc hrefused hexec htx
  rw [exec_accepted hacc] at hexec
  injection hexec with hexec
  generalize heard tag q s = u at *
  have hkeeps := owner_refused q u
  have hlink := owner_link q u
  cases howner : ownerOf q u with
  | mk a v =>
    rw [howner] at hkeeps hlink
    cases a with
    | now r' p =>
      rw [serveRequest_now howner] at hexec
      subst hexec
      have hbody : v.link.tx ++ [⟨.slotReply, replyBody (requestKind q) tag r' p⟩] =
          u.link.tx ++ [(⟨.slotReply, replyBody (requestKind q) tag r []⟩ : TxFrame)] := htx
      rw [show v.link = u.link from hlink] at hbody
      have hr : r'.code = r.code := by
        refine code_of_replyBody (kind := requestKind q) (tag := tag) (p := p) (p' := []) ?_
        simpa using hbody
      obtain rfl : v = u := hkeeps r' p rfl (by omega)
      rfl
    | afterSave =>
      unfold serveRequest at hexec
      rw [howner] at hexec
      subst hexec
      have hlen := congrArg List.length htx
      simp [show v.link = u.link from hlink] at hlen

end Sys2Proof.Proofs
end

section
/-! SUPPORT. Proofs: the work of each fan state, written out, and what a control step makes of it. -/

namespace Sys2Proof.Proofs

open Sys2Proof Sys2Proof.Machine

/-! ### What each part of a running step changes (R26, R27, R30, R36, R37) -/

/-- R22, R23: the flow that a running step commands. -/
def cmdOf (e : FanEnv) (f : FanRecord) : Nat := coupled e (rampTo f.qCmd f.qTarget)

/-- R26, R27: the trim at a commanded flow. -/
def trimAt (e : FanEnv) (f : FanRecord) (c : Nat) : Int :=
  if c = 0 then 0 else if frozen e f then f.trim else integrateTrim e { f with qCmd := c }

/-- R26, R27: the duty at a commanded flow and a trim. -/
def dutyAt (e : FanEnv) (c : Nat) (trim : Int) : Nat := if c = 0 then 0 else dutyFor e c trim

/-- R37: the target clears the saturation. -/
def capCleared (f : FanRecord) : Prop := ∃ c ∈ f.satCap, f.qTarget + 20 ≤ c

theorem driveFrozen_eq (e : FanEnv) (f : FanRecord) :
    driveFrozen e f = { f with trim := if f.qCmd = 0 then 0 else f.trim, duty := dutyAt e f.qCmd f.trim } := by
  unfold driveFrozen dutyAt
  split <;> rfl

theorem drive_eq (e : FanEnv) (f : FanRecord) :
    drive e f = { f with trim := trimAt e f f.qCmd, duty := dutyAt e f.qCmd (trimAt e f f.qCmd) } := by
  unfold drive trimAt
  rw [driveFrozen_eq]
  by_cases hc : f.qCmd = 0
  · simp only [hc, if_true]
    split <;> simp [hc, dutyAt]
  · simp only [hc, if_false]
    split <;> simp

theorem steadyCheck_eq (f : FanRecord) :
    (steadyCheck f).1 = { f with
      state := (steadyCheck f).1.state, steadyCount := (steadyCheck f).1.steadyCount
      timer := (steadyCheck f).1.timer, retry := (steadyCheck f).1.retry } := by
  unfold steadyCheck
  split_ifs <;> rfl

theorem steadyCheck_ramping {f : FanRecord} (h : f.state = .ramping) : steadyCheck f = (f, []) := by
  unfold steadyCheck
  rw [if_neg (by rw [h]; exact nofun)]

theorem steadyCheck_leaves {f : FanRecord} (h : f.state = .steady) (ht : f.qTarget ≠ f.qCmd) :
    steadyCheck f = ({ f with state := .ramping, steadyCount := 0, timer := 0 }, []) := by
  unfold steadyCheck
  rw [if_pos h, if_pos ht]

theorem steadyCheck_clears {f : FanRecord} (h : f.state = .steady) (ht : f.qTarget = f.qCmd) (hm : f.timer = 59) :
    steadyCheck f = ({ f with timer := 60, retry := 0 }, [.retryClear]) := by
  unfold steadyCheck
  rw [if_pos h, if_neg (not_not.mpr ht), if_pos hm]

theorem steadyCheck_stays {f : FanRecord} (h : f.state = .steady) (ht : f.qTarget = f.qCmd) (hm : f.timer ≠ 59) :
    steadyCheck f = ({ f with timer := min (f.timer + 1) 60 }, []) := by
  unfold steadyCheck
  rw [if_pos h, if_neg (not_not.mpr ht), if_neg hm]

theorem steadyCheck_running {f : FanRecord} (h : f.state = .ramping ∨ f.state = .steady) :
    (steadyCheck f).1.state = .ramping ∨ (steadyCheck f).1.state = .steady := by
  unfold steadyCheck
  split_ifs
  · exact Or.inl rfl
  · exact h
  · exact h
  · exact h

theorem targetCheck_cleared {f : FanRecord} (h : capCleared f) : targetCheck f = { f with satCap := none, satCount := 0 } := by
  obtain ⟨c, hc, hle⟩ := h
  unfold targetCheck
  rw [Option.mem_def.mp hc]
  exact if_pos hle

theorem targetCheck_kept {f : FanRecord} (h : ¬ capCleared f) : targetCheck f = f := by
  unfold targetCheck
  split
  next c hc => exact if_neg fun hle => h ⟨c, hc, hle⟩
  · rfl

theorem targetCheck_eq (f : FanRecord) :
    targetCheck f = { f with satCap := (targetCheck f).satCap, satCount := (targetCheck f).satCount } := by
  by_cases h : capCleared f
  · rw [targetCheck_cleared h]
  · rw [targetCheck_kept h]

theorem countSteady_eq (f : FanRecord) :
    (countSteady f).1 = { f with
      state := (countSteady f).1.state, steadyCount := (countSteady f).1.steadyCount, timer := (countSteady f).1.timer } := by
  unfold countSteady
  split_ifs <;> rfl

theorem countSteady_running {f : FanRecord} (h : f.state = .ramping ∨ f.state = .steady) :
    (countSteady f).1.state = .ramping ∨ (countSteady f).1.state = .steady := by
  unfold countSteady
  split_ifs
  · exact Or.inr rfl
  · exact h
  · exact h
  · exact h

theorem countSteady_steady {f : FanRecord} (h : f.state = .steady) : countSteady f = (f, []) := by
  unfold countSteady
  rw [if_neg (by rw [h]; exact nofun)]

theorem countSteady_rises {f : FanRecord} (h : f.state = .ramping) (hc : steadyCond f = true) (hn : f.steadyCount < 4) :
    countSteady f = ({ f with steadyCount := f.steadyCount + 1 }, []) := by
  unfold countSteady
  rw [if_pos h, if_pos hc, if_neg (by omega)]

theorem countSteady_enters {f : FanRecord} (h : f.state = .ramping) (hc : steadyCond f = true) (hn : 4 ≤ f.steadyCount) :
    countSteady f = ({ f with state := .steady, steadyCount := 0, timer := 0 }, [.steadyEntry]) := by
  unfold countSteady
  rw [if_pos h, if_pos hc, if_pos (by omega)]

theorem countSteady_falls {f : FanRecord} (h : f.state = .ramping) (hc : ¬ steadyCond f = true) :
    countSteady f = ({ f with steadyCount := 0 }, []) := by
  unfold countSteady
  rw [if_pos h, if_neg hc]

theorem countSaturation_eq (f : FanRecord) :
    (countSaturation f).1 = { f with
      satCount := (countSaturation f).1.satCount, satCap := (countSaturation f).1.satCap } := by
  unfold countSaturation
  split_ifs <;> rfl

/-- R36: the saturation condition of a record. -/
def Saturating (f : FanRecord) : Prop := f.loop = .closed ∧ f.duty = 1000 ∧ f.qMeas + 20 < f.qCmd

theorem saturating_iff (f : FanRecord) : Saturating f ↔ f.loop = .closed ∧ satCond f = true := by
  simp [Saturating, satCond]

theorem countSaturation_falls {f : FanRecord} (h : ¬ Saturating f) : countSaturation f = ({ f with satCount := 0 }, []) := by
  unfold countSaturation
  rw [if_neg (mt (saturating_iff f).mpr h)]

theorem countSaturation_rises {f : FanRecord} (h : Saturating f) (hn : f.satCount < 59) :
    countSaturation f = ({ f with satCount := f.satCount + 1 }, []) := by
  unfold countSaturation
  rw [if_pos ((saturating_iff f).mp h), if_neg (by omega)]

theorem countSaturation_caps {f : FanRecord} (h : Saturating f) (hn : 59 ≤ f.satCount) :
    countSaturation f = ({ f with satCount := 0, satCap := some f.qMeas }, [.saturation]) := by
  unfold countSaturation
  rw [if_pos ((saturating_iff f).mp h), if_pos (by omega)]

/-! ### The work of RAMPING and STEADY -/

/-- A running step's record before its counts. -/
def driven (e : FanEnv) (f : FanRecord) : FanRecord := rampAndDrive e (targetCheck (steadyCheck f).1)

theorem driven_eq (e : FanEnv) (f : FanRecord) :
    driven e f = { f with
      state := (steadyCheck f).1.state, steadyCount := (steadyCheck f).1.steadyCount
      timer := (steadyCheck f).1.timer, retry := (steadyCheck f).1.retry
      satCap := (targetCheck f).satCap, satCount := (targetCheck f).satCount
      qCmd := cmdOf e f, trim := trimAt e f (cmdOf e f), duty := dutyAt e (cmdOf e f) (trimAt e f (cmdOf e f)) } := by
  have hcheck : targetCheck (steadyCheck f).1 = { f with
      state := (steadyCheck f).1.state, steadyCount := (steadyCheck f).1.steadyCount
      timer := (steadyCheck f).1.timer, retry := (steadyCheck f).1.retry
      satCap := (targetCheck f).satCap, satCount := (targetCheck f).satCount } := by
    have hsame : capCleared (steadyCheck f).1 ↔ capCleared f := by
      rw [steadyCheck_eq]
      exact Iff.rfl
    by_cases h : capCleared f
    · rw [targetCheck_cleared (hsame.mpr h), targetCheck_cleared h, steadyCheck_eq]
    · rw [targetCheck_kept (mt hsame.mp h), targetCheck_kept h, steadyCheck_eq]
  unfold driven rampAndDrive
  rw [drive_eq, hcheck]
  rfl

theorem driven_flows (e : FanEnv) (f : FanRecord) : (driven e f).qCmd = cmdOf e f ∧ (driven e f).qTarget = f.qTarget := by
  rw [driven_eq]
  exact ⟨rfl, rfl⟩

/-- R31: a running step that stops. -/
theorem workRun_stops {e : FanEnv} {f : FanRecord} (ht : f.qTarget < 60) (hc : cmdOf e f ≤ 60) :
    workRun e f = ((driven e f).stop, (steadyCheck f).2) := by
  obtain ⟨hcmd, htarget⟩ := driven_flows e f
  have hstop : (driven e f).qTarget < Config.qFanMin ∧ (driven e f).qCmd ≤ Config.qFanMin := by
    rw [hcmd, htarget]
    exact ⟨ht, hc⟩
  exact if_pos hstop

/-- R22 to R27, R30, R36: a running step that goes on. -/
theorem workRun_goes {e : FanEnv} {f : FanRecord} (h : 60 ≤ f.qTarget ∨ 60 < cmdOf e f) :
    workRun e f = ((countSaturation (countSteady (driven e f)).1).1,
      (steadyCheck f).2 ++ (countSteady (driven e f)).2 ++ (countSaturation (countSteady (driven e f)).1).2) := by
  obtain ⟨hcmd, htarget⟩ := driven_flows e f
  have hgo : ¬ ((driven e f).qTarget < Config.qFanMin ∧ (driven e f).qCmd ≤ Config.qFanMin) := by
    rw [hcmd, htarget]
    show ¬ (f.qTarget < 60 ∧ cmdOf e f ≤ 60)
    omega
  exact if_neg hgo

theorem fanWork_running (e : FanEnv) {f : FanRecord} (h : f.state = .ramping ∨ f.state = .steady) :
    fanWork e f = workRun e f := by
  unfold fanWork
  obtain h | h := h <;> rw [h]

theorem running_iff (f : FanRecord) : f.running = true ↔ f.state = .ramping ∨ f.state = .steady := by
  simp [FanRecord.running]

/-- A step that goes on, at its state, flow, trim and duty. -/
theorem workRun_goes_drives {e : FanEnv} {f : FanRecord} (hs : f.state = .ramping ∨ f.state = .steady)
    (h : 60 ≤ f.qTarget ∨ 60 < cmdOf e f) :
    (workRun e f).1.running = true ∧ (workRun e f).1.qCmd = cmdOf e f ∧ (workRun e f).1.trim = trimAt e f (cmdOf e f) ∧
      (workRun e f).1.duty = dutyAt e (cmdOf e f) (trimAt e f (cmdOf e f)) := by
  have hdriven : (driven e f).state = .ramping ∨ (driven e f).state = .steady := by
    rw [driven_eq]
    exact steadyCheck_running hs
  have hstate := countSteady_running hdriven
  rw [workRun_goes h, running_iff, countSaturation_eq]
  refine ⟨hstate, ?_⟩
  rw [countSteady_eq, driven_eq]
  exact ⟨rfl, rfl, rfl⟩

/-! ### The work of OFF, STARTING, STALLED and FAILED (R28, R29, R33 to R35) -/

theorem fanWork_off (e : FanEnv) {f : FanRecord} (h : f.state = .off) : fanWork e f = workOff e f := by
  unfold fanWork
  rw [h]

theorem fanWork_start (e : FanEnv) {f : FanRecord} (h : f.state = .starting) (hk : f.startKind = .normal) :
    fanWork e f = workStart e f := by
  unfold fanWork
  rw [h]
  exact if_neg (by rw [hk]; exact nofun)

theorem fanWork_spin (e : FanEnv) {f : FanRecord} (h : f.state = .starting) (hk : f.startKind = .spinTest) :
    fanWork e f = workSpin f := by
  unfold fanWork
  rw [h]
  exact if_pos hk

theorem fanWork_stalled (e : FanEnv) {f : FanRecord} (h : f.state = .stalled) : fanWork e f = workStalled e f := by
  unfold fanWork
  rw [h]

theorem fanWork_failed (e : FanEnv) {f : FanRecord} (h : f.state = .failed) : fanWork e f = workFailed f := by
  unfold fanWork
  rw [h]

/-! ### The control step within the part -/

/-- The record of a control step: its speed measured and its work done. -/
def worked (st : Stream) (s : State) : FanRecord × List FanMark := fanWork (fanEnv s st) (measured st s)

theorem exec_controlStep {s : State} (st : Stream) (h : s.power = .running) :
    exec (.controlStep st) s = .next (controlStep st s).1 := congrArg _ (whenRunning_on h)

/-- What a control step hands on, it hands on from a state that differs in the measured record and the preheater alone. -/
theorem estimated_eq (st : Stream) (s : State) :
    formEstimate st (takeSpeed st s) =
      { s with
        fans := s.fans.set st (measured st s)
        frost := { s.frost with
          duty := (formEstimate st (takeSpeed st s)).frost.duty
          output := (formEstimate st (takeSpeed st s)).frost.output } } := by
  rw [formEstimate_eq]
  simp [takeSpeed, measured]

/-- A control step changes the fans, the resolution record, the events of its marks and the preheater. -/
theorem controlStep_frame (st : Stream) (s : State) :
    (controlStep st s).1 =
      { s with
        fans := (controlStep st s).1.fans
        res := (controlStep st s).1.res
        events := ((worked st s).2.flatMap FanMark.events).foldl (fun v e => v ||| e.bit) s.events
        frost := { s.frost with
          duty := (controlStep st s).1.frost.duty
          output := (controlStep st s).1.frost.output } } := by
  rw [controlStep_eq, handOn_eq, estimated_eq]
  rfl

/-- R38: a changed state, a changed cap and a renewed saturation are one arrival at the resolver. -/
theorem controlStep_handedOn {st : Stream} {s : State}
    (h : (worked st s).1.state ≠ (measured st s).state ∨ FanMark.saturation ∈ (worked st s).2 ∨
      (worked st s).1.satCap ≠ (measured st s).satCap) : HandedOn s (controlStep st s).1 := by
  have hfan := formEstimate_takeSpeed_fan st s
  have hchanged := handOn_changed st (worked st s).1 ((worked st s).2.flatMap FanMark.events)
    ((worked st s).2.contains .saturation) (formEstimate st (takeSpeed st s)) (by rw [hfan]; simpa using h)
  rw [controlStep_eq]
  obtain ⟨hresolved, hcount, -⟩ := hchanged
  refine ⟨hcount.trans ?_, hresolved⟩
  rw [estimated_eq]

/-- R38: a hand-over of a record at its state and cap makes no resolution. -/
theorem handOn_quiet {st : Stream} {f : FanRecord} {s : State} (es : List Event) (hs : f.state = (s.fans.get st).state)
    (hc : f.satCap = (s.fans.get st).satCap) :
    (handOn st f es false s).res = s.res ∧ (handOn st f es false s).fans.get st = f := by
  unfold handOn
  simp only [hs, hc, bne_self_eq_false, Bool.or_self, if_true, resolveIf, Bool.false_eq_true, if_false, raiseAll_eq]
  unfold clipSupply
  cases st
  · exact ⟨rfl, rfl⟩
  · dsimp only
    split <;> exact ⟨rfl, rfl⟩

theorem controlStep_quiet {st : Stream} {s : State} (hs : (worked st s).1.state = (measured st s).state)
    (hc : (worked st s).1.satCap = (measured st s).satCap) (hm : FanMark.saturation ∉ (worked st s).2) :
    (controlStep st s).1.res = s.res ∧ (controlStep st s).1.fans.get st = (worked st s).1 := by
  have hfan := formEstimate_takeSpeed_fan st s
  have hquiet := handOn_quiet (st := st) (f := (worked st s).1) (s := formEstimate st (takeSpeed st s))
    ((worked st s).2.flatMap FanMark.events) (by rw [hfan]; exact hs) (by rw [hfan]; exact hc)
  have hcontains : (worked st s).2.contains FanMark.saturation = false := by simpa using hm
  unfold worked at *
  rw [controlStep_eq, hcontains]
  refine ⟨hquiet.1.trans ?_, hquiet.2⟩
  rw [estimated_eq]

/-- R23: an extract record that lowers the commanded flow clips the supply's, and any other leaves it. -/
theorem handOn_clips (f : FanRecord) (es : List Event) (b : Bool) (s : State) :
    (handOn .extract f es b s).fans.supply.qCmd =
      if f.qCmd < s.fans.extract.qCmd then min s.fans.supply.qCmd f.qCmd else s.fans.supply.qCmd := by
  change _ = if f.qCmd < (s.fans.get .extract).qCmd then _ else _
  unfold handOn
  dsimp only
  rw [raiseAll_eq]
  unfold resolveIf clipSupply preheatCheckFor
  split_ifs <;> rfl

theorem controlStep_clips (s : State) :
    (controlStep .extract s).1.fans.supply.qCmd =
      if (controlStep .extract s).1.fans.extract.qCmd < s.fans.extract.qCmd then
        min s.fans.supply.qCmd (controlStep .extract s).1.fans.extract.qCmd else s.fans.supply.qCmd := by
  have hextract : (controlStep .extract s).1.fans.extract.qCmd = (worked .extract s).1.qCmd :=
    (congrArg FanRecord.qCmd (controlStep_fan .extract s)).trans rfl
  rw [hextract, controlStep_eq, handOn_clips, estimated_eq]
  rfl

end Sys2Proof.Proofs
end

section
/-! SUPPORT. Proofs: a control step measures, ramps, couples, drives and stops (O13). -/

namespace Sys2Proof.Proofs

open Sys2Proof Sys2Proof.Machine

/-! ### The feedforward duty (R25) -/

/-- The flows of a table strictly rise. -/
def Rising (l : Feedforward) : Prop := ∀ i p p', l[i]? = some p → l[i + 1]? = some p' → p.1 < p'.1

theorem Rising.tail {a : Nat × Nat} {l : Feedforward} (h : Rising (a :: l)) : Rising l :=
  fun i p p' hp hp' => h (i + 1) p p' (by simpa using hp) (by simpa using hp')

theorem Rising.head_le {a : Nat × Nat} {l : Feedforward} (h : Rising (a :: l)) {i : Nat} {p : Nat × Nat}
    (hp : (a :: l)[i]? = some p) : a.1 ≤ p.1 := by
  induction i generalizing p with
  | zero => obtain rfl : a = p := by simpa using hp
            exact le_rfl
  | succ i ih =>
    obtain ⟨hi, -⟩ := List.getElem?_eq_some_iff.mp hp
    have hq : (a :: l)[i]? = some ((a :: l)[i]'(by omega)) := List.getElem?_eq_getElem _
    exact (ih hq).trans (h i _ p hq hp).le

/-- Between two points the duty lies on the line between them. -/
theorem feedforwardDuty_between : ∀ {l : Feedforward} {q : Nat}, Rising l → ∀ {i : Nat} {p p' : Nat × Nat},
    l[i]? = some p → l[i + 1]? = some p' → p.1 ≤ q → q < p'.1 →
      feedforwardDuty l q = p.2 + (q - p.1) * (p'.2 - p.2) / (p'.1 - p.1)
  | [], _, _, _, _, _, hp, _, _, _ => by simp at hp
  | [_], _, _, _, _, _, _, hp', _, _ => by simp at hp'
  | p0 :: p1 :: rest, q, h, 0, p, p', hp, hp', _, hq => by
    obtain rfl : p0 = p := by simpa using hp
    obtain rfl : p1 = p' := by simpa using hp'
    exact if_pos hq
  | p0 :: p1 :: rest, q, h, i + 1, p, p', hp, hp', hle, hq => by
    rw [List.getElem?_cons_succ] at hp hp'
    have hp1 : ¬ q < p1.1 := Nat.not_lt.mpr ((h.tail.head_le hp).trans hle)
    exact (if_neg hp1).trans (feedforwardDuty_between h.tail hp hp' hle hq)

/-- At and beyond the last point the duty is that point's. -/
theorem feedforwardDuty_beyond : ∀ {l : Feedforward} {q : Nat}, Rising l → ∀ {p : Nat × Nat},
    l.getLast? = some p → p.1 ≤ q → feedforwardDuty l q = p.2
  | [], _, _, _, hp, _ => by simp at hp
  | [a], _, _, p, hp, _ => by
    obtain rfl : a = p := by simpa using hp
    rfl
  | p0 :: p1 :: rest, q, h, p, hp, hle => by
    rw [List.getLast?_cons_cons] at hp
    obtain ⟨i, hi⟩ := List.mem_iff_getElem?.mp (List.mem_of_getLast? hp)
    have hp1 : ¬ q < p1.1 := Nat.not_lt.mpr ((h.tail.head_le hi).trans hle)
    exact (if_neg hp1).trans (feedforwardDuty_beyond h.tail hp hle)

theorem rising_of_feedforwardOk {table : Feedforward} (h : feedforwardOk table = true) : table.length = 8 ∧ Rising table := by
  unfold feedforwardOk at h
  simp only [Bool.and_eq_true, beq_iff_eq] at h
  obtain ⟨⟨⟨hlen, -⟩, -⟩, hrise⟩ := h
  refine ⟨hlen, fun i p p' hp hp' => ?_⟩
  have hzip : (p, p') ∈ table.zip table.tail := by
    refine List.mem_iff_getElem?.mpr ⟨i, ?_⟩
    simp [List.getElem?_zip_eq_some, hp, hp']
  have := List.all_eq_true.mp hrise (p, p') hzip
  simp only [Bool.and_eq_true, decide_eq_true_eq] at this
  exact this.1

/-! ### The measurement (R19, R24) -/

theorem speedOf_le (k span : Nat) : speedOf k span ≤ 6000 := by
  unfold speedOf
  split_ifs
  · exact Nat.zero_le _
  · exact Nat.min_le_right ..
  · exact Nat.min_le_right ..

theorem flowOf_cast (n kn dp kp : Nat) :
    ((flowOf n kn dp kp : Nat) : Int) = max 0 (min 1200 (((n * kn / 256 : Nat) : Int) - ((dp * kp / 64 : Nat) : Int))) := by
  unfold flowOf
  generalize n * kn / 256 = a
  generalize dp * kp / 64 = b
  omega

/-- What measurement wrote, a control step keeps. -/
theorem controlStep_sensed (st : Stream) (s : State) :
    ((controlStep st s).1.fans.get st).n = (measured st s).n ∧ ((controlStep st s).1.fans.get st).tachCount = 0 ∧
      ((controlStep st s).1.fans.get st).tachSpan = 0 ∧ ((controlStep st s).1.fans.get st).qMeas = (measured st s).qMeas ∧
      ((controlStep st s).1.fans.get st).loop = (measured st s).loop := by
  have h := fanWork_sensed (fanEnv s st) (measured st s)
  simp only [FanRecord.sensed, Prod.mk.injEq] at h
  obtain ⟨hn, hcount, hspan, hmeas, hloop, -, -⟩ := h
  rw [controlStep_fan]
  exact ⟨hn, hcount, hspan, hmeas, hloop⟩

/-! ### The formulas of a running step (R22, R23, R26, R27) -/

theorem trimAt_eq (e : FanEnv) (f : FanRecord) (c : Nat) :
    trimAt e f c = if c = 0 then 0 else if f.loop = .openLoop ∨ e.supplyLow = true then f.trim
      else if (1000 < (feedforwardDuty e.table c : Int) + (f.trim + Int.tdiv (((c : Int) - f.qMeas) * e.settings.fanKi) 32) ∧
            0 < (c : Int) - f.qMeas) ∨
          ((feedforwardDuty e.table c : Int) + (f.trim + Int.tdiv (((c : Int) - f.qMeas) * e.settings.fanKi) 32) <
            e.settings.dutyMin ∧ (c : Int) - f.qMeas < 0) then f.trim
      else min (max (f.trim + Int.tdiv (((c : Int) - f.qMeas) * e.settings.fanKi) 32) (-250)) 250 := by
  have hfrozen : frozen e f = true ↔ f.loop = .openLoop ∨ e.supplyLow = true := by simp [frozen]
  unfold trimAt
  simp only [hfrozen]
  rfl

theorem cmdOf_fanEnv (st : Stream) (s : State) (f : FanRecord) :
    cmdOf (fanEnv s st) f = if st = .supply then min (rampTo f.qCmd f.qTarget) s.fans.extract.qCmd
      else rampTo f.qCmd f.qTarget := by
  cases st <;> rfl

/-- R28: OFF starts by the target and, for the supply fan, by the extract flow. -/
theorem workOff_starts {e : FanEnv} {f : FanRecord} (ht : 60 ≤ f.qTarget) (hb : 60 ≤ e.extractCmd.getD 60) :
    workOff e f = ({ f with
      state := .starting, startKind := .normal, qCmd := 0, trim := 0, timer := 0, duty := e.settings.dutyStart }, []) :=
  if_pos ⟨ht, hb⟩

theorem workOff_stays {e : FanEnv} {f : FanRecord} (h : f.qTarget < 60 ∨ e.extractCmd.getD 60 < 60) :
    workOff e f = ({ f with duty := 0, qCmd := 0, trim := 0, timer := 0 }, []) := by
  have hno : ¬ (Config.qFanMin ≤ f.qTarget ∧ Config.qFanMin ≤ e.extractCmd.getD Config.qFanMin) := by
    show ¬ (60 ≤ f.qTarget ∧ 60 ≤ e.extractCmd.getD 60)
    omega
  exact if_neg hno

/-- Settles O13. -/
theorem controlStepMeasuresAndRamps : Obligations.ControlStepMeasuresAndRamps := by
  unfold Obligations.ControlStepMeasuresAndRamps
  refine ⟨fun table q hok => ?_, ?_⟩
  · obtain ⟨hlen, hrise⟩ := rising_of_feedforwardOk hok
    refine ⟨fun i p p' hp hp' hle hq => feedforwardDuty_between hrise hp hp' hle hq, fun p hp hle => ?_⟩
    exact feedforwardDuty_beyond hrise (by rw [List.getLast?_eq_getElem?, hlen]; exact hp) hle
  · intro st s hpower f g bound ramp cmd ff err candidate trim
    obtain ⟨hn, hcount, hspan, hmeas, hloop⟩ := controlStep_sensed st s
    have hfan := controlStep_fan st s
    have hcmd : cmdOf (fanEnv s st) g = cmd := cmdOf_fanEnv st s g
    have htrim : trimAt (fanEnv s st) g cmd = trim := trimAt_eq (fanEnv s st) g cmd
    refine ⟨_, exec_controlStep st hpower, ?_, ?_, ?_, ?_, ?_, hcount, hspan, hmeas, hloop, ?_, ?_, ?_, ?_⟩
    · intro hzero
      rw [hn]
      exact if_pos hzero
    · intro hk hs
      rw [hn]
      exact (if_neg hk).trans (if_neg hs)
    · rw [hn]
      exact speedOf_le _ _
    · rintro rfl
      exact controlStep_clips s
    · intro c hc press hpress
      have hpair : streamPressures s.seq.published st = c := by rw [hc]; cases st <;> rfl
      subst hpair hpress
      rw [hmeas, hloop, hn]
      exact ⟨flowOf_cast _ _ _ _, rfl⟩
    · intro hstate ht hb
      have hbound : 60 ≤ (fanEnv s st).extractCmd.getD 60 := by
        cases st
        · exact hb
        · exact le_rfl
      rw [hfan, fanWork_off _ (show g.state = .off from hstate), workOff_starts (f := g) ht hbound]
      exact ⟨rfl, rfl, rfl, rfl⟩
    · intro hstate hno
      have hbound : g.qTarget < 60 ∨ (fanEnv s st).extractCmd.getD 60 < 60 := by
        cases st
        · exact hno
        · exact hno.imp_right fun h => absurd h (Nat.not_lt.mpr (by decide : 60 ≤ 1200))
      rw [hfan, fanWork_off _ (show g.state = .off from hstate), workOff_stays hbound]
      exact ⟨hstate, rfl⟩
    · intro hrun hgo
      have hstate := (running_iff g).mp hrun
      obtain ⟨hrunning, hqcmd, htrims, hduty⟩ := workRun_goes_drives (e := fanEnv s st) hstate (by rw [hcmd]; exact hgo)
      rw [hfan, fanWork_running _ hstate]
      rw [hcmd, htrim] at *
      exact ⟨hrunning, hqcmd, htrims, hduty⟩
    · intro hrun ht hc
      have hstate := (running_iff g).mp hrun
      rw [hfan, fanWork_running _ hstate, workRun_stops (f := g) ht (by rw [hcmd]; exact hc)]
      exact ⟨rfl, rfl, rfl, rfl, rfl⟩

end Sys2Proof.Proofs
end

section
/-! SUPPORT. Proofs: drive, tach, stalls, and the occasions of a control step (O12, O14, O15). -/

namespace Sys2Proof.Proofs

open Sys2Proof Sys2Proof.Machine

/-! ### Events set by a list of events -/

/-- An event raised, or set before, is set. -/
theorem hasEvent_of_events {t : State} {v : BitVec 30} {es : List Event} {e : Event}
    (h : t.events = es.foldl (fun v e => v ||| e.bit) v) (he : e ∈ es ∨ v.getLsbD e.num = true) : t.hasEvent e = true := by
  have hset : (es.foldl (fun v e => v ||| e.bit) v).getLsbD e.num = true := by
    clear h
    induction es generalizing v with
    | nil => simpa using he
    | cons a es ih =>
      refine ih ?_
      rw [List.mem_cons] at he
      obtain (rfl | he) | he := he
      · refine Or.inr ?_
        have := raise_hasEvent e { t with events := v }
        exact this
      · exact Or.inl he
      · refine Or.inr ?_
        rw [BitVec.getLsbD_or, he, Bool.true_or]
  unfold State.hasEvent
  rw [h, hset]

/-! ### A fan that stalls or fails (R32, R57) -/

/-- A hand-over of a fault stops both targets, and the other fan is left but for its target and the clip. -/
theorem handOn_fault {st : Stream} {f : FanRecord} {s : State} (es : List Event) (b : Bool)
    (hfault : f.state = .stalled ∨ f.state = .failed) (hs : f.state ≠ (s.fans.get st).state) :
    (handOn st f es b s).fans.get st = { f with qTarget := 0 } ∧
      (handOn st f es b s).fans.get (other st) = { s.fans.get (other st) with
        qTarget := 0, qCmd := ((handOn st f es b s).fans.get (other st)).qCmd } ∧
      (handOn st f es b s).res.extTarget = 0 ∧ (handOn st f es b s).res.supTarget = 0 := by
  obtain ⟨⟨hextract, hsupply, hres⟩, -, -⟩ := handOn_changed st f es b s (Or.inl hs)
  have hfan := handOn_fan st f es b s
  obtain ⟨hother, -⟩ := handOn_other st f es b s
  generalize handOn st f es b s = t at *
  have hstate : (t.fans.get st).state = f.state := by rw [hfan]
  have hzero : targets t = (0, 0) := targets_of_fault t st (by rw [hstate]; exact hfault)
  rw [hzero] at hextract hsupply
  have htarget : ∀ st', (t.fans.get st').qTarget = 0 := by rintro (_ | _) <;> assumption
  rw [htarget] at hfan hother
  rw [hres]
  exact ⟨hfan, hother, congrArg Prod.fst hzero, congrArg Prod.snd hzero⟩

/-- The other fan's commanded flow after a record that commands nothing is handed on. -/
theorem handOn_other_qCmd {st : Stream} {f : FanRecord} {s : State} (es : List Event) (b : Bool) (hf : f.qCmd = 0) :
    ((handOn st f es b s).fans.get (other st)).qCmd =
      if st = .extract ∧ 0 < (s.fans.get st).qCmd then 0 else (s.fans.get (other st)).qCmd := by
  cases st with
  | supply => exact (handOn_other .supply f es b s).2 rfl
  | extract =>
    have hclip := handOn_clips f es b s
    rw [hf, Nat.min_zero] at hclip
    rw [if_congr (and_iff_right rfl) rfl rfl]
    exact hclip

theorem retryWait_eq (n : Nat) : retryWait n = if n = 0 then 10 else if n = 1 then 20 else 40 := by
  match n with
  | 0 => rfl
  | 1 => rfl
  | n + 2 => rfl

/-- A stall as it is handed on: R32's record, the other fan's, the targets and the event. -/
theorem handOn_stall {st : Stream} {f : FanRecord} {s : State} (hs : (s.fans.get st).state ≠ .stalled) :
    (handOn st f.stall [.fanStalled] false s).fans.get st = { f with
        state := .stalled, startKind := .normal, qTarget := 0, duty := 0, qCmd := 0, trim := 0, steadyCount := 0
        satCount := 0, satCap := none, timer := if f.retry = 0 then 10 else if f.retry = 1 then 20 else 40 } ∧
      (handOn st f.stall [.fanStalled] false s).fans.get (other st) = { s.fans.get (other st) with
        qTarget := 0
        qCmd := if st = .extract ∧ 0 < (s.fans.get st).qCmd then 0 else (s.fans.get (other st)).qCmd } ∧
      ((handOn st f.stall [.fanStalled] false s).fans.get (other st)).qTarget = 0 ∧
      (handOn st f.stall [.fanStalled] false s).res.extTarget = 0 ∧
      (handOn st f.stall [.fanStalled] false s).res.supTarget = 0 ∧
      (handOn st f.stall [.fanStalled] false s).hasEvent .fanStalled = true := by
  obtain ⟨hfan, hother, hext, hsup⟩ := handOn_fault (st := st) (f := f.stall) (s := s) [.fanStalled] false (Or.inl rfl) (Ne.symm hs)
  rw [handOn_other_qCmd [.fanStalled] false rfl] at hother
  refine ⟨?_, hother, congrArg FanRecord.qTarget hother, hext, hsup, ?_⟩
  · rw [hfan, FanRecord.stall, retryWait_eq]
  · exact hasEvent_of_events (congrArg State.events (handOn_eq ..)) (Or.inl List.mem_cons_self)

/-- R29: a normal start that fails. -/
theorem workStart_fails {e : FanEnv} {f : FanRecord} (ht : 60 ≤ f.qTarget) (hn : f.n < 200) (hm : 4 ≤ f.timer) :
    workStart e f = ({ f with qCmd := 0, timer := f.timer + 1 }.stall, [.startFailed]) := by
  have h1 : ¬ f.qTarget < Config.qFanMin := Nat.not_lt.mpr ht
  have h2 : ¬ 200 ≤ f.n := by omega
  have h3 : 5 ≤ f.timer + 1 := by omega
  unfold workStart
  dsimp only
  rw [if_neg h1, if_neg h2, if_pos h3]

/-- What a control step finds of the other fan. -/
theorem estimated_other (st : Stream) (s : State) :
    (formEstimate st (takeSpeed st s)).fans.get (other st) = s.fans.get (other st) := by
  rw [estimated_eq]
  cases st <;> rfl

/-- Settles O12. -/
theorem driveTachAndStalls : Obligations.DriveTachAndStalls := by
  unfold Obligations.DriveTachAndStalls
  refine ⟨fun st s hpower => ⟨?_, fun interval => ?_⟩, fun st s hpower => ⟨?_, ?_⟩⟩
  · refine congrArg Host.Outcome.next ((whenRunning_on hpower).trans ?_)
    have habsence : ∀ f : FanRecord, (applyDuty s.settings.dutyMin f).absence =
        if f.duty < s.settings.dutyMin then none else if f.applied < s.settings.dutyMin then some 0 else f.absence := by
      intro f
      unfold applyDuty
      by_cases hd : f.duty < s.settings.dutyMin
      · simp [hd]
      · by_cases ha : f.applied < s.settings.dutyMin
        · simp [hd, ha, Nat.not_lt.mp hd]
        · simp [hd, ha, Nat.not_lt.mp hd, Nat.not_lt.mp ha]
    rw [← habsence]
    rfl
  · refine congrArg Host.Outcome.next ((whenRunning_on hpower).trans ?_)
    have habsence : ∀ o : Option Nat, (o.map fun _ => 0) = if o.isSome then some 0 else none := by rintro (_ | _) <;> rfl
    rw [← habsence]
    rfl
  · rintro f rfl hsome
    have hexec : exec (.tachAbsence st) s = .next (tachAbsence st s) := congrArg _ (whenRunning_on hpower)
    rw [hexec]
    unfold tachAbsence
    dsimp only
    rw [if_pos hsome]
    refine ⟨fun hstate => ?_, fun hstate => ?_⟩
    · have hne : (s.fans.get st).state ≠ .stalled := by obtain h | h := hstate <;> rw [h] <;> exact nofun
      have hrun : ({ s.fans.get st with absence := some 0 } : FanRecord).running = true := (running_iff _).mpr hstate
      rw [if_pos (by exact hrun)]
      exact ⟨_, rfl, handOn_stall hne⟩
    · have hstop : ¬ (s.fans.get st).running = true := by rw [running_iff, hstate]; simp
      rw [if_neg hstop]
      rfl
  · rintro g rfl hstate hkind ht hn hm
    have hwork : fanWork (fanEnv s st) (measured st s) =
        ({ measured st s with qCmd := 0, timer := (measured st s).timer + 1 }.stall, [.startFailed]) := by
      rw [fanWork_start _ hstate hkind, workStart_fails ht hn hm]
    have hexec : exec (.startAttemptFailed st) s = .next (controlStep st s).1 :=
      congrArg _ ((whenRunning_on hpower).trans (whenMarked_controlStep _ _ _ (by rw [hwork]; exact List.mem_singleton_self _)))
    have hfan := formEstimate_takeSpeed_fan st s
    have hne : ((formEstimate st (takeSpeed st s)).fans.get st).state ≠ .stalled := by rw [hfan, hstate]; exact nofun
    have hstall := handOn_stall (f := { measured st s with qCmd := 0, timer := (measured st s).timer + 1 }) hne
    rw [hfan, estimated_other] at hstall
    refine ⟨_, hexec, ?_⟩
    rw [controlStep_eq, hwork]
    obtain ⟨hown, hrest⟩ := hstall
    refine ⟨hown.trans ?_, hrest⟩
    rw [← hkind]

end Sys2Proof.Proofs
end

section
/-! SUPPORT. Proofs: the occasions of a control step and FAN_RECOVER (O14, O15). -/

namespace Sys2Proof.Proofs

open Sys2Proof Sys2Proof.Machine

/-! ### What a control step hands on, by what its work gives -/

/-- A step whose work changes the state and marks nothing. -/
theorem controlStep_changes {st : Stream} {s : State} {f : FanRecord} (hw : worked st s = (f, []))
    (hs : f.state ≠ (measured st s).state) :
    (controlStep st s).1.events = s.events ∧ Resolved (controlStep st s).1 ∧
      (controlStep st s).1.res.count = (s.res.count + 1) % 65536 ∧
      (controlStep st s).1.fans.get st = { f with qTarget := ((controlStep st s).1.fans.get st).qTarget } := by
  obtain ⟨hcount, hresolved⟩ := controlStep_handedOn (st := st) (s := s) (Or.inl (by rw [hw]; exact hs))
  have hevents := congrArg State.events (controlStep_frame st s)
  have hfan := controlStep_fan st s
  unfold worked at hw hevents
  rw [hw] at hevents hfan
  exact ⟨hevents, hresolved, hcount, hfan⟩

/-- A step whose work keeps the state and the cap and marks nothing. -/
theorem controlStep_keeps {st : Stream} {s : State} {f : FanRecord} (hw : worked st s = (f, []))
    (hs : f.state = (measured st s).state) (hc : f.satCap = (measured st s).satCap) :
    (controlStep st s).1.events = s.events ∧ (controlStep st s).1.res = s.res ∧ (controlStep st s).1.fans.get st = f := by
  obtain ⟨hres, hfan⟩ := controlStep_quiet (st := st) (s := s) (by rw [hw]; exact hs) (by rw [hw]; exact hc)
    (by rw [hw]; exact nofun)
  have hevents := congrArg State.events (controlStep_frame st s)
  rw [hw] at hevents hfan
  exact ⟨hevents, hres, hfan⟩

/-- The record of a step that names an occasion. -/
theorem exec_marked {st : Stream} {s : State} {m : FanMark} {c : Instr} (hpower : s.power = .running)
    (hc : exec c s = .next (whenRunning (whenMarked m (controlStep st)) s)) (hm : m ∈ (worked st s).2) :
    exec c s = .next (controlStep st s).1 := by
  rw [hc, whenRunning_on hpower, whenMarked_controlStep m st s hm]

/-! ### The counts of a running step that goes on (R30, R36) -/

/-- The saturation count reads nothing that the steady count writes. -/
theorem countSaturation_countSteady (f : FanRecord) :
    countSaturation (countSteady f).1 = ({ (countSteady f).1 with
      satCount := (countSaturation f).1.satCount, satCap := (countSaturation f).1.satCap }, (countSaturation f).2) := by
  have hsame : Saturating (countSteady f).1 ↔ Saturating f := by
    rw [countSteady_eq]
    exact Iff.rfl
  have hcount : (countSteady f).1.satCount = f.satCount ∧ (countSteady f).1.satCap = f.satCap ∧
      (countSteady f).1.qMeas = f.qMeas := by
    rw [countSteady_eq]
    exact ⟨rfl, rfl, rfl⟩
  obtain ⟨hn, hcap, hmeas⟩ := hcount
  by_cases h : Saturating f
  · obtain hlt | hge := Nat.lt_or_ge f.satCount 59
    · rw [countSaturation_rises (hsame.mpr h) (by rw [hn]; exact hlt), countSaturation_rises h hlt, hn, ← hcap]
    · rw [countSaturation_caps (hsame.mpr h) (by rw [hn]; exact hge), countSaturation_caps h hge, ← hmeas]
  · rw [countSaturation_falls (mt hsame.mp h), countSaturation_falls h, ← hcap]

/-- A running step that goes on: its record and its marks. -/
theorem worked_goes {st : Stream} {s : State} (hs : (measured st s).state = .ramping ∨ (measured st s).state = .steady)
    (h : 60 ≤ (measured st s).qTarget ∨ 60 < cmdOf (fanEnv s st) (measured st s)) :
    worked st s = ({ (countSteady (driven (fanEnv s st) (measured st s))).1 with
        satCount := (countSaturation (driven (fanEnv s st) (measured st s))).1.satCount
        satCap := (countSaturation (driven (fanEnv s st) (measured st s))).1.satCap },
      (steadyCheck (measured st s)).2 ++ (countSteady (driven (fanEnv s st) (measured st s))).2 ++
        (countSaturation (driven (fanEnv s st) (measured st s))).2) := by
  unfold worked
  rw [fanWork_running _ hs, workRun_goes h, countSaturation_countSteady]

/-- The steady condition of a record. -/
theorem steadyCond_iff (f : FanRecord) :
    steadyCond f = true ↔ f.qCmd = f.qTarget ∧ (f.loop = .openLoop ∨ (f.qCmd ≤ f.qMeas + 20 ∧ f.qMeas ≤ f.qCmd + 20)) := by
  simp [steadyCond]

theorem driven_steadyCond (e : FanEnv) (f : FanRecord) :
    steadyCond (driven e f) = true ↔
      cmdOf e f = f.qTarget ∧ (f.loop = .openLoop ∨ (cmdOf e f ≤ f.qMeas + 20 ∧ f.qMeas ≤ cmdOf e f + 20)) := by
  rw [steadyCond_iff, driven_eq]

theorem driven_saturating (e : FanEnv) (f : FanRecord) :
    Saturating (driven e f) ↔ f.loop = .closed ∧ (driven e f).duty = 1000 ∧ f.qMeas + 20 < cmdOf e f := by
  unfold Saturating
  rw [driven_eq]

/-- The steady count at which a RAMPING step, or a STEADY one that leaves STEADY, begins. -/
theorem steadyCheck_counts {f : FanRecord} (hs : f.state = .ramping ∨ f.state = .steady)
    (h : f.state = .ramping ∨ f.qTarget ≠ f.qCmd) :
    (steadyCheck f).1.state = .ramping ∧ (steadyCheck f).1.steadyCount = (if f.state = .ramping then f.steadyCount else 0) ∧
      (f.state = .steady → (steadyCheck f).1.timer = 0) := by
  obtain hr | hst := hs
  · rw [steadyCheck_ramping hr, if_pos hr]
    exact ⟨hr, rfl, fun hst => absurd (hr.symm.trans hst) nofun⟩
  · have hne : ¬ f.state = .ramping := by rw [hst]; exact nofun
    rw [steadyCheck_leaves hst (h.resolve_left hne), if_neg hne]
    exact ⟨rfl, rfl, fun _ => rfl⟩

/-! ### The occasions -/

section Step

variable {st : Stream} {s : State}

/-- The record after a running step that goes on. -/
theorem goes_fan (hs : (measured st s).state = .ramping ∨ (measured st s).state = .steady)
    (h : 60 ≤ (measured st s).qTarget ∨ 60 < cmdOf (fanEnv s st) (measured st s)) :
    (controlStep st s).1.fans.get st = { (countSteady (driven (fanEnv s st) (measured st s))).1 with
      satCount := (countSaturation (driven (fanEnv s st) (measured st s))).1.satCount
      satCap := (countSaturation (driven (fanEnv s st) (measured st s))).1.satCap
      qTarget := ((controlStep st s).1.fans.get st).qTarget } := by
  have hw := worked_goes hs h
  unfold worked at hw
  have hfan := controlStep_fan st s
  rw [hw] at hfan
  exact hfan

/-- R30: leaving STEADY, the RAMPING timer begins at 0. -/
theorem step_leaves_steady (hs : (measured st s).state = .steady) (hc : (measured st s).qTarget ≠ (measured st s).qCmd)
    (ht : 60 ≤ (measured st s).qTarget) :
    ((controlStep st s).1.fans.get st).state = .ramping ∧ ((controlStep st s).1.fans.get st).timer = 0 := by
  rw [goes_fan (Or.inr hs) (Or.inl ht)]
  obtain ⟨hstate, hcount, htimer⟩ := steadyCheck_counts (Or.inr hs) (Or.inr hc)
  have hdriven : (driven (fanEnv s st) (measured st s)).state = .ramping ∧
      (driven (fanEnv s st) (measured st s)).timer = 0 ∧ (driven (fanEnv s st) (measured st s)).steadyCount < 4 := by
    rw [driven_eq]
    refine ⟨hstate, htimer hs, ?_⟩
    rw [hcount, if_neg (by rw [hs]; exact nofun)]
    decide
  obtain ⟨hramping, hzero, hlt⟩ := hdriven
  by_cases hcond : steadyCond (driven (fanEnv s st) (measured st s)) = true
  · rw [countSteady_rises hramping hcond hlt]
    exact ⟨hramping, hzero⟩
  · rw [countSteady_falls hramping hcond]
    exact ⟨hramping, hzero⟩

/-- R30: a STEADY step that stays, at a record the start's check gives. -/
theorem step_stays_steady {f : FanRecord} {ms : List FanMark} (hs : (measured st s).state = .steady)
    (ht : 60 ≤ (measured st s).qTarget) (hcheck : steadyCheck (measured st s) = (f, ms)) (hf : f.state = .steady) :
    ((controlStep st s).1.fans.get st).state = .steady ∧ ((controlStep st s).1.fans.get st).timer = f.timer ∧
      ((controlStep st s).1.fans.get st).retry = f.retry ∧
      ((controlStep st s).1.fans.get st).steadyCount = f.steadyCount := by
  have hdriven : (driven (fanEnv s st) (measured st s)).state = .steady := by rw [driven_eq, hcheck]; exact hf
  rw [goes_fan (Or.inr hs) (Or.inl ht), countSteady_steady hdriven, driven_eq, hcheck]
  exact ⟨hf, rfl, rfl, rfl⟩

/-- R30: the steady count of a RAMPING step that goes on. -/
theorem step_counts_steady (hs : (measured st s).state = .ramping ∨ (measured st s).state = .steady)
    (hgo : 60 ≤ (measured st s).qTarget ∨ 60 < cmdOf (fanEnv s st) (measured st s))
    (hr : (measured st s).state = .ramping ∨ (measured st s).qTarget ≠ (measured st s).qCmd) {count : Nat}
    (hcount : count = if (measured st s).state = .ramping then (measured st s).steadyCount else 0) :
    (steadyCond (driven (fanEnv s st) (measured st s)) = true → count < 4 →
        ((controlStep st s).1.fans.get st).state = .ramping ∧
          ((controlStep st s).1.fans.get st).steadyCount = count + 1) ∧
      (steadyCond (driven (fanEnv s st) (measured st s)) = true → 4 ≤ count →
        ((controlStep st s).1.fans.get st).state = .steady ∧ ((controlStep st s).1.fans.get st).steadyCount = 0 ∧
          ((controlStep st s).1.fans.get st).timer = 0) ∧
      (¬ steadyCond (driven (fanEnv s st) (measured st s)) = true →
        ((controlStep st s).1.fans.get st).state = .ramping ∧ ((controlStep st s).1.fans.get st).steadyCount = 0) := by
  obtain ⟨hstate, hsteady, -⟩ := steadyCheck_counts hs hr
  have hdriven : (driven (fanEnv s st) (measured st s)).state = .ramping ∧
      (driven (fanEnv s st) (measured st s)).steadyCount = count := by
    rw [driven_eq]
    exact ⟨hstate, hsteady.trans hcount.symm⟩
  obtain ⟨hramping, hn⟩ := hdriven
  rw [goes_fan hs hgo]
  refine ⟨fun hcond hlt => ?_, fun hcond hge => ?_, fun hcond => ?_⟩
  · rw [countSteady_rises hramping hcond (by omega), hn]
    exact ⟨hramping, rfl⟩
  · rw [countSteady_enters hramping hcond (by omega)]
    exact ⟨rfl, rfl, rfl⟩
  · rw [countSteady_falls hramping hcond]
    exact ⟨hramping, rfl⟩

/-- R36: the sixtieth step of saturation. -/
theorem step_saturates (hs : (measured st s).state = .ramping ∨ (measured st s).state = .steady)
    (hgo : 60 ≤ (measured st s).qTarget ∨ 60 < cmdOf (fanEnv s st) (measured st s))
    (hsat : Saturating (driven (fanEnv s st) (measured st s)))
    (hn : 59 ≤ (driven (fanEnv s st) (measured st s)).satCount) :
    FanMark.saturation ∈ (worked st s).2 ∧ ((controlStep st s).1.fans.get st).satCount = 0 ∧
      ((controlStep st s).1.fans.get st).satCap = some (measured st s).qMeas ∧
      (controlStep st s).1.hasEvent .fanSaturated = true ∧ HandedOn s (controlStep st s).1 := by
  have hcaps := countSaturation_caps hsat hn
  have hmark : FanMark.saturation ∈ (worked st s).2 := by rw [worked_goes hs hgo, hcaps]; simp
  have hevent : Event.fanSaturated ∈ (worked st s).2.flatMap FanMark.events :=
    List.mem_flatMap.mpr ⟨_, hmark, List.mem_singleton_self _⟩
  refine ⟨hmark, ?_, ?_, hasEvent_of_events (congrArg State.events (controlStep_frame st s)) (Or.inl hevent),
    controlStep_handedOn (Or.inr (Or.inl hmark))⟩
  · rw [goes_fan hs hgo, hcaps]
  · rw [goes_fan hs hgo, hcaps, driven_eq]

/-- R37: the target clears the cap. -/
theorem step_clears_cap (hs : (measured st s).state = .ramping ∨ (measured st s).state = .steady) {c : Nat}
    (hc : (measured st s).satCap = some c) (ht : (measured st s).qTarget + 20 ≤ c) :
    ((controlStep st s).1.fans.get st).satCap = none ∧ HandedOn s (controlStep st s).1 := by
  have hcleared : capCleared (measured st s) := ⟨c, hc, ht⟩
  have hnone : (driven (fanEnv s st) (measured st s)).satCap = none ∧
      (driven (fanEnv s st) (measured st s)).satCount = 0 := by
    rw [driven_eq, targetCheck_cleared hcleared]
    exact ⟨rfl, rfl⟩
  have hworked : (worked st s).1.satCap = none := by
    by_cases hgo : 60 ≤ (measured st s).qTarget ∨ 60 < cmdOf (fanEnv s st) (measured st s)
    · rw [worked_goes hs hgo]
      show (countSaturation _).1.satCap = none
      by_cases hsat : Saturating (driven (fanEnv s st) (measured st s))
      · rw [countSaturation_rises hsat (by rw [hnone.2]; decide)]
        exact hnone.1
      · rw [countSaturation_falls hsat]
        exact hnone.1
    · have hstop : (measured st s).qTarget < 60 ∧ cmdOf (fanEnv s st) (measured st s) ≤ 60 := by omega
      unfold worked
      rw [fanWork_running _ hs, workRun_stops hstop.1 hstop.2]
      rfl
  refine ⟨(congrArg FanRecord.satCap (controlStep_fan st s)).trans hworked,
    controlStep_handedOn (Or.inr (Or.inr ?_))⟩
  rw [hworked, hc]
  exact nofun

/-- R36: the saturation count of a step that goes on. -/
theorem step_counts_saturation (hs : (measured st s).state = .ramping ∨ (measured st s).state = .steady)
    (hgo : 60 ≤ (measured st s).qTarget ∨ 60 < cmdOf (fanEnv s st) (measured st s)) :
    (¬ Saturating (driven (fanEnv s st) (measured st s)) → ((controlStep st s).1.fans.get st).satCount = 0) ∧
      (Saturating (driven (fanEnv s st) (measured st s)) → (driven (fanEnv s st) (measured st s)).satCount < 59 →
        ((controlStep st s).1.fans.get st).satCount = (driven (fanEnv s st) (measured st s)).satCount + 1) ∧
      (¬ Saturating (driven (fanEnv s st) (measured st s)) ∨ (driven (fanEnv s st) (measured st s)).satCount < 59 →
        ((controlStep st s).1.fans.get st).satCap = (driven (fanEnv s st) (measured st s)).satCap) := by
  rw [goes_fan hs hgo]
  refine ⟨fun hno => ?_, fun hsat hlt => ?_, fun h => ?_⟩
  · rw [countSaturation_falls hno]
  · rw [countSaturation_rises hsat hlt]
  · by_cases hsat : Saturating (driven (fanEnv s st) (measured st s))
    · rw [countSaturation_rises hsat (h.resolve_left (not_not.mpr hsat))]
    · rw [countSaturation_falls hsat]

end Step

/-! ### The starting, waiting and failing works -/

theorem workStart_gives_up {e : FanEnv} {f : FanRecord} (ht : f.qTarget < 60) :
    workStart e f = ({ f with state := .off, qCmd := 0, duty := 0, timer := 0 }, []) := if_pos ht

theorem workStart_ramps {e : FanEnv} {f : FanRecord} (ht : 60 ≤ f.qTarget) (hn : 200 ≤ f.n) :
    workStart e f = (driveFrozen e { f with
      state := .ramping, steadyCount := 0, satCount := 0, timer := 0, qCmd := coupled e (min f.qMeas f.qTarget) }, []) :=
  (if_neg (Nat.not_lt.mpr ht)).trans (if_pos hn)

theorem workStart_waits {e : FanEnv} {f : FanRecord} (ht : 60 ≤ f.qTarget) (hn : f.n < 200) (hm : f.timer < 4) :
    workStart e f = ({ f with qCmd := 0, timer := f.timer + 1 }, []) :=
  (if_neg (Nat.not_lt.mpr ht)).trans ((if_neg (Nat.not_le.mpr hn)).trans (if_neg (by show ¬ 5 ≤ f.timer + 1; omega)))

theorem workSpin_passes {f : FanRecord} (hn : 200 ≤ f.n) :
    workSpin f = ({ f with state := .off, startKind := .normal, qCmd := 0, duty := 0, trim := 0, timer := 0 }, []) := if_pos hn

theorem workSpin_waits {f : FanRecord} (hn : f.n < 200) (hm : f.timer < 4) :
    workSpin f = ({ f with timer := f.timer + 1 }, []) :=
  (if_neg (Nat.not_le.mpr hn)).trans (if_neg (by show ¬ 5 ≤ f.timer + 1; omega))

theorem workSpin_stalls {f : FanRecord} (hn : f.n < 200) (hm : 4 ≤ f.timer) (hr : f.retry < 2) :
    workSpin f = ({ f with
      state := .stalled, startKind := .normal, duty := 0, retry := f.retry + 1, timer := retryWait (f.retry + 1) },
      [.spinFailed]) :=
  (if_neg (Nat.not_le.mpr hn)).trans ((if_pos (by show 5 ≤ f.timer + 1; omega)).trans (if_pos (by omega)))

theorem workSpin_fails {f : FanRecord} (hn : f.n < 200) (hm : 4 ≤ f.timer) (hr : 2 ≤ f.retry) :
    workSpin f = ({ f with state := .failed, startKind := .normal, duty := 0, retry := 3, timer := 0 },
      [.spinFailed, .failed]) :=
  (if_neg (Nat.not_le.mpr hn)).trans ((if_pos (by show 5 ≤ f.timer + 1; omega)).trans (if_neg (by omega)))

theorem workStalled_waits {e : FanEnv} {f : FanRecord} (hm : 2 ≤ f.timer) :
    workStalled e f = ({ f with duty := 0, qCmd := 0, trim := 0, timer := f.timer - 1 }, []) :=
  if_neg (by show ¬ f.timer - 1 = 0; omega)

theorem workStalled_starts {e : FanEnv} {f : FanRecord} (hm : f.timer ≤ 1) :
    workStalled e f = ({ f with
      state := .starting, startKind := .spinTest, duty := e.settings.dutyStart, qCmd := 0, trim := 0
      timer := f.timer - 1 }, [.spinStart]) :=
  if_pos (by show f.timer - 1 = 0; omega)

/-- R34: a spin test that fails stops both targets. -/
theorem spin_fails {st : Stream} {s : State} (hs : (measured st s).state = .starting)
    (hk : (measured st s).startKind = .spinTest) (hn : (measured st s).n < 200) (hm : 4 ≤ (measured st s).timer) :
    FanMark.spinFailed ∈ (worked st s).2 ∧ ((controlStep st s).1.fans.get st).duty = 0 ∧
      (controlStep st s).1.res.extTarget = 0 ∧ (controlStep st s).1.res.supTarget = 0 ∧
      ((measured st s).retry < 2 → ((controlStep st s).1.fans.get st).state = .stalled ∧
        ((controlStep st s).1.fans.get st).retry = (measured st s).retry + 1 ∧
        ((controlStep st s).1.fans.get st).timer = (if (measured st s).retry = 0 then 20 else 40) ∧
        (controlStep st s).1.events = s.events) ∧
      (2 ≤ (measured st s).retry → ((controlStep st s).1.fans.get st).state = .failed ∧
        ((controlStep st s).1.fans.get st).retry = 3 ∧ ((controlStep st s).1.fans.get st).timer = 0 ∧
        (controlStep st s).1.hasEvent .fanFailed = true) := by
  have hspin : worked st s = workSpin (measured st s) := fanWork_spin _ hs hk
  have hfan : (controlStep st s).1.fans.get st =
      { (worked st s).1 with qTarget := ((controlStep st s).1.fans.get st).qTarget } := controlStep_fan st s
  have hfault : ((worked st s).1.state = .stalled ∨ (worked st s).1.state = .failed) →
      (controlStep st s).1.res.extTarget = 0 ∧ (controlStep st s).1.res.supTarget = 0 := by
    intro h
    have hne : (worked st s).1.state ≠ ((formEstimate st (takeSpeed st s)).fans.get st).state := by
      rw [formEstimate_takeSpeed_fan, hs]
      obtain h | h := h <;> rw [h] <;> exact nofun
    obtain ⟨-, -, hext, hsup⟩ := handOn_fault (s := formEstimate st (takeSpeed st s))
      ((worked st s).2.flatMap FanMark.events) ((worked st s).2.contains .saturation) h hne
    rw [controlStep_eq]
    exact ⟨hext, hsup⟩
  have hevents := congrArg State.events (controlStep_frame st s)
  obtain hr | hr := Nat.lt_or_ge (measured st s).retry 2
  · rw [workSpin_stalls hn hm hr] at hspin
    rw [hspin] at hfan hfault hevents
    obtain ⟨hext, hsup⟩ := hfault (Or.inl rfl)
    rw [hfan, hspin]
    refine ⟨List.mem_singleton_self _, rfl, hext, hsup, fun _ => ⟨rfl, rfl, ?_, hevents⟩, fun h => absurd hr (by omega)⟩
    show retryWait ((measured st s).retry + 1) = _
    rw [retryWait_eq, if_neg (Nat.succ_ne_zero _)]
    simp
  · rw [workSpin_fails hn hm hr] at hspin
    rw [hspin] at hfan hfault hevents
    obtain ⟨hext, hsup⟩ := hfault (Or.inr rfl)
    rw [hfan, hspin]
    exact ⟨List.mem_cons_self, rfl, hext, hsup, fun h => absurd hr (by omega),
      fun _ => ⟨rfl, rfl, rfl, hasEvent_of_events hevents (Or.inl List.mem_cons_self)⟩⟩

/-- Settles O14: each occasion is read off the work of its state. -/
theorem controlStepOccasions : Obligations.ControlStepOccasions := by
  unfold Obligations.ControlStepOccasions
  rintro st s hpower g rfl e rfl
  have hexec := exec_controlStep st hpower
  refine ⟨fun f hf => ?_, fun f hf => ?_, fun hs hc ht => ?_, fun hs hc ht hm => ?_, fun hs => ?_, fun hs ht hc hn hmeas => ?_,
    fun hs ht hc hm => ?_, fun hs hm => ?_, fun hs hk hn hm => ?_, ?_⟩
  · refine ⟨_, hexec, ?_⟩
    obtain ⟨hs, hk, ht, rfl⟩ | ⟨hs, hk, ht, hn, c, hc, rfl⟩ | ⟨hs, hk, hn, rfl⟩ := hf
    · exact controlStep_changes ((fanWork_start _ hs hk).trans (workStart_gives_up ht)) (by rw [hs]; exact nofun)
    · refine controlStep_changes ((fanWork_start _ hs hk).trans ?_) (by rw [hs]; exact nofun)
      have hcoupled : coupled (fanEnv s st) (min (measured st s).qMeas (measured st s).qTarget) = c := by
        rw [hc]
        cases st <;> rfl
      rw [workStart_ramps ht hn, driveFrozen_eq, hcoupled]
      rfl
    · exact controlStep_changes ((fanWork_spin _ hs hk).trans (workSpin_passes hn)) (by rw [hs]; exact nofun)
  · refine ⟨_, hexec, ?_⟩
    obtain ⟨hs, hk, ht, hn, hm, rfl⟩ | ⟨hs, hk, hn, hm, rfl⟩ | ⟨hs, hm, rfl⟩ | ⟨hs, rfl⟩ := hf
    · exact controlStep_keeps ((fanWork_start _ hs hk).trans (workStart_waits ht hn hm)) rfl rfl
    · exact controlStep_keeps ((fanWork_spin _ hs hk).trans (workSpin_waits hn hm)) rfl rfl
    · exact controlStep_keeps ((fanWork_stalled _ hs).trans (workStalled_waits hm)) rfl rfl
    · exact controlStep_keeps (fanWork_failed _ hs) rfl rfl
  · exact ⟨_, hexec, step_leaves_steady hs hc ht⟩
  · obtain ⟨hstate, htimer, hretry, hcount⟩ := step_stays_steady hs ht (steadyCheck_stays hs hc hm) hs
    exact ⟨_, hexec, hstate, htimer, hretry, hcount⟩
  · refine ⟨_, hexec, ?_⟩
    rintro f rfl
    refine ⟨fun c hc ht => step_clears_cap hs hc ht, fun hgo => ?_⟩
    have hgo' : 60 ≤ (measured st s).qTarget ∨ 60 < cmdOf (fanEnv s st) (measured st s) := by
      obtain h | h := hgo
      · exact Or.inl h
      · by_cases hc : 60 < cmdOf (fanEnv s st) (measured st s)
        · exact Or.inr hc
        · refine Or.inl (Nat.le_of_not_lt fun ht => ?_)
          have hstop := workRun_stops ht (Nat.le_of_not_lt hc)
          have hzero : ((controlStep st s).1.fans.get st).qCmd = 0 := by
            rw [controlStep_fan, fanWork_running _ hs, hstop]
            rfl
          omega
    obtain ⟨-, hcmd, -, hduty⟩ := workRun_goes_drives hs hgo'
    have hfan := controlStep_fan st s
    rw [fanWork_running _ hs] at hfan
    have hcmd' : ((controlStep st s).1.fans.get st).qCmd = cmdOf (fanEnv s st) (measured st s) :=
      (congrArg FanRecord.qCmd hfan).trans hcmd
    have hduty' : ((controlStep st s).1.fans.get st).duty = (driven (fanEnv s st) (measured st s)).duty := by
      refine (congrArg FanRecord.duty hfan).trans (hduty.trans ?_)
      rw [driven_eq]
    refine ⟨fun hr count hcount met hmet => ?_, fun cleared hcleared count hzero hkept met hmet => ?_⟩
    · rw [hcmd', ← driven_steadyCond] at hmet
      obtain ⟨hrises, henters, hfalls⟩ := step_counts_steady hs hgo' hr hcount
      exact ⟨fun h => hrises (hmet.mp h), fun h => henters (hmet.mp h), fun h => hfalls (mt hmet.mpr h)⟩
    · rw [hcmd', hduty', ← driven_saturating] at hmet
      have hcount : (driven (fanEnv s st) (measured st s)).satCount = count ∧
          (¬ cleared → (driven (fanEnv s st) (measured st s)).satCap = (measured st s).satCap) := by
        rw [driven_eq]
        by_cases h : cleared
        · rw [targetCheck_cleared (hcleared.mp h), hzero h]
          exact ⟨rfl, fun hno => absurd h hno⟩
        · rw [targetCheck_kept (mt hcleared.mpr h), hkept h]
          exact ⟨rfl, fun _ => rfl⟩
      obtain ⟨hcount, hcap⟩ := hcount
      obtain ⟨hfalls, hrises, hsame⟩ := step_counts_saturation hs hgo'
      rw [hcount] at hrises hsame
      refine ⟨fun h => hfalls (mt hmet.mpr h), fun h => hrises (hmet.mp h), fun h hno => ?_, fun h hn => ?_⟩
      · exact (hsame (h.imp_left (mt hmet.mpr))).trans (hcap hno)
      · obtain ⟨hmark, hrest⟩ := step_saturates hs hgo' (hmet.mp h) (by rw [hcount]; exact hn)
        exact ⟨exec_marked hpower rfl hmark, hrest⟩
  · have hgo : 60 ≤ (measured st s).qTarget ∨ 60 < cmdOf (fanEnv s st) (measured st s) := Or.inl ht
    have hcmd : cmdOf (fanEnv s st) (measured st s) = (measured st s).qTarget := hc
    have hcond : steadyCond (driven (fanEnv s st) (measured st s)) = true := by
      rw [driven_steadyCond, hcmd]
      exact ⟨rfl, hmeas⟩
    obtain ⟨-, henters, -⟩ := step_counts_steady (Or.inl hs) hgo (Or.inl hs) rfl
    rw [if_pos hs] at henters
    obtain ⟨hstate, hcount, htimer⟩ := henters hcond hn
    have hdriven : (driven (fanEnv s st) (measured st s)).state = .ramping ∧
        4 ≤ (driven (fanEnv s st) (measured st s)).steadyCount := by
      rw [driven_eq, steadyCheck_ramping hs]
      exact ⟨hs, hn⟩
    have hmark : FanMark.steadyEntry ∈ (worked st s).2 := by
      rw [worked_goes (Or.inl hs) hgo, countSteady_enters hdriven.1 hcond hdriven.2]
      simp
    refine ⟨_, exec_marked hpower rfl hmark, hstate, htimer, hcount, ?_⟩
    rw [controlStep_fan, fanWork_running _ (Or.inl hs)]
    exact (workRun_goes_drives (Or.inl hs) hgo).2.1.trans hcmd
  · have hcheck := steadyCheck_clears hs hc hm
    obtain ⟨hstate, htimer, hretry, -⟩ := step_stays_steady hs ht hcheck hs
    have hmark : FanMark.retryClear ∈ (worked st s).2 := by
      rw [worked_goes (Or.inr hs) (Or.inl ht), hcheck]
      simp
    exact ⟨_, exec_marked hpower rfl hmark, hstate, hretry, htimer⟩
  · have hwork := (fanWork_stalled (fanEnv s st) hs).trans (workStalled_starts hm)
    refine ⟨_, exec_marked hpower rfl (m := .spinStart) ?_, ?_⟩
    · unfold worked
      rw [hwork]
      exact List.mem_singleton_self _
    · rw [controlStep_fan, hwork]
      exact ⟨rfl, rfl, by show (measured st s).timer - 1 = 0; omega, rfl, rfl⟩
  · obtain ⟨hmark, hrest⟩ := spin_fails hs hk hn hm
    exact ⟨_, exec_marked hpower rfl hmark, hrest⟩
  · rintro h rfl hs ht hloop hn hduty hmeas
    have hsat : Saturating (driven (fanEnv s st) (measured st s)) := by
      rw [driven_saturating]
      obtain ⟨hcmd, -⟩ := driven_flows (fanEnv s st) (measured st s)
      exact ⟨hloop, hduty, hcmd ▸ hmeas⟩
    obtain ⟨hmark, hcount, hcap, hevent, -⟩ := step_saturates hs (Or.inl ht) hsat hn
    refine ⟨_, exec_marked hpower rfl hmark, hcap, ?_, hcount, hevent⟩
    unfold FanRecord.saturated
    rw [hcap]
    rfl

/-! ### FAN_RECOVER (R35) -/

/-- R84: a supply fan that does not run breaks the interlock. -/
theorem handOn_drops {f : FanRecord} (es : List Event) (b : Bool) {s : State} (hs : f.state ≠ s.fans.supply.state)
    (hrun : f.running = false) :
    (handOn .supply f es b s).frost = { s.frost with duty := 0, output := false } := by
  have hbroken : ∀ u : State, u.fans.supply.running = false → preheatCheck u = { u with frost := u.frost.setDuty 0 } := by
    intro u hu
    unfold preheatCheck
    refine if_neg fun h => ?_
    obtain ⟨-, hr, -⟩ := interlock_iff.mp h
    exact absurd (hu.symm.trans hr) nofun
  unfold handOn resolveIf
  dsimp only
  have hne : ¬ f.state = (s.fans.get .supply).state := hs
  simp only [if_neg hne, preheatCheckFor]
  rw [hbroken _ (by rw [raiseAll_eq]; exact hrun), raiseAll_eq]
  split <;> simp [FrostRecord.setDuty, resolve]

theorem handOn_extract_frost (f : FanRecord) (es : List Event) (b : Bool) (s : State) :
    (handOn .extract f es b s).frost = s.frost := by
  unfold handOn resolveIf clipSupply preheatCheckFor
  dsimp only
  rw [raiseAll_eq]
  split_ifs <;> rfl

/-- A hand-over at the same commanded flow leaves the other fan but for its target. -/
theorem handOn_other_same {st : Stream} {f : FanRecord} {s : State} (es : List Event) (b : Bool)
    (hf : f.qCmd = (s.fans.get st).qCmd) :
    (handOn st f es b s).fans.get (other st) =
      { s.fans.get (other st) with qTarget := ((handOn st f es b s).fans.get (other st)).qTarget } := by
  obtain ⟨hother, hextract⟩ := handOn_other st f es b s
  have hcmd : ((handOn st f es b s).fans.get (other st)).qCmd = (s.fans.get (other st)).qCmd := by
    cases st with
    | supply => exact hextract rfl
    | extract => exact (handOn_clips f es b s).trans (if_neg (Nat.lt_irrefl _ <| hf ▸ ·))
  rw [hother, hcmd]

/-- An accepted request that its owner answers at once, in the state its frame's arrival left. -/
theorem exec_heard_now {tag : Byte} {q : Request} {s h u : State} {r : Result} {p : List Byte} (hacc : Accepts tag q s)
    (hh : h = heard tag q s) (ho : ownerOf q h = (.now r p, u)) :
    exec (q.toInstr tag) s = .next (replied tag q r p u) :=
  exec_accepted_now hacc (hh ▸ ho)

/-- A fan returned to OFF from FAILED. -/
def recovered (f : FanRecord) : FanRecord := { f with state := .off, retry := 0, startKind := .normal }

theorem ownFanRecover_failed {stream : Byte} {st : Stream} {u : State} (hst : streamOf stream = some st)
    (h : (u.fans.get st).state = .failed) :
    ownerOf (.fanRecover stream) u = (.now .ok [], handOn st (recovered (u.fans.get st)) [] false u) := by
  dsimp only [ownerOf, ownFanRecover]
  rw [hst]
  exact if_pos h

theorem ownFanRecover_refused {stream : Byte} {st : Stream} {u : State} (hst : streamOf stream = some st)
    (h : (u.fans.get st).state ≠ .failed) : ownerOf (.fanRecover stream) u = (.now .notNow [], u) := by
  dsimp only [ownerOf, ownFanRecover]
  rw [hst]
  exact if_neg h

theorem streamOf_none {b : Byte} (h : 2 ≤ b.toNat) : streamOf b = none := by
  unfold streamOf
  rw [if_neg (by rintro rfl; exact absurd h (by decide)), if_neg (by rintro rfl; exact absurd h (by decide))]

/-- Settles O15. -/
theorem fanRecover : Obligations.FanRecover := by
  unfold Obligations.FanRecover
  intro tag stream s hacc h hh
  refine ⟨fun st hst hfailed => ?_, fun st hst hno => ?_, fun hbad => ?_⟩
  · refine ⟨_, exec_heard_now hacc hh (ownFanRecover_failed hst hfailed), ?_⟩
    have hne : (recovered (h.fans.get st)).state ≠ (h.fans.get st).state := by rw [hfailed]; exact nofun
    obtain ⟨hresolved, hcount, -⟩ := handOn_changed st (recovered (h.fans.get st)) [] false h (Or.inl hne)
    refine ⟨?_, handOn_fan st (recovered (h.fans.get st)) [] false h, handOn_other_same [] false rfl, hcount, hresolved⟩
    cases st with
    | supply =>
      have hfrost := handOn_drops [] false hne (f := recovered (h.fans.get .supply)) rfl
      refine (handOn_eq ..).trans ?_
      rw [hfrost]
      rfl
    | extract =>
      have hfrost := handOn_extract_frost (recovered (h.fans.get .extract)) [] false h
      refine (handOn_eq ..).trans ?_
      rw [hfrost]
      rfl
  · exact exec_heard_now hacc hh (ownFanRecover_refused hst hno)
  · refine exec_heard_now hacc hh ?_
    dsimp only [ownerOf, ownFanRecover]
    rw [streamOf_none hbad]
    rfl

end Sys2Proof.Proofs
end

section
/-! SUPPORT. Proofs: a resolution gives the targets and the record by its stages (O21). -/

namespace Sys2Proof.Proofs

open Sys2Proof Sys2Proof.Machine

/-! ### The largest of some levels -/

theorem le_largest {l : List Nat} {n : Nat} (h : n ∈ l) : n ≤ largest l := by
  have hfold : ∀ (l : List Nat) (a : Nat), a ≤ l.foldl max a ∧ ∀ n ∈ l, n ≤ l.foldl max a := by
    intro l
    induction l with
    | nil => exact fun a => ⟨le_rfl, nofun⟩
    | cons b l ih =>
      intro a
      obtain ⟨hle, hmem⟩ := ih (max a b)
      refine ⟨(Nat.le_max_left a b).trans hle, fun n hn => ?_⟩
      obtain rfl | hn := List.mem_cons.mp hn
      · exact (Nat.le_max_right a n).trans hle
      · exact hmem n hn
  exact (hfold l 0).2 n h

theorem largest_mem {l : List Nat} (h : largest l ≠ 0) : largest l ∈ l := by
  have hfold : ∀ (l : List Nat) (a : Nat), l.foldl max a = a ∨ l.foldl max a ∈ l := by
    intro l
    induction l with
    | nil => exact fun a => Or.inl rfl
    | cons b l ih =>
      intro a
      rw [List.foldl_cons]
      obtain h | h := ih (max a b)
      · rw [h]
        obtain hab | hab := Nat.le_total a b
        · rw [Nat.max_eq_right hab]
          exact Or.inr List.mem_cons_self
        · exact Or.inl (Nat.max_eq_left hab)
      · exact Or.inr (List.mem_cons_of_mem _ h)
  exact (hfold l 0).resolve_left h

/-- The largest is the value that is reached and bounds the rest, 0 for none. -/
theorem largest_unique {α : Type} {l : List α} {f : α → Nat} {d : Nat} (hd : (l = [] ∧ d = 0) ∨ ∃ e ∈ l, f e = d)
    (hle : ∀ e ∈ l, f e ≤ d) : largest (l.map f) = d := by
  have hbound : largest (l.map f) ≤ d := by
    by_cases h : largest (l.map f) = 0
    · omega
    · obtain ⟨e, he, heq⟩ := List.mem_map.mp (largest_mem h)
      exact heq ▸ hle e he
  obtain ⟨rfl, rfl⟩ | ⟨e, he, rfl⟩ := hd
  · rfl
  · exact Nat.le_antisymm hbound (le_largest (List.mem_map_of_mem he))

theorem lt_largest_iff {α : Type} {l : List α} {f : α → Nat} {d : Nat} : d < largest (l.map f) ↔ ∃ e ∈ l, d < f e := by
  constructor
  · intro h
    obtain ⟨e, he, heq⟩ := List.mem_map.mp (largest_mem (l := l.map f) (by omega))
    exact ⟨e, he, heq ▸ h⟩
  · rintro ⟨e, he, h⟩
    exact h.trans_le (le_largest (List.mem_map_of_mem he))

/-! ### The stages as R53 to R59 spell them -/

theorem eligible_iff (m : Mode) (src : Source) : eligible m src = decide (m = .run ∨ m = .quiet ∨ src = .airing) := by
  cases m <;> cases src <;> rfl

theorem inStandby_iff (m : Mode) : m.inStandby = true ↔ m = .standby ∨ m = .standbyEntry := by
  cases m <;> simp [Mode.inStandby]

theorem fanMinZeroed_eq (q : Nat) : fanMinZeroed q = if q < 60 then 0 else q := rfl

theorem runBand_eq (d lo hi : Nat) : runBand d lo hi = if d = 0 then 0 else min (max d lo) hi := by
  unfold runBand
  obtain rfl | h := Nat.eq_zero_or_pos d
  · rfl
  · rw [if_pos h, if_neg (Nat.pos_iff_ne_zero.mp h)]
    rfl

theorem capOf_eq (s : State) (st : Stream) :
    capOf s st = (match (s.fans.get st).satCap with
      | none => min s.settings.qRated (s.filters.get st).ceiling
      | some sat => min (min s.settings.qRated (s.filters.get st).ceiling) sat) := rfl

theorem fanFault_iff (s : State) :
    fanFault s = true ↔ ∃ st ∈ [Stream.supply, .extract], (s.fans.get st).state = .stalled ∨ (s.fans.get st).state = .failed := by
  simp [fanFault, or_assoc]
  rfl

theorem stopReason_eq (s : State) : stopReason s = if s.frost.stage = .lock then some .frostLock
    else if ∃ st ∈ [Stream.supply, .extract], (s.fans.get st).state = .stalled ∨ (s.fans.get st).state = .failed then
      some .fanFault
    else none := by
  unfold stopReason
  exact if_congr Iff.rfl rfl (if_congr (fanFault_iff s) rfl rfl)

theorem stopped_isSome (s : State) : stopped s = (stopReason s).isSome := by
  unfold stopped stopReason
  by_cases hl : s.frost.stage = .lock
  · simp [hl]
  · cases hf : fanFault s <;> simp [hl]

/-- R53: stage 1, for the eligible entries and their levels. -/
theorem stage1_eq {m : Mode} {qQuiet : Nat} {t : DemandTable} {l : List (Source × Nat × DemandEntry)} {d : Nat}
    (hl : l = t.entries.filter fun e => decide (m = .run ∨ m = .quiet ∨ e.1 = .airing))
    (hd : (l = [] ∧ d = 0) ∨ ∃ e ∈ l, takenLevel m qQuiet e.2.2 = d) (hle : ∀ e ∈ l, takenLevel m qQuiet e.2.2 ≤ d) :
    stage1 m qQuiet t =
      ⟨d, (l.find? fun e => takenLevel m qQuiet e.2.2 == d).map fun e => (e.1, e.2.1), largest (l.map fun e => e.2.2.level),
        !l.isEmpty⟩ := by
  have hfilter : (t.entries.filter fun e => eligible m e.1) = l := by
    rw [hl]
    simp only [eligible_iff]
  have hlargest : largest (l.map fun e => takenLevel m qQuiet e.2.2) = d := largest_unique hd hle
  unfold stage1
  simp only [hfilter]
  rw [hlargest]

/-- Settles O21: each stage of the model's is the stage as R53 to R60 spell it. -/
theorem resolutionFollowsItsStages : Obligations.ResolutionFollowsItsStages := by
  unfold Obligations.ResolutionFollowsItsStages
  intro s x hx eligibles heligibles level hlevel d hd hle q hq cap hcap e0 he0 w hw s0 hs0 e1 he1 stop hstop capR hcapR
    pre hpre r hr
  have hlevel' : level = fun e => takenLevel s.mode.mode s.settings.qQuiet e.2.2 := by rw [hlevel, hx]; rfl
  have hcap' : cap = capOf s := by rw [hcap, hx]; rfl
  rw [hlevel'] at hd hle
  have hstage := stage1_eq heligibles hd hle
  have hflow : demandFlow s = q := by
    unfold demandFlow
    rw [hstage, runBand_eq, hq, hx]
  have hbefore : extractBefore s = e0 := by unfold extractBefore; rw [hflow, he0, hcap']
  have hwindow : windowed (extractBefore s) s.frost.w (capOf s .supply) = min w (cap .supply) := by
    unfold windowed
    rw [hbefore, hw, hcap']
  have hsupply : supplyFlow s = s0 := by
    unfold supplyFlow supplyBefore
    rw [hwindow, fanMinZeroed_eq, hs0]
  have hextract : extractFlow s = e1 := by
    unfold extractFlow extractBalanced
    rw [hbefore, hsupply, fanMinZeroed_eq, he1]
  have hstop' : stopReason s = stop := by rw [stopReason_eq, hstop]
  have htargets : targets s = (r.extTarget, r.supTarget) := by
    unfold targets
    rw [stopped_isSome, hstop', hextract, hsupply, hr]
    split <;> rfl
  have hcapR' : capReason s = capR := by
    funext st
    rw [hcapR, hcap']
    rfl
  have hpre' : preReason s = pre := by
    unfold preReason
    dsimp only
    rw [hstage, hbefore, hflow, hcapR', hpre]
    refine if_congr Iff.rfl rfl (if_congr ?_ rfl (if_congr ?_ rfl rfl))
    · rw [inStandby_iff]
      simp
    · exact and_congr_right fun _ => lt_largest_iff
  have hsupplyZero : (0 < min w (cap .supply) ∧ supplyFlow s = 0) ↔
      (0 < min w (cap .supply) ∧ min w (cap .supply) < 60) := by
    rw [hsupply, hs0]
    refine and_congr_right fun hpos => ?_
    split <;> omega
  have hresolution : resolution s = r := by
    unfold resolution extReason supReason
    dsimp only
    rw [htargets, hstop', hwindow, if_congr (or_congr_left hsupplyZero) rfl rfl, hstage, hextract, hsupply, hbefore, hpre', hcapR',
      ← hw, ← hcap', hr, hlevel']
  refine ⟨htargets, ?_⟩
  rw [resolve_eq, htargets, hresolution]
  rfl

end Sys2Proof.Proofs
end

section
/-! SUPPORT. Proofs: a frost evaluation, step by step. -/

namespace Sys2Proof.Proofs

open Sys2Proof Sys2Proof.Machine

/-! ### The ratio, the icing signs and the learn (R65 to R67) -/

/-- The record after the guard temperature, the ratio, the icing signs and the learn. -/
def rated (s : State) : FrostRecord := (ratioStep (frostEnv s) { s.frost with tg := guardNow s }).1

/-- R65, R66: what a learn finds. -/
def rationed (s : State) : FrostRecord :=
  { s.frost with tg := guardNow s, ratio := ratioNow s, icing := icingAfter s.frost (ratioNow s) }

theorem ratioStep_now (s : State) :
    ratioStep (frostEnv s) { s.frost with tg := guardNow s } =
      learnAfter (learnScan (frostEnv s) s.frost (resistanceNow s)) (rationed s) := rfl

theorem learnAfter_frame (q : Option Nat) (f : FrostRecord) :
    (learnAfter q f).1 = { f with
      rx0 := (learnAfter q f).1.rx0, learnActive := (learnAfter q f).1.learnActive
      learnCount := (learnAfter q f).1.learnCount, learnSum := (learnAfter q f).1.learnSum
      icing := (learnAfter q f).1.icing } := by
  unfold learnAfter
  split
  · split
    · split <;> rfl
    · rfl
  · rfl

/-- R67: a record that learns nothing. -/
theorem learnAfter_idle {q : Option Nat} {f : FrostRecord} (ha : f.learnActive = false) (hr : f.rx0.isSome = true) :
    learnAfter q f = (f, []) := by
  refine if_neg ?_
  rw [ha, Option.isNone_eq_false_iff.mpr hr]
  exact nofun

theorem learning_iff {f : FrostRecord} : (f.learnActive || f.rx0.isNone) = true ↔ f.learnActive = true ∨ f.rx0 = none := by
  simp

theorem learnAfter_breaks {f : FrostRecord} (h : f.learnActive = true ∨ f.rx0 = none) :
    learnAfter none f = ({ f with learnActive := true, learnCount := 0, learnSum := 0 }, []) :=
  if_pos (learning_iff.mpr h)

theorem learnAfter_counts {r : Nat} {f : FrostRecord} (h : f.learnActive = true ∨ f.rx0 = none) (hn : f.learnCount < 15) :
    learnAfter (some r) f =
      ({ f with learnActive := true, learnCount := f.learnCount + 1, learnSum := f.learnSum + r }, []) :=
  (if_pos (learning_iff.mpr h)).trans (if_neg (by omega))

theorem learnAfter_completes {r : Nat} {f : FrostRecord} (h : f.learnActive = true ∨ f.rx0 = none) (hn : 15 ≤ f.learnCount) :
    learnAfter (some r) f =
      ({ f with
        rx0 := some ((f.learnSum + r) / 16), learnActive := false, learnCount := 0, learnSum := 0, icing := 0 },
        [.learnComplete]) :=
  (if_pos (learning_iff.mpr h)).trans (if_pos (by omega))

/-- R67: only a learn that is active or has no reference completes, at its sixteenth scan. -/
theorem learnAfter_mark {q : Option Nat} {f : FrostRecord} (h : FrostMark.learnComplete ∈ (learnAfter q f).2) :
    (f.learnActive = true ∨ f.rx0 = none) ∧ 15 ≤ f.learnCount ∧ ∃ r, q = some r := by
  unfold learnAfter at h
  split at h
  next hl =>
    cases q with
    | none => exact nomatch h
    | some r =>
      dsimp only at h
      split at h
      · exact ⟨learning_iff.mp hl, by omega, r, rfl⟩
      · exact nomatch h
  · exact nomatch h

theorem learnAfter_marks (q : Option Nat) (f : FrostRecord) :
    (learnAfter q f).2 = [] ∨ (learnAfter q f).2 = [.learnComplete] := by
  unfold learnAfter
  split
  · split
    · split
      · exact Or.inr rfl
      · exact Or.inl rfl
    · exact Or.inl rfl
  · exact Or.inl rfl

/-- R67: the resistance of a scan that qualifies. -/
theorem learnScan_some {e : FrostEnv} {f : FrostRecord} {rx : Option Nat} {r : Nat} (hr : rx = some r) (h1 : 1 ≤ r)
    (hv : e.chans.tOut.validity = .valid) (ht : 50 ≤ e.chans.tOut.value) (hs : e.fans.extract.state = .steady)
    (hi : f.stage = .idle) : learnScan e f rx = some r := by
  unfold learnScan
  rw [if_pos ⟨hv, ht, hs, hi⟩, hr]
  exact if_pos h1

theorem learnScan_none {e : FrostEnv} {f : FrostRecord} {rx : Option Nat}
    (h : ¬ (e.chans.tOut.validity = .valid ∧ 50 ≤ e.chans.tOut.value ∧ e.fans.extract.state = .steady ∧
      f.stage = .idle ∧ ∃ r ∈ rx, 1 ≤ r)) : learnScan e f rx = none := by
  unfold learnScan
  split
  next hc =>
    obtain ⟨hv, ht, hs, hi⟩ := hc
    cases rx with
    | none => rfl
    | some r => exact if_neg fun h1 => h ⟨hv, ht, hs, hi, r, rfl, h1⟩
  · rfl

/-! ### The stage timer and the frost mode (R63, R80, R82) -/

/-- The record that the mode and the stage rules find: rated, with the stage timer raised. -/
def timed (s : State) : FrostRecord := { rated s with timer := min (s.frost.timer + 1) 65535 }

theorem rated_eq (s : State) :
    rated s = { s.frost with
      tg := guardNow s, ratio := ratioNow s, icing := (rated s).icing, rx0 := (rated s).rx0
      learnActive := (rated s).learnActive, learnCount := (rated s).learnCount, learnSum := (rated s).learnSum } := by
  unfold rated
  rw [ratioStep_now, learnAfter_frame]
  rfl

theorem timed_eq (s : State) :
    timed s = { s.frost with
      tg := guardNow s, ratio := ratioNow s, icing := (rated s).icing, rx0 := (rated s).rx0
      learnActive := (rated s).learnActive, learnCount := (rated s).learnCount, learnSum := (rated s).learnSum
      timer := min (s.frost.timer + 1) 65535 } := by
  unfold timed
  rw [rated_eq]

theorem rated_mode (s : State) : (rated s).mode = s.frost.mode := by rw [rated_eq]

theorem modeStepFrost_normal {s : State} (hm : s.frost.mode = .normal) :
    modeStepFrost (frostEnv s) (rated s) =
      if s.seq.published.tExh.validity = .invalid then enterDegraded (frostEnv s) (timed s) else (timed s, []) := by
  have htimer : (rated s).timer = s.frost.timer := by rw [rated_eq]
  unfold modeStepFrost
  rw [htimer]
  dsimp only
  split
  next => rfl
  next h => exact absurd ((rated_mode s).symm.trans h) (by rw [hm]; exact nofun)

theorem modeStepFrost_degraded {s : State} (hm : s.frost.mode = .degraded) :
    modeStepFrost (frostEnv s) (rated s) =
      if s.seq.published.tExh.validity = .invalid then (timed s, []) else leaveDegraded (frostEnv s) (timed s) := by
  have htimer : (rated s).timer = s.frost.timer := by rw [rated_eq]
  unfold modeStepFrost
  rw [htimer]
  dsimp only
  split
  next h => exact absurd ((rated_mode s).symm.trans h) (by rw [hm]; exact nofun)
  next => rfl

/-! ### What the mode and the stage rules leave -/

/-- The stage rules as an evaluation applies them. -/
def ruleStep (s : State) (f : FrostRecord) : FrostRecord × List FrostMark :=
  stageRules (frostEnv s) (icingHit s.frost (ratioNow s)) s.frost.duty f

/-- The mode and the stage rules of an evaluation leave the record `g` and the marks `ms`. -/
def Ruled (s : State) (g : FrostRecord) (ms : List FrostMark) : Prop :=
  (ruleStep s (modeStepFrost (frostEnv s) (rated s)).1).1 = g ∧
    (modeStepFrost (frostEnv s) (rated s)).2 ++ (ruleStep s (modeStepFrost (frostEnv s) (rated s)).1).2 = ms

section Evaluated

variable {s : State} {g : FrostRecord} {ms : List FrostMark}

theorem Ruled.record (h : Ruled s g ms) : (evalFrost (frostEnv s) s.frost).1 = (preheatStep (frostEnv s) g).1 := by
  rw [← h.1]
  rfl

theorem Ruled.marks (h : Ruled s g ms) :
    (frostEvaluate s).2 =
      (learnAfter (learnScan (frostEnv s) s.frost (resistanceNow s)) (rationed s)).2 ++ ms ++ (preheatStep (frostEnv s) g).2 := by
  obtain ⟨rfl, rfl⟩ := h
  rw [← List.append_assoc]
  rfl

theorem preheatStep_frame (e : FrostEnv) (f : FrostRecord) :
    (preheatStep e f).1 = { f with
      block := (preheatStep e f).1.block, duty := (preheatStep e f).1.duty, output := (preheatStep e f).1.output } := rfl

/-- R63: the record of an evaluation is what the rules leave, with the preheater's step. -/
theorem Ruled.frost (h : Ruled s g ms) :
    (frostEvaluate s).1.frost = { g with
      block := (frostEvaluate s).1.frost.block, duty := (frostEvaluate s).1.frost.duty
      output := (frostEvaluate s).1.frost.output } := by
  rw [frostEvaluate_frost, h.record]
  rfl

/-- R63, step 6: the events of an evaluation are those of its mode and its stage. -/
theorem Ruled.events (h : Ruled s g ms) :
    (frostEvaluate s).1.events = (ms.flatMap FrostMark.events).foldl (fun v e => v ||| e.bit) s.events := by
  have hlearn : (learnAfter (learnScan (frostEnv s) s.frost (resistanceNow s)) (rationed s)).2.flatMap FrostMark.events = [] := by
    obtain h | h := learnAfter_marks (learnScan (frostEnv s) s.frost (resistanceNow s)) (rationed s) <;> rw [h] <;> rfl
  have hblock : (preheatStep (frostEnv s) g).2.flatMap FrostMark.events = [] := by
    unfold preheatStep
    dsimp only
    split <;> rfl
  rw [frostEvaluate_events, h.marks, List.flatMap_append, List.flatMap_append, hlearn, hblock, List.nil_append, List.append_nil]

/-- A row that names a mark of the mode or the stage rules is the evaluation. -/
theorem Ruled.marked {m : FrostMark} {c : Instr} (h : Ruled s g ms) (hm : m ∈ ms) (hpower : s.power = .running)
    (hc : exec c s = .next (whenRunning (whenMarked m frostEvaluate) s)) : exec c s = .next (frostEvaluate s).1 := by
  rw [hc, whenRunning_on hpower, whenMarked_on]
  rw [h.marks]
  exact List.mem_append_left _ (List.mem_append_right _ hm)

end Evaluated

/-- An evaluation's fans and resolution record are those its hand-over leaves. -/
theorem frostEvaluate_handed (s : State) :
    ∃ es, (frostEvaluate s).1.fans = (handFrost (evalFrost (frostEnv s) s.frost).1 es s).fans ∧
      (frostEvaluate s).1.res = (handFrost (evalFrost (frostEnv s) s.frost).1 es s).res ∧
      (frostEvaluate s).1.frost = (handFrost (evalFrost (frostEnv s) s.frost).1 es s).frost := by
  refine ⟨(evalFrost (frostEnv s) s.frost).2.flatMap FrostMark.events, ?_⟩
  unfold frostEvaluate
  dsimp only
  split
  · rw [askSave_eq]
    exact ⟨rfl, rfl, rfl⟩
  · exact ⟨rfl, rfl, rfl⟩

theorem resolved_askSave {s : State} (h : Resolved s) : Resolved (askSave s) := by
  rw [askSave_eq]
  exact h

section Handed

variable {s : State} {g : FrostRecord} {ms : List FrostMark}

/-- R63, step 6: an evaluation that changes the stage or the window makes one resolution. -/
theorem Ruled.handedOn (h : Ruled s g ms) (hchanged : g.stage ≠ s.frost.stage ∨ g.w ≠ s.frost.w) :
    HandedOn s (frostEvaluate s).1 := by
  have hstage : (evalFrost (frostEnv s) s.frost).1.stage ≠ s.frost.stage ∨
      (evalFrost (frostEnv s) s.frost).1.w ≠ s.frost.w := by
    rw [h.record]
    exact hchanged
  have hhand := fun es => handFrost_changed (evalFrost (frostEnv s) s.frost).1 es s hstage
  unfold frostEvaluate
  dsimp only
  obtain ⟨hcount, hresolved⟩ := hhand ((evalFrost (frostEnv s) s.frost).2.flatMap FrostMark.events)
  split
  · refine ⟨?_, resolved_askSave hresolved⟩
    rw [askSave_eq]
    exact hcount
  · exact ⟨hcount, hresolved⟩

/-- An evaluation that keeps the stage and the window makes no resolution. -/
theorem Ruled.quiet (h : Ruled s g ms) (hstage : g.stage = s.frost.stage) (hw : g.w = s.frost.w) :
    (frostEvaluate s).1.fans = s.fans ∧ (frostEvaluate s).1.res = s.res := by
  have hsame : (evalFrost (frostEnv s) s.frost).1.stage = s.frost.stage ∧
      (evalFrost (frostEnv s) s.frost).1.w = s.frost.w := by
    rw [h.record]
    exact ⟨hstage, hw⟩
  obtain ⟨es, hfans, hres, -⟩ := frostEvaluate_handed s
  rw [hfans, hres]
  unfold handFrost resolveIf
  rw [hsame.1, hsame.2, bne_self_eq_false, bne_self_eq_false, raiseAll_eq]
  exact ⟨rfl, rfl⟩

/-- R63: the rules that leave the record as it was, timer apart. -/
theorem Ruled.goesOn (h : Ruled s g ms) (hms : ms.flatMap FrostMark.events = [])
    (hg : g.stage = s.frost.stage ∧ g.timer = min (s.frost.timer + 1) 65535 ∧ g.w = s.frost.w ∧ g.s = s.frost.s ∧
      g.wEntry = s.frost.wEntry ∧ g.allowance = s.frost.allowance) : StageGoesOn s (frostEvaluate s).1 := by
  obtain ⟨hstage, htimer, hw, hs, hentry, hallow⟩ := hg
  obtain ⟨hfans, hres⟩ := h.quiet hstage hw
  have hevents := h.events
  rw [hms] at hevents
  unfold StageGoesOn
  rw [h.frost]
  exact ⟨hstage, htimer, hw, hs, hentry, hallow, hevents, hfans, hres⟩

end Handed

/-! ### The four ways through the frost mode -/

section Modes

variable {s : State}

theorem ruleStep_normal {f : FrostRecord} (h : f.mode = .normal) :
    ruleStep s f = normalRules (frostEnv s) (icingHit s.frost (ratioNow s)) s.frost.duty f := by
  unfold ruleStep stageRules
  rw [h]

theorem ruleStep_degraded {f : FrostRecord} (h : f.mode = .degraded) :
    ruleStep s f = degradedRules (frostEnv s) f := by
  unfold ruleStep stageRules
  rw [h]

theorem timed_mode (s : State) : (timed s).mode = s.frost.mode := by rw [timed_eq]

theorem ruled_normal {r : FrostRecord × List FrostMark} (hm : s.frost.mode = .normal)
    (hv : s.seq.published.tExh.validity ≠ .invalid)
    (hr : normalRules (frostEnv s) (icingHit s.frost (ratioNow s)) s.frost.duty (timed s) = r) : Ruled s r.1 r.2 := by
  have hstep : modeStepFrost (frostEnv s) (rated s) = (timed s, []) := by
    rw [modeStepFrost_normal hm]
    exact if_neg hv
  unfold Ruled
  rw [hstep, ruleStep_normal (by rw [timed_mode, hm]), hr]
  exact ⟨rfl, rfl⟩

theorem ruled_degraded {r : FrostRecord × List FrostMark} (hm : s.frost.mode = .degraded)
    (hv : s.seq.published.tExh.validity = .invalid) (hr : degradedRules (frostEnv s) (timed s) = r) : Ruled s r.1 r.2 := by
  have hstep : modeStepFrost (frostEnv s) (rated s) = (timed s, []) := by
    rw [modeStepFrost_degraded hm]
    exact if_pos hv
  unfold Ruled
  rw [hstep, ruleStep_degraded (by rw [timed_mode, hm]), hr]
  exact ⟨rfl, rfl⟩

theorem ruled_enters {d r : FrostRecord × List FrostMark} (hm : s.frost.mode = .normal)
    (hv : s.seq.published.tExh.validity = .invalid) (hd : enterDegraded (frostEnv s) (timed s) = d)
    (hr : degradedRules (frostEnv s) d.1 = r) : Ruled s r.1 (d.2 ++ r.2) := by
  have hstep : modeStepFrost (frostEnv s) (rated s) = d := by
    rw [modeStepFrost_normal hm, ← hd]
    exact if_pos hv
  unfold Ruled
  rw [hstep, ruleStep_degraded (by rw [← hd]; exact enterDegraded_mode _ _), hr]
  exact ⟨rfl, rfl⟩

theorem ruled_leaves {d r : FrostRecord × List FrostMark} (hm : s.frost.mode = .degraded)
    (hv : s.seq.published.tExh.validity ≠ .invalid) (hd : leaveDegraded (frostEnv s) (timed s) = d)
    (hr : normalRules (frostEnv s) (icingHit s.frost (ratioNow s)) s.frost.duty d.1 = r) : Ruled s r.1 (d.2 ++ r.2) := by
  have hstep : modeStepFrost (frostEnv s) (rated s) = d := by
    rw [modeStepFrost_degraded hm, ← hd]
    exact if_neg hv
  unfold Ruled
  rw [hstep, ruleStep_normal (by rw [← hd]; exact leaveDegraded_mode _ _), hr]
  exact ⟨rfl, rfl⟩

end Modes

end Sys2Proof.Proofs
end

section
/-! SUPPORT. Proofs: the rules of the guarding stages (O24). -/

namespace Sys2Proof.Proofs

open Sys2Proof Sys2Proof.Machine

/-! ### The counts of a guarding stage (R66, R69) -/

/-- The record that the guarding rules find: its four counts raised. -/
def counted (s : State) : FrostRecord := guardCounts s.seq.published.tExh.value (timed s)

theorem counted_eq (s : State) :
    counted s = { timed s with
      cold := if s.seq.published.tExh.value ≤ guardNow s - 10 then min (s.frost.cold + 1) 120 else 0
      deepCold := if s.seq.published.tExh.value ≤ guardNow s - 30 then min (s.frost.deepCold + 1) 900 else 0
      warm := if guardNow s < s.seq.published.tExh.value then min (s.frost.warm + 1) 120 else 0
      watchExit := if s.frost.stage = .watch then
        (if guardNow s + 20 ≤ s.seq.published.tExh.value then min (s.frost.watchExit + 1) 300 else 0)
        else s.frost.watchExit } := by
  unfold counted guardCounts countUp
  rw [timed_eq]
  simp only [decide_eq_true_eq]

/-- IDLE, WATCH, SHED and RECOVER. -/
def Guarding (x : FrostStage) : Prop := x = .idle ∨ x = .watch ∨ x = .shed ∨ x = .recover

theorem guarding_iff (x : FrostStage) : x.guarding = true ↔ Guarding x := by
  simp [FrostStage.guarding, Guarding, or_assoc]

theorem icingHit_iff {s : State} (hm : s.frost.mode = .normal) (hg : Guarding s.frost.stage) :
    icingHit s.frost (ratioNow s) = true ↔ IcingFound s := by
  have hguard := (guarding_iff _).mpr hg
  unfold icingHit
  rw [hm, hguard]
  cases h : ratioNow s with
  | none => simp [h]
  | some r => simp [h]

theorem deepCold_iff (s : State) : 900 ≤ (counted s).deepCold ↔ DeepColdFound s := by
  rw [counted_eq]
  dsimp only
  split
  next h => exact ⟨fun hn => ⟨h, by omega⟩, fun ⟨_, hn⟩ => by omega⟩
  next h => exact ⟨fun hn => absurd hn (by decide), fun ⟨hc, _⟩ => absurd hc h⟩

theorem exhausted_iff (x : Settings) (p : Nat) : exhausted x p = true ↔ x.preheatFitted = false ∨ p = 100 := by
  simp [exhausted]

/-! ### The rules, one by one (R70 to R73) -/

section Rules

variable {e : FrostEnv} {hit : Bool} {p : Nat} {t : Int} {f : FrostRecord}

theorem guardRules_defrosts (h : hit = true ∨ 900 ≤ f.deepCold) :
    guardRules e hit p t f = (f.enterDefrost e.settings f.w,
      (if hit then [.icingDefrost] else []) ++ (if 900 ≤ f.deepCold then [.deepColdDefrost] else [])) := if_pos h

theorem guardRules_watches (hcalm : ¬ (hit = true ∨ 900 ≤ f.deepCold)) (hs : f.stage = .idle) (ht : t ≤ f.tg) :
    guardRules e hit p t f = (f.enter e.settings .watch, [.watchEntry]) :=
  (if_neg hcalm).trans ((if_pos hs).trans (if_pos ht))

theorem guardRules_idles (hcalm : ¬ (hit = true ∨ 900 ≤ f.deepCold)) (hs : f.stage = .idle) (ht : ¬ t ≤ f.tg) :
    guardRules e hit p t f = (f, []) :=
  (if_neg hcalm).trans ((if_pos hs).trans (if_neg ht))

theorem guardRules_sheds (hcalm : ¬ (hit = true ∨ 900 ≤ f.deepCold)) (hs : f.stage ≠ .idle)
    (hc : 120 ≤ f.cold ∧ exhausted e.settings p = true) : guardRules e hit p t f = shedEvent e.settings f :=
  (if_neg hcalm).trans ((if_neg hs).trans (if_pos hc))

theorem guardRules_leaves_watch (hcalm : ¬ (hit = true ∨ 900 ≤ f.deepCold))
    (hc : ¬ (120 ≤ f.cold ∧ exhausted e.settings p = true)) (hs : f.stage = .watch) (hn : 300 ≤ f.watchExit) :
    guardRules e hit p t f = (f.enter e.settings .idle, [.watchExit]) :=
  (if_neg hcalm).trans ((if_neg (by rw [hs]; exact nofun)).trans ((if_neg hc).trans (if_pos ⟨hs, hn⟩)))

theorem guardRules_recovers (hcalm : ¬ (hit = true ∨ 900 ≤ f.deepCold))
    (hc : ¬ (120 ≤ f.cold ∧ exhausted e.settings p = true)) (hs : f.stage = .shed) (hn : 120 ≤ f.warm) :
    guardRules e hit p t f = (f.enter e.settings .recover, [.recoverEntry]) :=
  (if_neg hcalm).trans ((if_neg (by rw [hs]; exact nofun)).trans ((if_neg hc).trans
    ((if_neg (fun h => by rw [hs] at h; exact nomatch h.1)).trans (if_pos ⟨hs, hn⟩))))

theorem guardRules_grows (hcalm : ¬ (hit = true ∨ 900 ≤ f.deepCold))
    (hc : ¬ (120 ≤ f.cold ∧ exhausted e.settings p = true)) (hs : f.stage = .recover) (hn : 60 ≤ f.warm) :
    guardRules e hit p t f = (growWindow e.settings f, [.growth]) :=
  (if_neg hcalm).trans ((if_neg (by rw [hs]; exact nofun)).trans ((if_neg hc).trans
    ((if_neg (fun h => by rw [hs] at h; exact nomatch h.1)).trans
      ((if_neg (fun h => by rw [hs] at h; exact nomatch h.1)).trans (if_pos ⟨hs, hn⟩)))))

theorem guardRules_waits (hcalm : ¬ (hit = true ∨ 900 ≤ f.deepCold)) (hs : f.stage ≠ .idle)
    (hc : ¬ (120 ≤ f.cold ∧ exhausted e.settings p = true)) (hw : ¬ (f.stage = .watch ∧ 300 ≤ f.watchExit))
    (hr : ¬ (f.stage = .shed ∧ 120 ≤ f.warm)) (hg : ¬ (f.stage = .recover ∧ 60 ≤ f.warm)) :
    guardRules e hit p t f = (f, []) :=
  (if_neg hcalm).trans ((if_neg hs).trans ((if_neg hc).trans ((if_neg hw).trans ((if_neg hr).trans (if_neg hg)))))

theorem shedEvent_halves {x : Settings} (hw : 2 < f.w) :
    shedEvent x f = ({ (if f.stage = .shed then f else f.enter x .shed) with
      s := max (f.w / 2) 2, w := max (f.w / 2) 2, cold := 0 }, [.shed]) := if_pos hw

theorem shedEvent_defrosts {x : Settings} (hw : f.w ≤ 2) :
    shedEvent x f = (f.enterDefrost x f.w, [.shedDefrost]) := if_neg (Nat.not_lt.mpr hw)

theorem normalRules_guarding (hs : Guarding f.stage) :
    normalRules e hit p f = guardRules e hit p e.chans.tExh.value (guardCounts e.chans.tExh.value f) := by
  unfold normalRules
  obtain h | h | h | h := hs <;> rw [h]

end Rules

/-! ### An evaluation in a guarding stage -/

section Guard

variable {s : State}

theorem counted_stage (s : State) :
    (counted s).stage = s.frost.stage ∧ (counted s).w = s.frost.w ∧ (counted s).s = s.frost.s ∧
      (counted s).tg = guardNow s ∧ (counted s).timer = min (s.frost.timer + 1) 65535 ∧
      (counted s).wEntry = s.frost.wEntry ∧ (counted s).allowance = s.frost.allowance := by
  rw [counted_eq, timed_eq]
  exact ⟨rfl, rfl, rfl, rfl, rfl, rfl, rfl⟩

theorem ruled_guards {r : FrostRecord × List FrostMark} (hG : GuardsNormally s) (hs : Guarding s.frost.stage)
    (hr : guardRules (frostEnv s) (icingHit s.frost (ratioNow s)) s.frost.duty s.seq.published.tExh.value (counted s) = r) :
    Ruled s r.1 r.2 := by
  obtain ⟨-, hm, hv⟩ := hG
  refine ruled_normal hm hv ?_
  rw [normalRules_guarding (by rw [timed_eq]; exact hs)]
  exact hr

theorem calm (hG : GuardsNormally s) (hs : Guarding s.frost.stage) (hi : ¬ IcingFound s) (hd : ¬ DeepColdFound s) :
    ¬ (icingHit s.frost (ratioNow s) = true ∨ 900 ≤ (counted s).deepCold) := by
  obtain ⟨-, hm, -⟩ := hG
  rw [icingHit_iff hm hs, deepCold_iff]
  exact not_or.mpr ⟨hi, hd⟩

/-- R84: an evaluation that ends in a stage without preheat leaves the duty 0. -/
theorem duty_shut (h : WindowShut (frostEvaluate s).1.frost.stage ∨ (frostEvaluate s).1.frost.stage = .idle) :
    (frostEvaluate s).1.frost.duty = 0 := by
  have hlegal := preheatLegal_evaluated s
  rw [frostEvaluate_frost] at h ⊢
  by_contra hd
  obtain ⟨hstage, -⟩ := hlegal.1 hd
  rw [State.setFrost_frost] at hstage
  generalize (evalFrost (frostEnv s) s.frost).1.stage = x at h hstage
  obtain (rfl | rfl | rfl) | rfl := h <;> simp at hstage

end Guard

theorem growWindow_eq {x : Settings} {f : FrostRecord} (hlegal : WindowLegal f) (hs : f.stage = .recover) :
    (growWindow x f).warm = 0 ∧ (growWindow x f).s = f.s ∧
      (growWindow x f).stage = (if f.w < 16 then .recover else .idle) ∧
      (growWindow x f).w = (if f.w < f.s then min (2 * f.w) f.s else min (f.w + 1) 16) ∧
      ((growWindow x f).stage ≠ f.stage ∨ (growWindow x f).w ≠ f.w) := by
  obtain ⟨hzero, hrange, hs2, hs16, -⟩ := hlegal
  have hpos : f.w ≠ 0 := fun hw => by
    have := hzero.mp hw
    rw [hs] at this
    simp at this
  obtain ⟨hw2, hw16⟩ := hrange hpos
  unfold growWindow
  by_cases h1 : f.w < f.s
  · rw [if_pos h1, if_pos h1, if_pos (by omega)]
    exact ⟨rfl, rfl, hs, rfl, Or.inr (by dsimp only; omega)⟩
  · rw [if_neg h1, if_neg h1]
    by_cases h2 : f.w < 16
    · rw [if_pos h2, if_pos h2]
      exact ⟨rfl, rfl, hs, by dsimp only; omega, Or.inr (by dsimp only; omega)⟩
    · rw [if_neg h2, if_neg h2]
      refine ⟨rfl, rfl, rfl, ?_, Or.inl (by rw [hs]; exact nofun)⟩
      show f.w = _
      omega

/-- Settles O24. -/
theorem frostGuardingRows : Obligations.FrostGuardingRows := by
  unfold Obligations.FrostGuardingRows
  rintro s hG hlegal hicing hdeep f rfl d rfl
  have hpower : s.power = .running := hG.1
  obtain ⟨hstage, hw, hs, htg, htimer, -, hallow⟩ := counted_stage s
  have hcold : (counted s).cold = _ := congrArg FrostRecord.cold (counted_eq s)
  have hwarm : (counted s).warm = _ := congrArg FrostRecord.warm (counted_eq s)
  have hexit : (counted s).watchExit = _ := congrArg FrostRecord.watchExit (counted_eq s)
  dsimp only at hcold hwarm hexit
  refine ⟨fun hst hd hn => ?_, fun hst hd hn hx => ?_, fun hst hd hn => ?_, fun hst hd hn => ?_⟩
  · have hguard : Guarding s.frost.stage := Or.inr (Or.inl hst)
    have hnocold : ¬ (120 ≤ (counted s).cold ∧ exhausted (frostEnv s).settings s.frost.duty = true) := by
      rw [hcold, if_neg (by omega)]
      exact fun h => absurd h.1 (by decide)
    have hcount : 300 ≤ (counted s).watchExit := by
      rw [hexit, if_pos hst, if_pos (by omega)]
      omega
    have hruled := ruled_guards hG hguard
      (guardRules_leaves_watch (calm hG hguard hicing hdeep) hnocold (hstage.trans hst) hcount)
    refine ⟨_, hruled.marked (List.mem_singleton_self _) hpower rfl, ?_⟩
    rw [hruled.frost]
    exact ⟨rfl, hw, hs, rfl, hruled.events, hruled.handedOn (Or.inl (by rw [hst]; exact nofun))⟩
  · have hguard : Guarding s.frost.stage := Or.inr hst
    have hidle : (counted s).stage ≠ .idle := by
      rw [hstage]
      obtain h | h | h := hst <;> rw [h] <;> exact nofun
    have hcount : 120 ≤ (counted s).cold ∧ exhausted (frostEnv s).settings s.frost.duty = true := by
      rw [hcold, if_pos (by omega)]
      exact ⟨by omega, (exhausted_iff _ _).mpr hx⟩
    have hrules := guardRules_sheds (t := s.seq.published.tExh.value) (calm hG hguard hicing hdeep) hidle hcount
    have hexec : ∀ {g ms}, Ruled s g ms → FrostMark.shed ∈ ms ∨ FrostMark.shedDefrost ∈ ms →
        exec .shedEvent s = .next (frostEvaluate s).1 := by
      intro g ms hruled hms
      refine congrArg Host.Outcome.next ((whenRunning_on hpower).trans (if_pos ?_))
      rw [hruled.marks]
      exact hms.imp (fun h => List.mem_append_left _ (List.mem_append_right _ h))
        fun h => List.mem_append_left _ (List.mem_append_right _ h)
    obtain ⟨hzero, hrange, -, -, -⟩ := hlegal
    obtain hlt | hle := Nat.lt_or_ge 2 s.frost.w
    · rw [shedEvent_halves (by rw [hw]; exact hlt)] at hrules
      have hruled := ruled_guards hG hguard hrules
      refine ⟨_, hexec hruled (Or.inl (List.mem_singleton_self _)), hruled.handedOn (Or.inr ?_), ?_, fun _ => ?_,
        fun h => absurd hlt (by omega)⟩
      · rw [hw]
        show max (s.frost.w / 2) 2 ≠ s.frost.w
        omega
      · rw [hruled.frost]
      · have hevents := hruled.events
        rw [hruled.frost, hw, hstage]
        by_cases hsh : s.frost.stage = .shed
        · rw [if_pos hsh, if_pos hsh, if_pos hsh]
          exact ⟨hstage.trans hsh, rfl, rfl, hallow, htimer, hevents⟩
        · rw [if_neg hsh, if_neg hsh, if_neg hsh]
          exact ⟨rfl, rfl, rfl, rfl, rfl, hevents⟩
    · rw [shedEvent_defrosts (by rw [hw]; exact hle)] at hrules
      have hruled := ruled_guards hG hguard hrules
      have hst' : (frostEvaluate s).1.frost.stage = .defrost := by rw [hruled.frost]; rfl
      refine ⟨_, hexec hruled (Or.inr (List.mem_singleton_self _)), hruled.handedOn (Or.inl ?_), ?_,
        fun h => absurd hle (by omega), fun h2 => ?_⟩
      · obtain h | h | h := hst <;> rw [h] <;> exact nofun
      · rw [hruled.frost]
        rfl
      · refine ⟨hst', ?_, ?_, ?_, duty_shut (Or.inl (Or.inl hst')), hruled.events⟩ <;> rw [hruled.frost]
        · exact hw.trans h2
        · rfl
        · rfl
  · have hguard : Guarding s.frost.stage := Or.inr (Or.inr (Or.inl hst))
    have hnocold : ¬ (120 ≤ (counted s).cold ∧ exhausted (frostEnv s).settings s.frost.duty = true) := by
      rw [hcold, if_neg (by omega)]
      exact fun h => absurd h.1 (by decide)
    have hcount : 120 ≤ (counted s).warm := by
      rw [hwarm, if_pos (by omega)]
      omega
    have hruled := ruled_guards hG hguard
      (guardRules_recovers (calm hG hguard hicing hdeep) hnocold (hstage.trans hst) hcount)
    refine ⟨_, hruled.marked (List.mem_singleton_self _) hpower rfl, ?_⟩
    rw [hruled.frost]
    exact ⟨rfl, hw, hs, rfl, hruled.events, hruled.handedOn (Or.inl (by rw [hst]; exact nofun))⟩
  · have hguard : Guarding s.frost.stage := Or.inr (Or.inr (Or.inr hst))
    have hnocold : ¬ (120 ≤ (counted s).cold ∧ exhausted (frostEnv s).settings s.frost.duty = true) := by
      rw [hcold, if_neg (by omega)]
      exact fun h => absurd h.1 (by decide)
    have hcount : 60 ≤ (counted s).warm := by
      rw [hwarm, if_pos (by omega)]
      omega
    have hruled := ruled_guards hG hguard
      (guardRules_grows (calm hG hguard hicing hdeep) hnocold (hstage.trans hst) hcount)
    have hlegal' : WindowLegal (counted s) := by
      unfold WindowLegal
      rw [counted_eq, timed_eq]
      exact hlegal
    obtain ⟨hzero, hsame, hst', hw', hchanged⟩ := growWindow_eq (x := (frostEnv s).settings) hlegal' (hstage.trans hst)
    rw [hstage, hw] at hchanged
    rw [hs] at hsame
    rw [hw] at hst'
    rw [hw, hs] at hw'
    refine ⟨_, hruled.marked (List.mem_singleton_self _) hpower rfl, ?_⟩
    rw [hruled.frost]
    exact ⟨hzero, hsame, hruled.events, hruled.handedOn hchanged, hst', hw'⟩

end Sys2Proof.Proofs
end

section
/-! SUPPORT. Proofs: the rules of DEFROST, HOLD and LOCK (O25). -/

namespace Sys2Proof.Proofs

open Sys2Proof Sys2Proof.Machine

/-! ### The rules (R74 to R76) -/

theorem clearedCond_iff (s : State) : clearedCond s.seq.published.tExh.value (ratioNow s) = true ↔ Cleared s := by
  unfold clearedCond Cleared
  cases ratioNow s with
  | none => simp
  | some r => simp

section Rules

variable {e : FrostEnv} {t : Int} {f : FrostRecord}

theorem defrostRules_clears (h : clearedCond t f.ratio = true) : defrostRules e t f = (f.recoverFrom e.settings, [.cleared]) :=
  if_pos h

theorem defrostRules_holds (h : ¬ clearedCond t f.ratio = true) (hm : 600 ≤ f.timer) :
    defrostRules e t f = ({ f.enter e.settings .hold with holdInterval := 60, holdChecks := 0 }, [.holdEntry]) :=
  (if_neg h).trans (if_pos hm)

theorem defrostRules_waits (h : ¬ clearedCond t f.ratio = true) (hm : f.timer < 600) : defrostRules e t f = (f, []) :=
  (if_neg h).trans (if_neg (Nat.not_le.mpr hm))

theorem holdRules_waits (h : f.timer ≠ f.holdInterval) : holdRules e t f = (f, []) := if_neg h

theorem holdRules_passes (h : f.timer = f.holdInterval) (hc : clearedCond t f.ratio = true) :
    holdRules e t f = (f.recoverFrom e.settings, [.holdCheck, .holdPassed]) := (if_pos h).trans (if_pos hc)

theorem holdRules_fails (h : f.timer = f.holdInterval) (hc : ¬ clearedCond t f.ratio = true) (hn : f.holdChecks < 4) :
    holdRules e t f =
      ({ f with timer := 0, holdChecks := f.holdChecks + 1, holdInterval := min (2 * f.holdInterval) 960 }, [.holdCheck]) :=
  (if_pos h).trans ((if_neg hc).trans (if_pos (by omega)))

theorem holdRules_locks (h : f.timer = f.holdInterval) (hc : ¬ clearedCond t f.ratio = true) (hn : 4 ≤ f.holdChecks) :
    holdRules e t f = ({ f.enter e.settings .lock with holdChecks := 5, release := 0 }, [.holdCheck, .lockEntry]) :=
  (if_pos h).trans ((if_neg hc).trans (if_neg (by omega)))

/-- R76: outside is warm enough to count toward the lock's release. -/
def ReleaseWarm (e : FrostEnv) : Prop := e.chans.tOut.validity ≠ .invalid ∧ 30 ≤ e.chans.tOut.value

theorem releaseCount_eq (e : FrostEnv) (n : Nat) :
    (ReleaseWarm e → countUp (e.chans.tOut.validity != .invalid && decide (30 ≤ e.chans.tOut.value)) n 600 = min (n + 1) 600) ∧
      (¬ ReleaseWarm e → countUp (e.chans.tOut.validity != .invalid && decide (30 ≤ e.chans.tOut.value)) n 600 = 0) := by
  have hcond : (e.chans.tOut.validity != .invalid && decide (30 ≤ e.chans.tOut.value)) = true ↔ ReleaseWarm e := by
    simp [ReleaseWarm]
  exact ⟨fun h => if_pos (hcond.mpr h), fun h => if_neg (mt hcond.mp h)⟩

theorem lockRules_releases (h : ReleaseWarm e) (hn : 599 ≤ f.release) :
    lockRules e f = ({ f.enterDefrost e.settings 2 with release := 600 }, [.lockRelease]) := by
  have hcount : countUp (e.chans.tOut.validity != .invalid && decide (30 ≤ e.chans.tOut.value)) f.release 600 = 600 := by
    rw [(releaseCount_eq e f.release).1 h]
    omega
  unfold lockRules
  rw [hcount]
  rfl

theorem lockRules_counts (h : ReleaseWarm e) (hn : f.release < 599) :
    lockRules e f = ({ f with release := f.release + 1 }, []) := by
  have hcount : countUp (e.chans.tOut.validity != .invalid && decide (30 ≤ e.chans.tOut.value)) f.release 600 = f.release + 1 := by
    rw [(releaseCount_eq e f.release).1 h]
    omega
  unfold lockRules
  rw [hcount]
  exact if_neg (by omega)

theorem lockRules_stays (h : ¬ ReleaseWarm e) : lockRules e f = ({ f with release := 0 }, []) := by
  unfold lockRules
  rw [(releaseCount_eq e f.release).2 h]
  rfl

end Rules

/-! ### An evaluation in DEFROST, HOLD and LOCK -/

section Shut

variable {s : State} {r : FrostRecord × List FrostMark}

/-- The record that the rules of DEFROST, HOLD and LOCK find in NORMAL: its four counts at 0. -/
def shut (s : State) : FrostRecord := (timed s).zeroCounts

theorem shut_eq (s : State) : shut s = { timed s with cold := 0, deepCold := 0, warm := 0, watchExit := 0 } := rfl

theorem shut_keeps (s : State) :
    (shut s).stage = s.frost.stage ∧ (shut s).timer = min (s.frost.timer + 1) 65535 ∧ (shut s).w = s.frost.w ∧
      (shut s).s = s.frost.s ∧ (shut s).wEntry = s.frost.wEntry ∧ (shut s).allowance = s.frost.allowance ∧
      (shut s).ratio = ratioNow s ∧ (shut s).holdInterval = s.frost.holdInterval ∧
      (shut s).holdChecks = s.frost.holdChecks ∧ (shut s).release = s.frost.release := by
  rw [shut_eq, timed_eq]
  exact ⟨rfl, rfl, rfl, rfl, rfl, rfl, rfl, rfl, rfl, rfl⟩

theorem timed_stage (s : State) : (timed s).stage = s.frost.stage := by rw [timed_eq]

theorem ruled_defrost (hG : GuardsNormally s) (hs : s.frost.stage = .defrost)
    (hr : defrostRules (frostEnv s) s.seq.published.tExh.value (shut s) = r) : Ruled s r.1 r.2 := by
  obtain ⟨-, hm, hv⟩ := hG
  refine ruled_normal hm hv ?_
  unfold normalRules
  rw [(timed_stage s).trans hs]
  exact hr

theorem ruled_hold (hG : GuardsNormally s) (hs : s.frost.stage = .hold)
    (hr : holdRules (frostEnv s) s.seq.published.tExh.value (shut s) = r) : Ruled s r.1 r.2 := by
  obtain ⟨-, hm, hv⟩ := hG
  refine ruled_normal hm hv ?_
  unfold normalRules
  rw [(timed_stage s).trans hs]
  exact hr

theorem ruled_lock (hG : GuardsNormally s) (hs : s.frost.stage = .lock) (hr : lockRules (frostEnv s) (shut s) = r) :
    Ruled s r.1 r.2 := by
  obtain ⟨-, hm, hv⟩ := hG
  refine ruled_normal hm hv ?_
  unfold normalRules
  rw [(timed_stage s).trans hs]
  exact hr

theorem shut_cleared (s : State) : clearedCond s.seq.published.tExh.value (shut s).ratio = true ↔ Cleared s := by
  obtain ⟨-, -, -, -, -, -, hratio, -⟩ := shut_keeps s
  rw [hratio, clearedCond_iff]

end Shut

/-- An event set twice is set once. -/
theorem or_bit_twice (v : BitVec 30) (e : Event) : v ||| e.bit ||| e.bit = v ||| e.bit := by
  rw [BitVec.or_assoc, BitVec.or_self]

/-- R73: the record and the events of an entry to DEFROST by icing or deep cold. -/
theorem guard_defrosts {s : State} (hG : GuardsNormally s) (hs : Guarding s.frost.stage)
    (h : IcingFound s ∨ DeepColdFound s) :
    (∃ ms, Ruled s ((counted s).enterDefrost s.settings s.frost.w) ms ∧ (IcingFound s → FrostMark.icingDefrost ∈ ms) ∧
        (DeepColdFound s → FrostMark.deepColdDefrost ∈ ms)) ∧
      (frostEvaluate s).1.events = s.events ||| Event.defrostStarted.bit := by
  have hhit := icingHit_iff hG.2.1 hs
  have hdeep := deepCold_iff s
  have hrules := guardRules_defrosts (e := frostEnv s) (hit := icingHit s.frost (ratioNow s)) (p := s.frost.duty)
    (t := s.seq.published.tExh.value) (f := counted s) (by rw [hhit, hdeep]; exact h)
  have hruled := ruled_guards hG hs hrules
  rw [(counted_stage s).2.1] at hruled
  refine ⟨⟨_, hruled, fun hi => ?_, fun hd => ?_⟩, hruled.events.trans ?_⟩
  · rw [if_pos (hhit.mpr hi)]
    exact List.mem_append_left _ (List.mem_singleton_self _)
  · rw [if_pos (hdeep.mpr hd)]
    exact List.mem_append_right _ (List.mem_singleton_self _)
  · by_cases hi : IcingFound s
    · by_cases hd : DeepColdFound s
      · rw [if_pos (hhit.mpr hi), if_pos (hdeep.mpr hd)]
        exact or_bit_twice _ _
      · rw [if_pos (hhit.mpr hi), if_neg (mt hdeep.mp hd)]
        rfl
    · rw [if_neg (mt hhit.mp hi), if_pos (hdeep.mpr (h.resolve_left hi))]
      rfl

/-- Settles O25. -/
theorem frostDefrostRows : Obligations.FrostDefrostRows := by
  unfold Obligations.FrostDefrostRows
  rintro s hG f rfl
  have hpower : s.power = .running := hG.1
  obtain ⟨hstage, htimer, hw, hs, hentry, hallow, hratio, hinterval, hchecks, hrelease⟩ := shut_keeps s
  refine ⟨fun c hc hst => ?_, fun hst hclear hm => ?_, fun hst hlt hm => ?_, fun hst hv ht hn => ?_⟩
  · have hfound : IcingFound s ∨ DeepColdFound s := hc.imp And.right And.right
    obtain ⟨⟨ms, hruled, hicing, hdeep⟩, hevents⟩ := guard_defrosts hG hst hfound
    have hexec : exec c s = .next (frostEvaluate s).1 := by
      obtain ⟨rfl, hi⟩ | ⟨rfl, hd⟩ := hc
      · exact hruled.marked (hicing hi) hpower rfl
      · exact hruled.marked (hdeep hd) hpower rfl
    have hdefrost : (frostEvaluate s).1.frost.stage = .defrost := by rw [hruled.frost]; rfl
    have hduty := duty_shut (Or.inl (Or.inl hdefrost))
    have hhanded := hruled.handedOn (Or.inl (by obtain h | h | h | h := hst <;> rw [h] <;> exact nofun))
    obtain ⟨-, -, hs', -⟩ := counted_stage s
    refine ⟨_, hexec, hdefrost, ?_, ?_, ?_, ?_, ?_, ?_, ?_, hduty, ?_, hevents, hhanded⟩ <;> rw [hruled.frost]
    · rfl
    · rfl
    · exact hs'
    · rfl
    · rfl
    · rfl
    · rfl
    · rfl
  · have hruled := ruled_defrost hG hst (defrostRules_holds (mt (shut_cleared s).mp hclear) (by rw [htimer]; omega))
    refine ⟨_, hruled.marked (List.mem_singleton_self _) hpower rfl, ?_⟩
    rw [hruled.frost]
    exact ⟨rfl, rfl, rfl, rfl, hw, rfl, hruled.events, hruled.handedOn (Or.inl (by rw [hst]; exact nofun))⟩
  · have hcheck : (shut s).timer = (shut s).holdInterval := by rw [htimer, hinterval]; omega
    by_cases hclear : Cleared s
    · have hruled := ruled_hold hG hst (holdRules_passes hcheck ((shut_cleared s).mpr hclear))
      refine ⟨_, hruled.marked List.mem_cons_self hpower rfl, ?_⟩
      rw [hruled.frost]
      refine ⟨rfl, fun _ => ⟨rfl, ?_, rfl, rfl, hruled.events, hruled.handedOn (Or.inl (by rw [hst]; exact nofun))⟩,
        fun h => absurd hclear h, fun h => absurd hclear h⟩
      show max ((shut s).wEntry / 2) 2 = _
      rw [hentry]
    · obtain hn | hn := Nat.lt_or_ge s.frost.holdChecks 4
      · have hruled := ruled_hold hG hst
          (holdRules_fails hcheck (mt (shut_cleared s).mp hclear) (by rw [hchecks]; exact hn))
        refine ⟨_, hruled.marked List.mem_cons_self hpower rfl, ?_⟩
        rw [hruled.frost]
        refine ⟨rfl, fun h => absurd h hclear, fun _ _ => ⟨hstage.trans hst, ?_, ?_, hw, hruled.events⟩, fun _ h => absurd hn (by omega)⟩
        · show (shut s).holdChecks + 1 = _
          rw [hchecks]
        · show min (2 * (shut s).holdInterval) 960 = _
          rw [hinterval]
      · have hruled := ruled_hold hG hst
          (holdRules_locks hcheck (mt (shut_cleared s).mp hclear) (by rw [hchecks]; exact hn))
        have hhanded := hruled.handedOn (Or.inl (by rw [hst]; exact nofun))
        have hlock : (frostEvaluate s).1.frost.stage = .lock := by rw [hruled.frost]; rfl
        have hzero : targets (frostEvaluate s).1 = (0, 0) := targets_stopped ((stopped_iff _).mpr (Or.inr hlock))
        have hres := hhanded.2.2.2
        have htargets : (frostEvaluate s).1.res.extTarget = 0 ∧ (frostEvaluate s).1.res.supTarget = 0 := by
          rw [hres]
          exact ⟨congrArg Prod.fst hzero, congrArg Prod.snd hzero⟩
        refine ⟨_, hruled.marked List.mem_cons_self hpower rfl, ?_⟩
        rw [hruled.frost]
        exact ⟨rfl, fun h => absurd h hclear, fun _ h => absurd hn (by omega), fun _ _ => ⟨rfl, rfl, rfl, hw, rfl, hruled.events,
          hhanded, htargets⟩⟩
  · have hruled := ruled_lock hG hst (lockRules_releases ⟨hv, ht⟩ (by rw [hrelease]; exact hn))
    have hhanded := hruled.handedOn (Or.inl (by rw [hst]; exact nofun))
    refine ⟨_, hruled.marked (List.mem_singleton_self _) hpower rfl, ?_⟩
    rw [hruled.frost]
    exact ⟨rfl, rfl, rfl, rfl, rfl, hruled.events, hhanded⟩

end Sys2Proof.Proofs
end

section
/-! SUPPORT. Proofs: what an evaluation changes whatever its stage, and an evaluation in or across DEGRADED (O26). -/

namespace Sys2Proof.Proofs

open Sys2Proof Sys2Proof.Machine

/-! ### What the stage rules carry through -/

/-- The parts of a frost record that neither the stage rules nor a change of mode writes. -/
def carried (f : FrostRecord) : Int × Option Nat × Option Nat × Bool × Nat × Nat × Nat × Nat × Bool × Nat :=
  (f.tg, f.ratio, f.rx0, f.learnActive, f.learnCount, f.learnSum, f.block, f.duty, f.output, f.windowMs)

/-- What the stage rules leave: the parts carried and the frost mode, and the icing-sign count, which they may put to 0. -/
def RulesKeep (f g : FrostRecord) : Prop := carried g = carried f ∧ g.mode = f.mode ∧ (g.icing = f.icing ∨ g.icing = 0)

theorem rulesKeep_rfl (f : FrostRecord) : RulesKeep f f := ⟨rfl, rfl, Or.inl rfl⟩

theorem rulesKeep_enter (f : FrostRecord) (x : Settings) (st : FrostStage) : RulesKeep f (f.enter x st) :=
  ⟨rfl, rfl, Or.inl rfl⟩

theorem rulesKeep_enterDefrost (f : FrostRecord) (x : Settings) (n : Nat) : RulesKeep f (f.enterDefrost x n) :=
  ⟨rfl, rfl, Or.inr rfl⟩

theorem rulesKeep_degradedShed (f : FrostRecord) (x : Settings) : RulesKeep f (f.degradedShed x) := by
  unfold FrostRecord.degradedShed
  split <;> exact ⟨rfl, rfl, Or.inl rfl⟩

theorem rulesKeep_degradedIdle (f : FrostRecord) (x : Settings) : RulesKeep f (f.degradedIdle x) := by
  unfold FrostRecord.degradedIdle
  split <;> exact ⟨rfl, rfl, Or.inl rfl⟩

theorem rulesKeep_shedEvent (x : Settings) (f : FrostRecord) : RulesKeep f (shedEvent x f).1 := by
  unfold shedEvent
  split
  · dsimp only
    split <;> exact ⟨rfl, rfl, Or.inl rfl⟩
  · exact rulesKeep_enterDefrost _ _ _

theorem rulesKeep_growWindow (x : Settings) (f : FrostRecord) : RulesKeep f (growWindow x f) := by
  unfold growWindow
  split_ifs <;> exact ⟨rfl, rfl, Or.inl rfl⟩

theorem rulesKeep_guardRules (e : FrostEnv) (hit : Bool) (p : Nat) (t : Int) (f : FrostRecord) :
    RulesKeep f (guardRules e hit p t f).1 := by
  unfold guardRules
  split
  · exact rulesKeep_enterDefrost _ _ _
  split
  · split <;> [exact rulesKeep_enter _ _ _; exact rulesKeep_rfl _]
  split
  · exact rulesKeep_shedEvent _ _
  split
  · exact rulesKeep_enter _ _ _
  split
  · exact rulesKeep_enter _ _ _
  split
  · exact rulesKeep_growWindow _ _
  · exact rulesKeep_rfl _

theorem rulesKeep_lockRules (e : FrostEnv) (f : FrostRecord) : RulesKeep f (lockRules e f).1 := by
  unfold lockRules
  dsimp only
  split
  · exact ⟨rfl, rfl, Or.inr rfl⟩
  · exact ⟨rfl, rfl, Or.inl rfl⟩

theorem rulesKeep_defrostRules (e : FrostEnv) (t : Int) (f : FrostRecord) : RulesKeep f (defrostRules e t f).1 := by
  unfold defrostRules
  split_ifs <;> exact ⟨rfl, rfl, Or.inl rfl⟩

theorem rulesKeep_holdRules (e : FrostEnv) (t : Int) (f : FrostRecord) : RulesKeep f (holdRules e t f).1 := by
  unfold holdRules
  split_ifs <;> exact ⟨rfl, rfl, Or.inl rfl⟩

theorem rulesKeep_normalRules (e : FrostEnv) (hit : Bool) (p : Nat) (f : FrostRecord) :
    RulesKeep f (normalRules e hit p f).1 := by
  unfold normalRules
  dsimp only
  split
  · exact rulesKeep_defrostRules e _ f.zeroCounts
  · exact rulesKeep_holdRules e _ f.zeroCounts
  · exact rulesKeep_lockRules e f.zeroCounts
  · exact rulesKeep_guardRules e hit p _ (guardCounts _ f)

theorem rulesKeep_degradedRules (e : FrostEnv) (f : FrostRecord) : RulesKeep f (degradedRules e f).1 := by
  unfold degradedRules
  split
  · split <;> [exact rulesKeep_degradedShed _ _; exact rulesKeep_rfl _]
  · split_ifs
    · exact rulesKeep_degradedIdle _ _
    · exact rulesKeep_enterDefrost _ _ _
    · exact rulesKeep_rfl _
  · split_ifs
    · exact rulesKeep_degradedShed _ _
    · exact rulesKeep_degradedIdle _ _
    · exact rulesKeep_rfl _
  · exact rulesKeep_lockRules _ _
  · exact rulesKeep_rfl _

theorem rulesKeep_ruleStep (s : State) (f : FrostRecord) : RulesKeep f (ruleStep s f).1 := by
  unfold ruleStep stageRules
  split
  · exact rulesKeep_normalRules ..
  · exact rulesKeep_degradedRules ..

/-- R80, R82: a change of mode carries the same parts, and puts the icing-sign count to 0 or leaves it. -/
theorem modeStepFrost_carries (s : State) :
    carried (modeStepFrost (frostEnv s) (rated s)).1 = carried (timed s) ∧
      ((modeStepFrost (frostEnv s) (rated s)).1.icing = (timed s).icing ∨
        (modeStepFrost (frostEnv s) (rated s)).1.icing = 0) ∧
      (modeStepFrost (frostEnv s) (rated s)).1.mode =
        if s.seq.published.tExh.validity = .invalid then .degraded else .normal := by
  have henter : carried (enterDegraded (frostEnv s) (timed s)).1 = carried (timed s) ∧
      (enterDegraded (frostEnv s) (timed s)).1.icing = 0 := by
    have hshed := rulesKeep_degradedShed { (timed s).zeroCounts with mode := .degraded, icing := 0 } (frostEnv s).settings
    have hidle := rulesKeep_degradedIdle { (timed s).zeroCounts with mode := .degraded, icing := 0 } (frostEnv s).settings
    unfold enterDegraded
    dsimp only
    split
    · exact ⟨rfl, rfl⟩
    · exact ⟨rfl, rfl⟩
    · exact ⟨rfl, rfl⟩
    · split
      · exact ⟨hshed.1, hshed.2.2.elim id id⟩
      · exact ⟨hidle.1, hidle.2.2.elim id id⟩
  have hleave : carried (leaveDegraded (frostEnv s) (timed s)).1 = carried (timed s) ∧
      (leaveDegraded (frostEnv s) (timed s)).1.icing = (timed s).icing := by
    unfold leaveDegraded
    dsimp only
    split <;> exact ⟨rfl, rfl⟩
  have hmode := timed_mode s
  cases hm : s.frost.mode with
  | normal =>
    rw [modeStepFrost_normal hm]
    split
    · exact ⟨henter.1, Or.inr henter.2, enterDegraded_mode _ _⟩
    · exact ⟨rfl, Or.inl rfl, hmode.trans hm⟩
  | degraded =>
    rw [modeStepFrost_degraded hm]
    split
    · exact ⟨rfl, Or.inl rfl, hmode.trans hm⟩
    · exact ⟨hleave.1, Or.inl hleave.2, leaveDegraded_mode _ _⟩

/-- The rules of an evaluation, whatever they leave. -/
theorem ruled_rules (s : State) : Ruled s (ruleStep s (modeStepFrost (frostEnv s) (rated s)).1).1
    ((modeStepFrost (frostEnv s) (rated s)).2 ++ (ruleStep s (modeStepFrost (frostEnv s) (rated s)).1).2) := ⟨rfl, rfl⟩

/-- R63: what an evaluation leaves of the parts carried, the mode, and the icing signs. -/
theorem evaluated_carries (s : State) :
    ∃ g ms, Ruled s g ms ∧ carried g = carried (timed s) ∧ (g.icing = (timed s).icing ∨ g.icing = 0) ∧
      g.mode = if s.seq.published.tExh.validity = .invalid then .degraded else .normal := by
  obtain ⟨hcarried, hicing, hmode⟩ := modeStepFrost_carries s
  obtain ⟨hcarried', hmode', hicing'⟩ := rulesKeep_ruleStep s (modeStepFrost (frostEnv s) (rated s)).1
  refine ⟨_, _, ruled_rules s, hcarried'.trans hcarried, ?_, hmode'.trans hmode⟩
  obtain h | h := hicing'
  · rw [h]
    exact hicing
  · exact Or.inr h

/-! ### The learn, as an evaluation makes it (R67) -/

theorem evaluated_learn (s : State) :
    (frostEvaluate s).1.frost.learnActive = (rated s).learnActive ∧ (frostEvaluate s).1.frost.rx0 = (rated s).rx0 ∧
      (frostEvaluate s).1.frost.learnCount = (rated s).learnCount ∧
      (frostEvaluate s).1.frost.learnSum = (rated s).learnSum := by
  obtain ⟨g, ms, hruled, hcarried, -, -⟩ := evaluated_carries s
  simp only [carried, Prod.mk.injEq] at hcarried
  obtain ⟨-, -, hrx, hactive, hcount, hsum, -⟩ := hcarried
  rw [hruled.frost]
  exact ⟨hactive, hrx, hcount, hsum⟩

/-- R67: the scan that qualifies for a learn. -/
def Qualifies (s : State) : Prop :=
  s.seq.published.tOut.validity = .valid ∧ 50 ≤ s.seq.published.tOut.value ∧ s.fans.extract.state = .steady ∧
    s.frost.stage = .idle ∧ ∃ r ∈ resistanceNow s, 1 ≤ r

theorem learnScan_qualifies {s : State} (h : Qualifies s) :
    ∃ r, resistanceNow s = some r ∧ learnScan (frostEnv s) s.frost (resistanceNow s) = some r := by
  obtain ⟨hv, ht, hs, hi, r, hr, h1⟩ := h
  exact ⟨r, hr, learnScan_some (Option.mem_def.mp hr) h1 hv ht hs hi⟩

theorem learnScan_fails {s : State} (h : ¬ Qualifies s) :
    learnScan (frostEnv s) s.frost (resistanceNow s) = none := learnScan_none h

theorem rated_learn (s : State) :
    rated s = (learnAfter (learnScan (frostEnv s) s.frost (resistanceNow s)) (rationed s)).1 := rfl

/-- R67: the learn of an evaluation. -/
theorem evaluated_learns (s : State) :
    (s.frost.learnActive = false → s.frost.rx0.isSome = true → (frostEvaluate s).1.frost.learnActive = false ∧
        (frostEvaluate s).1.frost.rx0 = s.frost.rx0 ∧ (frostEvaluate s).1.frost.learnCount = s.frost.learnCount ∧
        (frostEvaluate s).1.frost.learnSum = s.frost.learnSum) ∧
      (s.frost.learnActive = true ∨ s.frost.rx0 = none → ¬ Qualifies s → (frostEvaluate s).1.frost.learnActive = true ∧
        (frostEvaluate s).1.frost.rx0 = s.frost.rx0 ∧ (frostEvaluate s).1.frost.learnCount = 0 ∧
        (frostEvaluate s).1.frost.learnSum = 0) ∧
      (s.frost.learnActive = true ∨ s.frost.rx0 = none → Qualifies s → s.frost.learnCount < 15 →
        (frostEvaluate s).1.frost.learnActive = true ∧ (frostEvaluate s).1.frost.rx0 = s.frost.rx0 ∧
        (frostEvaluate s).1.frost.learnCount = s.frost.learnCount + 1 ∧
        (frostEvaluate s).1.frost.learnSum = s.frost.learnSum + (resistanceNow s).getD 0) := by
  obtain ⟨hactive, hrx, hcount, hsum⟩ := evaluated_learn s
  rw [hactive, hrx, hcount, hsum, rated_learn]
  refine ⟨fun ha hr => ?_, fun hl hq => ?_, fun hl hq hn => ?_⟩
  · rw [learnAfter_idle (f := rationed s) ha hr]
    exact ⟨ha, rfl, rfl, rfl⟩
  · rw [learnScan_fails hq, learnAfter_breaks (f := rationed s) hl]
    exact ⟨rfl, rfl, rfl, rfl⟩
  · obtain ⟨r, hr, hscan⟩ := learnScan_qualifies hq
    rw [hscan, learnAfter_counts (f := rationed s) hl hn, hr]
    exact ⟨rfl, rfl, rfl, rfl⟩

/-! ### The preheater, as an evaluation leaves it (R83 to R85) -/

theorem evaluated_preheat {s : State} {holds : Prop}
    (hh : holds ↔ ((frostEvaluate s).1.frost.stage = .watch ∨ (frostEvaluate s).1.frost.stage = .shed ∨
        (frostEvaluate s).1.frost.stage = .recover) ∧
      (s.fans.supply.state = .ramping ∨ s.fans.supply.state = .steady) ∧ 150 ≤ s.fans.supply.qMeas ∧
      s.seq.published.tPre.validity = .valid ∧ s.seq.supplyLow = false ∧ s.settings.preheatFitted = true ∧
      (frostEvaluate s).1.frost.block = 0) :
    (holds → (frostEvaluate s).1.frost.duty =
        (max 0 (min 100 ((s.settings.tPs - s.seq.published.tPre.filtered.getD 0) * 2))).toNat) ∧
      (¬ holds → (frostEvaluate s).1.frost.duty = 0) := by
  obtain ⟨g, ms, hruled, -⟩ := evaluated_carries s
  have hduty : (frostEvaluate s).1.frost.duty = (preheatStep (frostEnv s) g).1.duty ∧
      (frostEvaluate s).1.frost.block = (preheatStep (frostEnv s) g).1.block ∧
      (frostEvaluate s).1.frost.stage = g.stage := by
    rw [frostEvaluate_frost, hruled.record]
    exact ⟨rfl, rfl, rfl⟩
  obtain ⟨hduty, hblock, hstage⟩ := hduty
  rw [hblock, hstage, ← running_iff] at hh
  have hlock := hh.trans interlock_iff.symm
  rw [hduty]
  refine ⟨fun h => (if_pos (hlock.mp h)).trans ?_, fun h => if_neg (mt hlock.mpr h)⟩
  show (demandedDuty s.settings.tPs s.seq.published.tPre) = _
  unfold demandedDuty
  rw [clampI_eq (by decide)]
  rfl

theorem evaluated_output (s : State) :
    (frostEvaluate s).1.frost.tg = guardNow s ∧ (frostEvaluate s).1.frost.ratio = ratioNow s ∧
      (frostEvaluate s).1.frost.block =
        (if s.seq.published.tPre.validity = .valid ∧ 150 ≤ s.seq.published.tPre.filtered.getD 0 then 120
          else s.frost.block - 1) ∧
      (frostEvaluate s).1.frost.windowMs = s.frost.windowMs ∧
      (frostEvaluate s).1.frost.output =
        (s.frost.output && decide (s.frost.windowMs < (frostEvaluate s).1.frost.duty * 100)) := by
  obtain ⟨g, ms, hruled, hcarried, -⟩ := evaluated_carries s
  rw [timed_eq] at hcarried
  simp only [carried, Prod.mk.injEq] at hcarried
  obtain ⟨htg, hratio, -, -, -, -, hblock, -, houtput, hwindow⟩ := hcarried
  rw [frostEvaluate_frost, hruled.record]
  refine ⟨htg, hratio, ?_, hwindow, ?_⟩
  · show blockAfter s.seq.published.tPre g.block = _
    rw [hblock]
    rfl
  · show (g.output && decide (g.windowMs < (preheatStep (frostEnv s) g).1.duty * 100)) = _
    rw [houtput, hwindow]

/-- R66: outside NORMAL's guarding stages the icing-sign count is 0. -/
theorem evaluated_icing_shut {s : State} (h : s.frost.mode = .degraded ∨ WindowShut s.frost.stage) :
    (frostEvaluate s).1.frost.icing = 0 := by
  obtain ⟨g, ms, hruled, -, hicing, -⟩ := evaluated_carries s
  have hno : ¬ (s.frost.mode = .normal ∧ s.frost.stage.guarding = true) := by
    rintro ⟨hm, hg⟩
    obtain h | h | h | h := h
    · exact absurd (hm.symm.trans h) nofun
    all_goals
      rw [h] at hg
      exact nomatch hg
  have hzero : (rationed s).icing = 0 := if_neg hno
  have htimed : (timed s).icing = 0 := by
    show (rated s).icing = 0
    rw [rated_learn]
    unfold learnAfter
    split
    · split
      · split
        · rfl
        · exact hzero
      · exact hzero
    · exact hzero
  rw [hruled.frost]
  exact hicing.elim (fun h => h.trans htimed) id

/-! ### A change of stage in NORMAL (R63, R69) -/

/-- A stage that is entered starts with its timer, its warm and its watch-exit count at 0. -/
def EntersFresh (f g : FrostRecord) : Prop := g.stage ≠ f.stage → g.timer = 0 ∧ g.warm = 0 ∧ g.watchExit = 0

theorem entersFresh_same {f g : FrostRecord} (h : g.stage = f.stage) : EntersFresh f g := fun hne => absurd h hne

theorem entersFresh_enter {f g : FrostRecord} (h : g.timer = 0 ∧ g.warm = 0 ∧ g.watchExit = 0) : EntersFresh f g := fun _ => h

theorem entersFresh_guardRules (e : FrostEnv) (hit : Bool) (p : Nat) (t : Int) (f : FrostRecord) :
    EntersFresh f (guardRules e hit p t f).1 := by
  unfold guardRules
  split
  · exact entersFresh_enter ⟨rfl, rfl, rfl⟩
  split
  · split <;> [exact entersFresh_enter ⟨rfl, rfl, rfl⟩; exact entersFresh_same rfl]
  split
  · unfold shedEvent
    split
    · dsimp only
      split
      · exact entersFresh_same rfl
      · exact entersFresh_enter ⟨rfl, rfl, rfl⟩
    · exact entersFresh_enter ⟨rfl, rfl, rfl⟩
  split
  · exact entersFresh_enter ⟨rfl, rfl, rfl⟩
  split
  · exact entersFresh_enter ⟨rfl, rfl, rfl⟩
  split
  · unfold growWindow
    split_ifs <;> [exact entersFresh_same rfl; exact entersFresh_same rfl; exact entersFresh_enter ⟨rfl, rfl, rfl⟩]
  · exact entersFresh_same rfl

theorem entersFresh_normalRules (e : FrostEnv) (hit : Bool) (p : Nat) (f : FrostRecord) :
    EntersFresh f (normalRules e hit p f).1 := by
  unfold normalRules
  dsimp only
  split
  · unfold defrostRules
    split_ifs <;> [exact entersFresh_enter ⟨rfl, rfl, rfl⟩; exact entersFresh_enter ⟨rfl, rfl, rfl⟩; exact entersFresh_same rfl]
  · unfold holdRules
    split_ifs <;> [exact entersFresh_enter ⟨rfl, rfl, rfl⟩; exact entersFresh_same rfl; exact entersFresh_enter ⟨rfl, rfl, rfl⟩;
      exact entersFresh_same rfl]
  · unfold lockRules
    dsimp only
    split <;> [exact entersFresh_enter ⟨rfl, rfl, rfl⟩; exact entersFresh_same rfl]
  · exact entersFresh_guardRules e hit p _ (guardCounts _ f)

/-- R69: in DEFROST, HOLD and LOCK the four counts are 0. -/
theorem normalRules_shut_counts {e : FrostEnv} {hit : Bool} {p : Nat} {f : FrostRecord} (h : WindowShut f.stage) :
    (normalRules e hit p f).1.cold = 0 ∧ (normalRules e hit p f).1.deepCold = 0 ∧ (normalRules e hit p f).1.warm = 0 ∧
      (normalRules e hit p f).1.watchExit = 0 := by
  unfold normalRules
  obtain h | h | h := h <;> rw [h] <;> dsimp only
  · unfold defrostRules
    split_ifs <;> exact ⟨rfl, rfl, rfl, rfl⟩
  · unfold holdRules
    split_ifs <;> exact ⟨rfl, rfl, rfl, rfl⟩
  · unfold lockRules
    dsimp only
    split <;> exact ⟨rfl, rfl, rfl, rfl⟩

/-- R66, R69: guarding rules that do not enter DEFROST keep the deep-cold and the icing-sign count. -/
theorem guardRules_keeps_counts {e : FrostEnv} {hit : Bool} {p : Nat} {t : Int} {f : FrostRecord}
    (h : (guardRules e hit p t f).1.stage ≠ .defrost) :
    (guardRules e hit p t f).1.deepCold = f.deepCold ∧ (guardRules e hit p t f).1.icing = f.icing := by
  revert h
  unfold guardRules
  split
  · exact fun h => absurd rfl h
  split
  · split <;> exact fun _ => ⟨rfl, rfl⟩
  split
  · unfold shedEvent
    split
    · dsimp only
      split <;> exact fun _ => ⟨rfl, rfl⟩
    · exact fun h => absurd rfl h
  split
  · exact fun _ => ⟨rfl, rfl⟩
  split
  · exact fun _ => ⟨rfl, rfl⟩
  split
  · unfold growWindow
    split_ifs <;> exact fun _ => ⟨rfl, rfl⟩
  · exact fun _ => ⟨rfl, rfl⟩

end Sys2Proof.Proofs
end

section
/-! SUPPORT. Proofs: a frost evaluation in every stage and mode (O26). -/

namespace Sys2Proof.Proofs

open Sys2Proof Sys2Proof.Machine

/-! ### In NORMAL, in a guarding stage (R69 to R73) -/

section Guard

variable {s : State}

theorem counted_icing (h : s.frost.learnCount < 15 ∨ s.frost.stage ≠ .idle) :
    (counted s).icing = icingAfter s.frost (ratioNow s) := by
  have hcounted : (counted s).icing = (rated s).icing := by rw [counted_eq]; rfl
  have hmark : FrostMark.learnComplete ∉
      (learnAfter (learnScan (frostEnv s) s.frost (resistanceNow s)) (rationed s)).2 := by
    intro hm
    obtain ⟨-, hn, r, hr⟩ := learnAfter_mark hm
    have hq : Qualifies s := by
      by_contra hq
      rw [learnScan_fails hq] at hr
      exact nomatch hr
    obtain h | h := h
    · exact absurd hn (by show ¬ 15 ≤ s.frost.learnCount; omega)
    · exact h hq.2.2.2.1
  rw [hcounted, rated_learn]
  generalize learnScan (frostEnv s) s.frost (resistanceNow s) = q at hmark
  unfold learnAfter at hmark ⊢
  split
  next hl =>
    rw [if_pos hl] at hmark
    split
    · split
      next hn => simp [hn] at hmark
      · rfl
    · rfl
  · rfl

theorem icingAfter_calm (hm : s.frost.mode = .normal) (hg : Guarding s.frost.stage) (hi : ¬ IcingFound s) :
    icingAfter s.frost (ratioNow s) = match ratioNow s with
      | some r => if 130 ≤ r then s.frost.icing + 1 else 0
      | none => s.frost.icing := by
  have hguard := (guarding_iff _).mpr hg
  unfold icingAfter
  rw [if_pos ⟨hm, hguard⟩]
  unfold IcingFound at hi
  cases h : ratioNow s with
  | none => rfl
  | some r =>
    rw [h] at hi
    dsimp only
    split
    next hr =>
      have hfew : ¬ 3 ≤ s.frost.icing := fun h3 => hi ⟨hr, h3⟩
      exact Nat.min_eq_left (by omega)
    · rfl

/-- What a calm evaluation of a guarding stage leaves. -/
theorem evaluated_guard (hG : GuardsNormally s) (hg : Guarding s.frost.stage) (hi : ¬ IcingFound s) (hdc : ¬ DeepColdFound s)
    {d : Int} (hd : d = s.seq.published.tExh.filtered.getD 0 - guardNow s) :
    ((frostEvaluate s).1.frost.stage ≠ .defrost →
        (frostEvaluate s).1.frost.deepCold = if d ≤ -30 then min (s.frost.deepCold + 1) 900 else 0) ∧
      ((frostEvaluate s).1.frost.stage ≠ .defrost → s.frost.learnCount < 15 ∨ s.frost.stage ≠ .idle →
        (frostEvaluate s).1.frost.icing = (match ratioNow s with
          | some r => if 130 ≤ r then s.frost.icing + 1 else 0
          | none => s.frost.icing)) ∧
      (s.frost.stage = .idle → d ≤ 0 → (frostEvaluate s).1.frost.stage = .watch ∧
        (frostEvaluate s).1.frost.w = s.frost.w ∧ (frostEvaluate s).1.frost.s = s.frost.s ∧
        (frostEvaluate s).1.frost.allowance = s.settings.aNormal ∧
        (frostEvaluate s).1.frost.cold = (if d ≤ -10 then min (s.frost.cold + 1) 120 else 0) ∧
        (frostEvaluate s).1.events = s.events ∧ HandedOn s (frostEvaluate s).1) ∧
      ((s.frost.stage = .idle ∧ 0 < d) ∨
        ((-10 < d ∨ s.frost.cold < 119 ∨ (s.settings.preheatFitted = true ∧ s.frost.duty ≠ 100)) ∧
          ((s.frost.stage = .watch ∧ (d < 20 ∨ s.frost.watchExit < 299)) ∨
            (s.frost.stage = .shed ∧ (d ≤ 0 ∨ s.frost.warm < 119)) ∨
            (s.frost.stage = .recover ∧ (d ≤ 0 ∨ s.frost.warm < 59)))) → StageGoesOn s (frostEvaluate s).1 ∧
        (frostEvaluate s).1.frost.cold = (if d ≤ -10 then min (s.frost.cold + 1) 120 else 0) ∧
        (frostEvaluate s).1.frost.warm = (if 0 < d then min (s.frost.warm + 1) 120 else 0) ∧
        (frostEvaluate s).1.frost.watchExit =
          if s.frost.stage = .watch then (if 20 ≤ d then min (s.frost.watchExit + 1) 300 else 0) else s.frost.watchExit) := by
  have hvalue : s.seq.published.tExh.value = guardNow s + d := by
    rw [hd]
    show s.seq.published.tExh.filtered.getD 0 = _
    omega
  obtain ⟨hstage, hw, hs, htg, htimer, hentry, hallow⟩ := counted_stage s
  have hcold : (counted s).cold = if d ≤ -10 then min (s.frost.cold + 1) 120 else 0 := by
    rw [counted_eq, hvalue]
    exact if_congr (by omega) rfl rfl
  have hdeep : (counted s).deepCold = if d ≤ -30 then min (s.frost.deepCold + 1) 900 else 0 := by
    rw [counted_eq, hvalue]
    exact if_congr (by omega) rfl rfl
  have hwarm : (counted s).warm = if 0 < d then min (s.frost.warm + 1) 120 else 0 := by
    rw [counted_eq, hvalue]
    exact if_congr (by omega) rfl rfl
  have hexit : (counted s).watchExit =
      if s.frost.stage = .watch then (if 20 ≤ d then min (s.frost.watchExit + 1) 300 else 0) else s.frost.watchExit := by
    rw [counted_eq, hvalue]
    exact if_congr Iff.rfl (if_congr (by omega) rfl rfl) rfl
  have hcalm := calm hG hg hi hdc
  refine ⟨fun hne => ?_, fun hne hlearn => ?_, fun hidle hle => ?_, fun hwaits => ?_⟩
  · have hruled := ruled_guards hG hg rfl
    rw [hruled.frost] at hne ⊢
    exact (guardRules_keeps_counts hne).1.trans hdeep
  · have hruled := ruled_guards hG hg rfl
    rw [hruled.frost] at hne ⊢
    exact ((guardRules_keeps_counts hne).2.trans (counted_icing hlearn)).trans (icingAfter_calm hG.2.1 hg hi)
  · have hruled := ruled_guards hG hg (guardRules_watches hcalm (hstage.trans hidle) (by rw [htg, hvalue]; omega))
    rw [hruled.frost]
    exact ⟨rfl, hw, hs, rfl, hcold, hruled.events, hruled.handedOn (Or.inl (by rw [hidle]; exact nofun))⟩
  · have hsame : guardRules (frostEnv s) (icingHit s.frost (ratioNow s)) s.frost.duty s.seq.published.tExh.value (counted s) =
        (counted s, []) := by
      obtain ⟨hidle, hpos⟩ | ⟨hnoshed, hstays⟩ := hwaits
      · exact guardRules_idles hcalm (hstage.trans hidle) (by rw [htg, hvalue]; omega)
      · have hnocold : ¬ (120 ≤ (counted s).cold ∧ exhausted (frostEnv s).settings s.frost.duty = true) := by
          rw [hcold, exhausted_iff]
          show ¬ (_ ∧ (s.settings.preheatFitted = false ∨ _))
          rintro ⟨hc, hx⟩
          obtain h | h | ⟨h, h'⟩ := hnoshed
          · rw [if_neg (by omega)] at hc
            omega
          · split at hc <;> omega
          · exact hx.elim (fun hx => absurd (h.symm.trans hx) nofun) h'
        refine guardRules_waits hcalm ?_ hnocold ?_ ?_ ?_ <;> rw [hstage]
        · obtain ⟨h, -⟩ | ⟨h, -⟩ | ⟨h, -⟩ := hstays <;> rw [h] <;> exact nofun
        · rintro ⟨hst, hn⟩
          obtain ⟨h, h'⟩ | ⟨h, -⟩ | ⟨h, -⟩ := hstays
          · rw [hexit, if_pos hst] at hn
            split at hn <;> omega
          · exact absurd (hst.symm.trans h) nofun
          · exact absurd (hst.symm.trans h) nofun
        · rintro ⟨hst, hn⟩
          obtain ⟨h, -⟩ | ⟨h, h'⟩ | ⟨h, -⟩ := hstays
          · exact absurd (hst.symm.trans h) nofun
          · rw [hwarm] at hn
            split at hn <;> omega
          · exact absurd (hst.symm.trans h) nofun
        · rintro ⟨hst, hn⟩
          obtain ⟨h, -⟩ | ⟨h, -⟩ | ⟨h, h'⟩ := hstays
          · exact absurd (hst.symm.trans h) nofun
          · exact absurd (hst.symm.trans h) nofun
          · rw [hwarm] at hn
            split at hn <;> omega
    have hruled := ruled_guards hG hg hsame
    refine ⟨hruled.goesOn rfl ⟨hstage, htimer, hw, hs, hentry, hallow⟩, ?_⟩
    rw [hruled.frost]
    exact ⟨hcold, hwarm, hexit⟩

end Guard

/-! ### In DEGRADED (R80, R81) -/

section Degraded

variable {s : State}

theorem coldCondition_iff (s : State) : coldCondition (frostEnv s) = true ↔ OutsideCold s := by
  unfold coldCondition OutsideCold
  rw [Bool.or_eq_true, beq_iff_eq, decide_eq_true_eq]
  exact Iff.rfl

theorem timed_keeps (s : State) :
    (timed s).timer = min (s.frost.timer + 1) 65535 ∧ (timed s).w = s.frost.w ∧ (timed s).s = s.frost.s ∧
      (timed s).wEntry = s.frost.wEntry ∧ (timed s).allowance = s.frost.allowance ∧
      (timed s).release = s.frost.release := by
  rw [timed_eq]
  exact ⟨rfl, rfl, rfl, rfl, rfl, rfl⟩

variable {e : FrostEnv} {f : FrostRecord}

theorem degradedRules_idle_sheds (hs : f.stage = .idle) (hc : coldCondition e = true) :
    degradedRules e f = (f.degradedShed e.settings, [.degradedShed]) := by
  unfold degradedRules
  rw [hs]
  exact if_pos hc

theorem degradedRules_idle_stays (hs : f.stage = .idle) (hc : ¬ coldCondition e = true) : degradedRules e f = (f, []) := by
  unfold degradedRules
  rw [hs]
  exact if_neg hc

theorem degradedRules_shed_idles (hs : f.stage = .shed) (hc : ¬ coldCondition e = true) :
    degradedRules e f = (f.degradedIdle e.settings, []) := by
  unfold degradedRules
  rw [hs]
  exact if_pos (Bool.not_eq_true _ ▸ hc)

theorem degradedRules_shed_defrosts (hs : f.stage = .shed) (hc : coldCondition e = true) (hm : 1800 ≤ f.timer) :
    degradedRules e f = (f.enterDefrost e.settings 8, [.timedDefrost]) := by
  unfold degradedRules
  rw [hs]
  exact (if_neg (by rw [hc]; exact nofun)).trans (if_pos hm)

theorem degradedRules_shed_stays (hs : f.stage = .shed) (hc : coldCondition e = true) (hm : f.timer < 1800) :
    degradedRules e f = (f, []) := by
  unfold degradedRules
  rw [hs]
  exact (if_neg (by rw [hc]; exact nofun)).trans (if_neg (Nat.not_le.mpr hm))

theorem degradedRules_defrost_sheds (hs : f.stage = .defrost) (hc : coldCondition e = true) (hm : 300 ≤ f.timer) :
    degradedRules e f = (f.degradedShed e.settings, [.timedDefrostEnd, .degradedShed]) := by
  unfold degradedRules
  rw [hs]
  exact (if_pos hm).trans (if_pos hc)

theorem degradedRules_defrost_idles (hs : f.stage = .defrost) (hc : ¬ coldCondition e = true) (hm : 300 ≤ f.timer) :
    degradedRules e f = (f.degradedIdle e.settings, [.timedDefrostEnd]) := by
  unfold degradedRules
  rw [hs]
  exact (if_pos hm).trans (if_neg hc)

theorem degradedRules_defrost_stays (hs : f.stage = .defrost) (hm : f.timer < 300) : degradedRules e f = (f, []) := by
  unfold degradedRules
  rw [hs]
  exact if_neg (Nat.not_le.mpr hm)

theorem degradedRules_lock (hs : f.stage = .lock) : degradedRules e f = lockRules e f := by
  unfold degradedRules
  rw [hs]

theorem degradedShed_enters {x : Settings} (hs : f.stage ≠ .shed) :
    f.degradedShed x = { f.enter x .shed with w := 8, s := 8 } := by
  unfold FrostRecord.degradedShed
  rw [if_neg hs]

theorem degradedIdle_enters {x : Settings} (hs : f.stage ≠ .idle) :
    f.degradedIdle x = { f.enter x .idle with w := 16, s := 16 } := by
  unfold FrostRecord.degradedIdle
  rw [if_neg hs]

theorem degradedShed_at (f : FrostRecord) (x : Settings) :
    (f.degradedShed x).stage = .shed ∧ (f.degradedShed x).w = 8 ∧ (f.degradedShed x).s = 8 ∧ (f.degradedShed x).timer = 0 := by
  unfold FrostRecord.degradedShed
  split
  next h => exact ⟨h, rfl, rfl, rfl⟩
  · exact ⟨rfl, rfl, rfl, rfl⟩

theorem degradedIdle_at (f : FrostRecord) (x : Settings) :
    (f.degradedIdle x).stage = .idle ∧ (f.degradedIdle x).w = 16 ∧ (f.degradedIdle x).s = 16 := by
  unfold FrostRecord.degradedIdle
  split
  next h => exact ⟨h, rfl, rfl⟩
  · exact ⟨rfl, rfl, rfl⟩

/-- R80, R81: an evaluation that stays in DEGRADED. -/
theorem evaluated_degraded (hm : s.frost.mode = .degraded) (hv : s.seq.published.tExh.validity = .invalid) :
    (s.frost.stage = .idle → OutsideCold s → (frostEvaluate s).1.frost.stage = .shed ∧
        (frostEvaluate s).1.frost.w = 8 ∧ (frostEvaluate s).1.frost.s = 8 ∧ (frostEvaluate s).1.frost.timer = 0 ∧
        (frostEvaluate s).1.frost.allowance = s.settings.aShed ∧
        (frostEvaluate s).1.events = s.events ||| Event.frostShed.bit ∧ HandedOn s (frostEvaluate s).1) ∧
      (s.frost.stage = .shed → ¬ OutsideCold s → (frostEvaluate s).1.frost.stage = .idle ∧
        (frostEvaluate s).1.frost.w = 16 ∧ (frostEvaluate s).1.frost.s = 16 ∧
        (frostEvaluate s).1.frost.allowance = s.settings.aNormal ∧ (frostEvaluate s).1.events = s.events ∧
        HandedOn s (frostEvaluate s).1) ∧
      ((s.frost.stage = .idle ∧ ¬ OutsideCold s) ∨ (s.frost.stage = .shed ∧ OutsideCold s ∧ s.frost.timer < 1799) ∨
        (s.frost.stage = .defrost ∧ s.frost.timer < 299) → StageGoesOn s (frostEvaluate s).1) := by
  have hstage := timed_stage s
  obtain ⟨htimer, hw, hs, hentry, hallow, -⟩ := timed_keeps s
  have hcold := coldCondition_iff s
  refine ⟨fun hst hc => ?_, fun hst hc => ?_, fun h => ?_⟩
  · have hrules := degradedRules_idle_sheds (hstage.trans hst) (hcold.mpr hc)
    rw [degradedShed_enters (by rw [hstage, hst]; exact nofun)] at hrules
    have hruled := ruled_degraded hm hv hrules
    rw [hruled.frost]
    exact ⟨rfl, rfl, rfl, rfl, rfl, hruled.events, hruled.handedOn (Or.inl (by rw [hst]; exact nofun))⟩
  · have hrules := degradedRules_shed_idles (hstage.trans hst) (mt hcold.mp hc)
    rw [degradedIdle_enters (by rw [hstage, hst]; exact nofun)] at hrules
    have hruled := ruled_degraded hm hv hrules
    rw [hruled.frost]
    exact ⟨rfl, rfl, rfl, rfl, hruled.events, hruled.handedOn (Or.inl (by rw [hst]; exact nofun))⟩
  · have hrules : degradedRules (frostEnv s) (timed s) = (timed s, []) := by
      obtain ⟨hst, hc⟩ | ⟨hst, hc, hn⟩ | ⟨hst, hn⟩ := h
      · exact degradedRules_idle_stays (hstage.trans hst) (mt hcold.mp hc)
      · exact degradedRules_shed_stays (hstage.trans hst) (hcold.mpr hc) (by rw [htimer]; omega)
      · exact degradedRules_defrost_stays (hstage.trans hst) (by rw [htimer]; omega)
    exact (ruled_degraded hm hv hrules).goesOn rfl ⟨hstage, htimer, hw, hs, hentry, hallow⟩

/-! ### Into DEGRADED and out of it (R80, R82) -/

/-- The record that a loss of the exhaust temperature starts from. -/
def lost (f : FrostRecord) : FrostRecord := { f.zeroCounts with mode := .degraded, icing := 0 }

theorem enterDegraded_defrost (hs : f.stage = .defrost) :
    enterDegraded e f = ({ lost f with timer := 0, w := 0 }, [.degradedEntry]) := by
  unfold enterDegraded
  rw [hs]
  rfl

theorem enterDegraded_hold (hs : f.stage = .hold) :
    enterDegraded e f = ({ (lost f).enter e.settings .defrost with w := 0 }, [.degradedEntry]) := by
  unfold enterDegraded
  rw [hs]
  rfl

theorem enterDegraded_lock (hs : f.stage = .lock) : enterDegraded e f = (lost f, [.degradedEntry]) := by
  unfold enterDegraded
  rw [hs]
  rfl

theorem enterDegraded_sheds (hs : Guarding f.stage) (hc : coldCondition e = true) :
    enterDegraded e f = ((lost f).degradedShed e.settings, [.degradedEntry, .degradedShed]) := by
  unfold enterDegraded
  obtain h | h | h | h := hs <;> rw [h] <;> exact if_pos hc

theorem enterDegraded_idles (hs : Guarding f.stage) (hc : ¬ coldCondition e = true) :
    enterDegraded e f = ((lost f).degradedIdle e.settings, [.degradedEntry]) := by
  unfold enterDegraded
  obtain h | h | h | h := hs <;> rw [h] <;> exact if_neg hc

/-- The four counts and the icing signs of a record are 0. -/
def CountsZero (f : FrostRecord) : Prop := f.icing = 0 ∧ f.cold = 0 ∧ f.deepCold = 0 ∧ f.warm = 0 ∧ f.watchExit = 0

theorem countsZero_lost (f : FrostRecord) : CountsZero (lost f) := ⟨rfl, rfl, rfl, rfl, rfl⟩

theorem countsZero_degradedShed {x : Settings} (h : CountsZero f) : CountsZero (f.degradedShed x) := by
  obtain ⟨hi, hc, hd, -, -⟩ := id h
  unfold FrostRecord.degradedShed
  split
  · exact h
  · exact ⟨hi, hc, hd, rfl, rfl⟩

theorem countsZero_degradedIdle {x : Settings} (h : CountsZero f) : CountsZero (f.degradedIdle x) := by
  obtain ⟨hi, hc, hd, -, -⟩ := id h
  unfold FrostRecord.degradedIdle
  split
  · exact h
  · exact ⟨hi, hc, hd, rfl, rfl⟩

theorem countsZero_lockRules (h : CountsZero f) : CountsZero (lockRules e f).1 := by
  obtain ⟨hi, hc, hd, hw, hx⟩ := id h
  unfold lockRules
  dsimp only
  split
  · exact ⟨rfl, rfl, rfl, rfl, rfl⟩
  · exact h

theorem Ruled.counts {g : FrostRecord} {ms : List FrostMark} (hruled : Ruled s g ms) (h : CountsZero g) :
    CountsZero (frostEvaluate s).1.frost := by
  unfold CountsZero
  rw [hruled.frost]
  exact h

theorem Ruled.hasEvent {g : FrostRecord} {ms : List FrostMark} {m : FrostMark} {v : Event} (hruled : Ruled s g ms)
    (hm : m ∈ ms) (hv : v ∈ m.events) : (frostEvaluate s).1.hasEvent v = true :=
  hasEvent_of_events hruled.events (Or.inl (List.mem_flatMap.mpr ⟨m, hm, hv⟩))

/-- R80: an evaluation that loses the exhaust temperature. -/
theorem evaluated_enters (hm : s.frost.mode = .normal) (hv : s.seq.published.tExh.validity = .invalid) :
    (frostEvaluate s).1.hasEvent .frostDegraded = true ∧ CountsZero (frostEvaluate s).1.frost ∧
      (Guarding s.frost.stage →
        (OutsideCold s → (frostEvaluate s).1.frost.stage = .shed ∧ (frostEvaluate s).1.frost.w = 8 ∧
          (frostEvaluate s).1.frost.s = 8 ∧ (frostEvaluate s).1.frost.timer = 0 ∧
          (frostEvaluate s).1.hasEvent .frostShed = true) ∧
        (¬ OutsideCold s → (frostEvaluate s).1.frost.stage = .idle ∧ (frostEvaluate s).1.frost.w = 16 ∧
          (frostEvaluate s).1.frost.s = 16)) ∧
      (s.frost.stage = .defrost ∨ s.frost.stage = .hold → (frostEvaluate s).1.frost.stage = .defrost ∧
        (frostEvaluate s).1.frost.timer = 0 ∧ (frostEvaluate s).1.frost.w = 0 ∧
        (frostEvaluate s).1.frost.wEntry = s.frost.wEntry) := by
  have hstage := timed_stage s
  obtain ⟨-, -, -, hentry, -, -⟩ := timed_keeps s
  have hcold := coldCondition_iff s
  have hevent : ∀ {g ms}, Ruled s g ms → FrostMark.degradedEntry ∈ ms → (frostEvaluate s).1.hasEvent .frostDegraded = true :=
    fun hruled h => hruled.hasEvent h (List.mem_singleton_self _)
  by_cases hg : Guarding s.frost.stage
  · have hg' : Guarding (timed s).stage := by rw [hstage]; exact hg
    have hno : ¬ (s.frost.stage = .defrost ∨ s.frost.stage = .hold) := by
      obtain h | h | h | h := hg <;> rw [h] <;> simp
    by_cases hc : OutsideCold s
    · obtain ⟨hst, hw, hs, ht⟩ := degradedShed_at (lost (timed s)) (frostEnv s).settings
      have hruled := ruled_enters hm hv (enterDegraded_sheds hg' (hcold.mpr hc))
        (degradedRules_shed_stays hst (hcold.mpr hc) (by rw [ht]; decide))
      refine ⟨hevent hruled List.mem_cons_self, hruled.counts (countsZero_degradedShed (countsZero_lost _)), fun _ => ⟨fun _ => ?_, fun h => absurd hc h⟩,
        fun h => absurd h hno⟩
      have hshed : (frostEvaluate s).1.hasEvent .frostShed = true :=
        hruled.hasEvent (m := .degradedShed) (List.mem_cons_of_mem _ List.mem_cons_self) (List.mem_singleton_self _)
      rw [hruled.frost]
      exact ⟨hst, hw, hs, ht, hshed⟩
    · obtain ⟨hst, hw, hs⟩ := degradedIdle_at (lost (timed s)) (frostEnv s).settings
      have hruled := ruled_enters hm hv (enterDegraded_idles hg' (mt hcold.mp hc))
        (degradedRules_idle_stays hst (mt hcold.mp hc))
      refine ⟨hevent hruled List.mem_cons_self, hruled.counts (countsZero_degradedIdle (countsZero_lost _)), fun _ => ⟨fun h => absurd h hc, fun _ => ?_⟩,
        fun h => absurd h hno⟩
      rw [hruled.frost]
      exact ⟨hst, hw, hs⟩
  · cases hst : s.frost.stage with
    | idle => exact absurd (Or.inl hst) hg
    | watch => exact absurd (Or.inr (Or.inl hst)) hg
    | shed => exact absurd (Or.inr (Or.inr (Or.inl hst))) hg
    | recover => exact absurd (Or.inr (Or.inr (Or.inr hst))) hg
    | defrost =>
      have hruled := ruled_enters hm hv (enterDegraded_defrost (hstage.trans hst))
        (degradedRules_defrost_stays (hstage.trans hst) (Nat.zero_lt_succ _))
      refine ⟨hevent hruled List.mem_cons_self, hruled.counts (⟨rfl, rfl, rfl, rfl, rfl⟩), fun h => absurd h (hst ▸ hg), fun _ => ?_⟩
      rw [hruled.frost]
      exact ⟨hstage.trans hst, rfl, rfl, hentry⟩
    | hold =>
      have hruled := ruled_enters hm hv (enterDegraded_hold (hstage.trans hst)) (degradedRules_defrost_stays rfl (Nat.zero_lt_succ _))
      refine ⟨hevent hruled List.mem_cons_self, hruled.counts ⟨rfl, rfl, rfl, rfl, rfl⟩, fun h => absurd h (hst ▸ hg), fun _ => ?_⟩
      rw [hruled.frost]
      exact ⟨rfl, rfl, rfl, hentry⟩
    | lock =>
      have hruled := ruled_enters hm hv (enterDegraded_lock (hstage.trans hst)) (degradedRules_lock (hstage.trans hst))
      refine ⟨hevent hruled List.mem_cons_self, hruled.counts (countsZero_lockRules (countsZero_lost _)), fun h => absurd h (hst ▸ hg), fun h => ?_⟩
      simp at h

theorem leaveDegraded_recovers (hs : f.stage = .idle ∨ f.stage = .shed) :
    leaveDegraded e f =
      ({ ({ f with mode := .normal } : FrostRecord).enter e.settings .recover with s := max (f.w / 2) 2 }, [.degradedExit]) := by
  unfold leaveDegraded
  obtain h | h := hs <;> rw [h]

theorem leaveDegraded_defrost (hs : f.stage = .defrost) :
    leaveDegraded e f = ({ f with mode := .normal, timer := 0 }, [.degradedExit]) := by
  unfold leaveDegraded
  rw [hs]

theorem leaveDegraded_lock (hs : f.stage = .lock) : leaveDegraded e f = ({ f with mode := .normal }, [.degradedExit]) := by
  unfold leaveDegraded
  rw [hs]

/-- R82: an evaluation at which the exhaust temperature returns. -/
theorem evaluated_leaves (hm : s.frost.mode = .degraded) (hv : s.seq.published.tExh.validity ≠ .invalid) :
    (s.frost.stage = .idle ∨ s.frost.stage = .shed → ¬ DeepColdFound s → s.frost.cold < 119 →
        (frostEvaluate s).1.frost.stage = .recover ∧ (frostEvaluate s).1.frost.w = s.frost.w ∧
        (frostEvaluate s).1.frost.s = max (s.frost.w / 2) 2 ∧ (frostEvaluate s).1.frost.timer = 0 ∧
        (frostEvaluate s).1.frost.allowance = s.settings.aNormal ∧ (frostEvaluate s).1.events = s.events) ∧
      (s.frost.stage = .defrost → ¬ Cleared s → (frostEvaluate s).1.frost.stage = .defrost ∧
        (frostEvaluate s).1.frost.timer = 0 ∧ (frostEvaluate s).1.frost.wEntry = s.frost.wEntry ∧
        (frostEvaluate s).1.events = s.events) := by
  have hstage := timed_stage s
  obtain ⟨-, hw, -, hentry, -, -⟩ := timed_keeps s
  refine ⟨fun hst hdeep hn => ?_, fun hst hclear => ?_⟩
  · have hleave := leaveDegraded_recovers (e := frostEnv s) (f := timed s) (hstage ▸ hst)
    have hno : icingHit s.frost (ratioNow s) = false := by
      unfold icingHit
      rw [hm]
      rfl
    have hrules : normalRules (frostEnv s) (icingHit s.frost (ratioNow s)) s.frost.duty
        { ({ timed s with mode := .normal } : FrostRecord).enter (frostEnv s).settings .recover with s := max ((timed s).w / 2) 2 } =
        (guardCounts s.seq.published.tExh.value
          { ({ timed s with mode := .normal } : FrostRecord).enter (frostEnv s).settings .recover with s := max ((timed s).w / 2) 2 }, []) := by
      rw [normalRules_guarding (Or.inr (Or.inr (Or.inr rfl))), hno]
      have hcold : ({ ({ timed s with mode := .normal } : FrostRecord).enter (frostEnv s).settings .recover with
          s := max ((timed s).w / 2) 2 } : FrostRecord).cold = s.frost.cold := by
        show (timed s).cold = _
        rw [timed_eq]
      refine guardRules_waits ?_ nofun ?_ nofun nofun ?_
      · refine not_or.mpr ⟨nofun, fun h900 => hdeep ((deepCold_iff s).mp ?_)⟩
        exact h900
      · refine fun h => absurd h.1 ?_
        show ¬ 120 ≤ countUp _ _ 120
        rw [hcold]
        unfold countUp
        split <;> omega
      · refine fun h => absurd h.2 ?_
        show ¬ 60 ≤ countUp _ 0 120
        unfold countUp
        split <;> decide
    have hruled := ruled_leaves hm hv hleave hrules
    have hevents := hruled.events
    rw [hruled.frost]
    refine ⟨rfl, hw, ?_, rfl, rfl, hevents⟩
    show max ((timed s).w / 2) 2 = _
    rw [hw]
  · have hleave := leaveDegraded_defrost (e := frostEnv s) (f := timed s) (hstage.trans hst)
    have hrules : normalRules (frostEnv s) (icingHit s.frost (ratioNow s)) s.frost.duty
        { timed s with mode := .normal, timer := 0 } =
        (({ timed s with mode := .normal, timer := 0 } : FrostRecord).zeroCounts, []) := by
      unfold normalRules
      dsimp only
      rw [hstage.trans hst]
      refine defrostRules_waits ?_ (Nat.zero_lt_succ _)
      show ¬ clearedCond s.seq.published.tExh.value (timed s).ratio = true
      rw [show (timed s).ratio = ratioNow s by rw [timed_eq], clearedCond_iff]
      exact hclear
    have hruled := ruled_leaves hm hv hleave hrules
    rw [hruled.frost]
    exact ⟨hstage.trans hst, rfl, hentry, hruled.events⟩

/-! ### In LOCK, in either mode and across a change of mode (R76, R81) -/

theorem normalRules_lock {hit : Bool} {p : Nat} (hs : f.stage = .lock) :
    normalRules e hit p f = lockRules e f.zeroCounts := by
  unfold normalRules
  rw [hs]

/-- R76: what an evaluation in LOCK makes of the record that the lock's rules find. -/
theorem ruled_locked (hst : s.frost.stage = .lock) :
    ∃ g ms, (∀ r, lockRules (frostEnv s) g = r → Ruled s r.1 (ms ++ r.2)) ∧ g.stage = .lock ∧ g.w = s.frost.w ∧
      g.s = s.frost.s ∧ g.allowance = s.frost.allowance ∧ g.release = s.frost.release ∧
      g.mode = (if s.seq.published.tExh.validity = .invalid then .degraded else .normal) ∧
      ms.flatMap FrostMark.events =
        if s.frost.mode = .normal ∧ s.seq.published.tExh.validity = .invalid then [.frostDegraded] else [] := by
  have hstage := (timed_stage s).trans hst
  have hmode := timed_mode s
  obtain ⟨-, hw, hs, -, hallow, hrelease⟩ := timed_keeps s
  by_cases hv : s.seq.published.tExh.validity = .invalid
  · simp only [hv, and_true, if_true]
    cases hm : s.frost.mode with
    | normal =>
      refine ⟨lost (timed s), [.degradedEntry], fun r hr => ?_, hstage, hw, hs, hallow, hrelease, rfl, rfl⟩
      exact ruled_enters hm hv (enterDegraded_lock hstage) ((degradedRules_lock (f := lost (timed s)) hstage).trans hr)
    | degraded =>
      refine ⟨timed s, [], fun r hr => ?_, hstage, hw, hs, hallow, hrelease, hmode.trans hm, rfl⟩
      exact ruled_degraded hm hv ((degradedRules_lock hstage).trans hr)
  · simp only [hv, and_false, if_false]
    cases hm : s.frost.mode with
    | normal =>
      refine ⟨shut s, [], fun r hr => ?_, hstage, hw, hs, hallow, hrelease, hmode.trans hm, rfl⟩
      exact ruled_normal hm hv ((normalRules_lock hstage).trans hr)
    | degraded =>
      refine ⟨({ timed s with mode := .normal } : FrostRecord).zeroCounts, [.degradedExit], fun r hr => ?_, hstage, hw, hs, hallow,
        hrelease, rfl, rfl⟩
      exact ruled_leaves hm hv (leaveDegraded_lock hstage)
        ((normalRules_lock (f := { timed s with mode := .normal }) hstage).trans hr)

theorem evaluated_lock (hpower : s.power = .running) (hst : s.frost.stage = .lock) :
    (frostEvaluate s).1.frost.mode = (if s.seq.published.tExh.validity = .invalid then .degraded else .normal) ∧
      ∀ warm : Prop, (warm ↔ s.seq.published.tOut.validity ≠ .invalid ∧ 30 ≤ s.seq.published.tOut.value) →
        (¬warm → (frostEvaluate s).1.frost.release = 0) ∧
        (warm → s.frost.release < 599 → (frostEvaluate s).1.frost.release = s.frost.release + 1) ∧
        (¬warm ∨ s.frost.release < 599 → (frostEvaluate s).1.frost.stage = .lock ∧
          (frostEvaluate s).1.frost.w = s.frost.w ∧ (frostEvaluate s).1.frost.s = s.frost.s ∧
          (frostEvaluate s).1.frost.allowance = s.frost.allowance ∧ (frostEvaluate s).1.events =
            if s.frost.mode = .normal ∧ (frostEvaluate s).1.frost.mode = .degraded then
              s.events ||| Event.frostDegraded.bit else s.events) ∧
        (warm → 599 ≤ s.frost.release → exec .lockRelease s = .next (frostEvaluate s).1 ∧
          (frostEvaluate s).1.frost.stage = .defrost ∧ (frostEvaluate s).1.frost.wEntry = 2 ∧
          (frostEvaluate s).1.frost.w = 0 ∧ (frostEvaluate s).1.frost.timer = 0 ∧
          (frostEvaluate s).1.frost.allowance = s.settings.aDefrost ∧
          (frostEvaluate s).1.hasEvent .defrostStarted = true ∧ HandedOn s (frostEvaluate s).1) := by
  obtain ⟨g, ms, hlock, hstage, hw, hs, hallow, hrelease, hmode, hevents⟩ := ruled_locked hst
  have hmode' : (frostEvaluate s).1.frost.mode = if s.seq.published.tExh.validity = .invalid then .degraded else .normal := by
    rw [(hlock _ rfl).frost]
    exact (rulesKeep_lockRules _ g).2.1.trans hmode
  have hdegraded : (frostEvaluate s).1.frost.mode = .degraded ↔ s.seq.published.tExh.validity = .invalid := by
    rw [hmode']
    split <;> simp_all
  have hstays : ∀ n, lockRules (frostEnv s) g = ({ g with release := n }, []) →
      (frostEvaluate s).1.frost.release = n ∧ (frostEvaluate s).1.frost.stage = .lock ∧
        (frostEvaluate s).1.frost.w = s.frost.w ∧ (frostEvaluate s).1.frost.s = s.frost.s ∧
        (frostEvaluate s).1.frost.allowance = s.frost.allowance ∧ (frostEvaluate s).1.events =
          if s.frost.mode = .normal ∧ (frostEvaluate s).1.frost.mode = .degraded then
            s.events ||| Event.frostDegraded.bit else s.events := by
    intro n hr
    have hruled := hlock _ hr
    have hset := hruled.events
    rw [List.append_nil, hevents] at hset
    simp only [← hdegraded] at hset
    refine ⟨by rw [hruled.frost], by rw [hruled.frost]; exact hstage, by rw [hruled.frost]; exact hw,
      by rw [hruled.frost]; exact hs, by rw [hruled.frost]; exact hallow, hset.trans ?_⟩
    split <;> rfl
  refine ⟨hmode', fun warm hwarm => ⟨fun hno => ?_, fun hyes hn => ?_, fun h => ?_, fun hyes hn => ?_⟩⟩
  · exact (hstays 0 (lockRules_stays (mt hwarm.mpr hno))).1
  · exact ((hstays _ (lockRules_counts (hwarm.mp hyes) (by rw [hrelease]; exact hn))).1).trans (by rw [hrelease])
  · by_cases hyes : warm
    · exact (hstays _ (lockRules_counts (hwarm.mp hyes) (by rw [hrelease]; exact h.resolve_left (not_not.mpr hyes)))).2
    · exact (hstays 0 (lockRules_stays (mt hwarm.mpr hyes))).2
  · have hruled := hlock _ (lockRules_releases (hwarm.mp hyes) (by rw [hrelease]; exact hn))
    have hmark : FrostMark.lockRelease ∈ ms ++ [FrostMark.lockRelease] := List.mem_append_right _ List.mem_cons_self
    have hexec := hruled.marked (c := .lockRelease) hmark hpower rfl
    have hevent := hruled.hasEvent (v := .defrostStarted) hmark (List.mem_singleton_self _)
    have hhanded := hruled.handedOn (Or.inl (by rw [hst]; exact nofun))
    rw [hruled.frost]
    exact ⟨hexec, rfl, rfl, rfl, rfl, rfl, hevent, hhanded⟩

/-! ### The evaluation as a whole -/

/-- R74: a defrost that is cleared. -/
theorem evaluated_cleared (hG : GuardsNormally s) (hst : s.frost.stage = .defrost) (hc : Cleared s) :
    (frostEvaluate s).1.frost.stage = .recover ∧ (frostEvaluate s).1.frost.s = max (s.frost.wEntry / 2) 2 ∧
      (frostEvaluate s).1.frost.w = 2 ∧ (frostEvaluate s).1.frost.allowance = s.settings.aNormal ∧
      (frostEvaluate s).1.events = s.events ||| Event.defrostEnded.bit := by
  obtain ⟨-, -, -, -, hentry, -⟩ := shut_keeps s
  have hruled := ruled_defrost hG hst (defrostRules_clears ((shut_cleared s).mpr hc))
  rw [hruled.frost]
  refine ⟨rfl, ?_, rfl, rfl, hruled.events⟩
  show max ((shut s).wEntry / 2) 2 = _
  rw [hentry]

/-- R74, R75: DEFROST and HOLD go on. -/
theorem evaluated_shut_goesOn (hG : GuardsNormally s)
    (h : (s.frost.stage = .defrost ∧ ¬ Cleared s ∧ s.frost.timer < 599) ∨
      (s.frost.stage = .hold ∧ min (s.frost.timer + 1) 65535 ≠ s.frost.holdInterval)) :
    StageGoesOn s (frostEvaluate s).1 := by
  obtain ⟨hstage, htimer, hw, hs, hentry, hallow, -, hinterval, -, -⟩ := shut_keeps s
  have hkeeps := And.intro hstage (And.intro htimer (And.intro hw (And.intro hs (And.intro hentry hallow))))
  obtain ⟨hst, hclear, hn⟩ | ⟨hst, hn⟩ := h
  · exact (ruled_defrost hG hst (defrostRules_waits (mt (shut_cleared s).mp hclear) (by rw [htimer]; omega))).goesOn rfl hkeeps
  · exact (ruled_hold hG hst (holdRules_waits (by rw [htimer, hinterval]; exact hn))).goesOn rfl hkeeps

end Degraded

/-- R64, R65: the formulas of the guard temperature, the resistance and the ratio. -/
theorem resistanceNow_eq (s : State) : resistanceNow s =
    if 200 ≤ s.fans.extract.qMeas ∧ s.fans.extract.loop = .closed ∧ s.seq.published.dpXe.validity = .valid then
      some ((s.seq.published.dpXe.filtered.getD 0).toNat * 65536 / (s.fans.extract.qMeas * s.fans.extract.qMeas))
    else none := rfl

theorem ratioNow_some {s : State} {r r0 : Nat} (hr : resistanceNow s = some r) (h0 : s.frost.rx0 = some r0) :
    ratioNow s = some (min (r * 100 / r0) 65534) := by
  unfold ratioNow ratioOf
  rw [hr, h0]

theorem ratioNow_none {s : State} (h : resistanceNow s = none ∨ s.frost.rx0 = none) : ratioNow s = none := by
  unfold ratioNow ratioOf
  obtain h | h := h
  · rw [h]
  · rw [h]
    cases resistanceNow s <;> rfl

/-- Settles O26. -/
theorem frostEvaluationChanges : Obligations.FrostEvaluationChanges := by
  unfold Obligations.FrostEvaluationChanges
  rintro s hpower f rfl t rfl p rfl ext rfl
  obtain ⟨htg, hratio, hblock, hwindow, houtput⟩ := evaluated_output s
  obtain ⟨g, ms, hruled, -, -, hmode⟩ := evaluated_carries s
  have hmode' : (frostEvaluate s).1.frost.mode = if s.seq.published.tExh.validity = .invalid then .degraded else .normal := by
    rw [hruled.frost]
    exact hmode
  refine ⟨⟨htg, hratio, ?_, resistanceNow_eq s, fun r r0 => ratioNow_some, ratioNow_none, hblock,
    fun holds hh => evaluated_preheat hh, hwindow, houtput⟩, ?_, evaluated_icing_shut, ?_, ?_, ?_, evaluated_shut_goesOn, ?_,
    evaluated_cleared, ?_, ?_, evaluated_lock hpower⟩
  · rintro h rfl
    rfl
  · intro qualifies hq
    have hq' : qualifies ↔ Qualifies s := hq
    obtain ⟨hidle, hbreaks, hcounts⟩ := evaluated_learns s
    exact ⟨hidle, fun hl hno => hbreaks hl (mt hq'.mpr hno), fun hl hyes => hcounts hl (hq'.mp hyes)⟩
  · intro hG hne
    have hruled := ruled_normal hG.2.1 hG.2.2 rfl
    rw [hruled.frost] at hne ⊢
    exact entersFresh_normalRules _ _ _ (timed s) (by rw [timed_stage]; exact hne)
  · intro hG hst
    have hruled := ruled_normal hG.2.1 hG.2.2 rfl
    rw [hruled.frost]
    exact normalRules_shut_counts (by rw [timed_stage]; exact hst)
  · intro hG hg hi hdc d hd
    exact evaluated_guard hG hg hi hdc hd
  · intro hm hv
    exact ⟨hmode'.trans (if_pos hv), evaluated_degraded hm hv⟩
  · intro hm hv
    obtain ⟨hevent, ⟨hi, hc, hd, hw, hx⟩, hguard, hshut⟩ := evaluated_enters hm hv
    exact ⟨hmode'.trans (if_pos hv), hevent, hi, hc, hd, hw, hx, hguard, hshut⟩
  · intro hm hv
    exact ⟨hmode'.trans (if_neg hv), evaluated_leaves hm hv⟩

end Sys2Proof.Proofs
end

section
/-! SUPPORT. Proofs: the degraded cycle, the learn and the preheater's rows; the frost requests. -/

namespace Sys2Proof.Proofs

open Sys2Proof Sys2Proof.Machine

/-! ### The degraded cycle (R81) -/

section Degraded

variable {s : State}

/-- R81: the timed defrost of the degraded cycle. -/
theorem degraded_timed_defrost (hpower : s.power = .running) (hm : s.frost.mode = .degraded)
    (hv : s.seq.published.tExh.validity = .invalid) (hst : s.frost.stage = .shed) (hc : OutsideCold s)
    (ht : 1799 ≤ s.frost.timer) : ∃ t, exec .degradedTimedDefrost s = .next t ∧
      t.frost.stage = .defrost ∧ t.frost.wEntry = 8 ∧ t.frost.w = 0 ∧ t.frost.timer = 0 ∧
      t.frost.allowance = s.settings.aDefrost ∧ t.events = s.events ||| Event.defrostStarted.bit ∧ HandedOn s t := by
  have htimer : (timed s).timer = min (s.frost.timer + 1) 65535 := rfl
  have hruled := ruled_degraded hm hv
    (degradedRules_shed_defrosts ((timed_stage s).trans hst) ((coldCondition_iff s).mpr hc) (by rw [htimer]; omega))
  refine ⟨_, hruled.marked (List.mem_singleton_self _) hpower rfl, ?_⟩
  rw [hruled.frost]
  exact ⟨rfl, rfl, rfl, rfl, rfl, hruled.events, hruled.handedOn (Or.inl (by rw [hst]; exact nofun))⟩

/-- R81: the end of a timed defrost. -/
theorem degraded_defrost_end (hpower : s.power = .running) (hm : s.frost.mode = .degraded)
    (hv : s.seq.published.tExh.validity = .invalid) (hst : s.frost.stage = .defrost) (ht : 299 ≤ s.frost.timer) :
    ∃ t, exec .degradedDefrostEnd s = .next t ∧ HandedOn s t ∧
      (OutsideCold s → t.frost.stage = .shed ∧ t.frost.w = 8 ∧ t.frost.s = 8 ∧ t.frost.timer = 0 ∧
        t.frost.allowance = s.settings.aShed ∧ t.events = s.events ||| Event.defrostEnded.bit ||| Event.frostShed.bit) ∧
      (¬OutsideCold s → t.frost.stage = .idle ∧ t.frost.w = 16 ∧ t.frost.s = 16 ∧
        t.frost.allowance = s.settings.aNormal ∧ t.events = s.events ||| Event.defrostEnded.bit) := by
  have htimer : (timed s).timer = min (s.frost.timer + 1) 65535 := rfl
  have hstage := (timed_stage s).trans hst
  by_cases hc : OutsideCold s
  · have hrule := degradedRules_defrost_sheds hstage ((coldCondition_iff s).mpr hc) (by rw [htimer]; omega)
    rw [degradedShed_enters (by rw [hstage]; exact nofun)] at hrule
    have hruled := ruled_degraded hm hv hrule
    refine ⟨_, hruled.marked List.mem_cons_self hpower rfl,
      hruled.handedOn (Or.inl (by rw [hst]; exact nofun)), fun _ => ?_, fun h => absurd hc h⟩
    rw [hruled.frost]
    exact ⟨rfl, rfl, rfl, rfl, rfl, hruled.events⟩
  · have hrule := degradedRules_defrost_idles hstage (mt (coldCondition_iff s).mp hc) (by rw [htimer]; omega)
    rw [degradedIdle_enters (by rw [hstage]; exact nofun)] at hrule
    have hruled := ruled_degraded hm hv hrule
    refine ⟨_, hruled.marked List.mem_cons_self hpower rfl,
      hruled.handedOn (Or.inl (by rw [hst]; exact nofun)), fun h => absurd h hc, fun _ => ?_⟩
    rw [hruled.frost]
    exact ⟨rfl, rfl, rfl, rfl, hruled.events⟩

end Degraded

/-! ### An ask for a save, by the store that it meets (R168, R169) -/

section Saves

variable {s : State}

theorem askSave_closed (h : s.store.closed = true) : askSave s = s := if_pos h

theorem askSave_pends (hc : s.store.closed = false) (hw : s.store.writing.isSome = true) :
    askSave s = { s with store := { s.store with savePending := true } } :=
  (if_neg (by rw [hc]; exact nofun)).trans (if_pos hw)

theorem askSave_starts (hc : s.store.closed = false) (hw : s.store.writing = none) : askSave s = startSave s :=
  (if_neg (by rw [hc]; exact nofun)).trans (if_neg (by rw [hw]; exact nofun))

end Saves

/-! ### A learn completed (R67) -/

section Learn

variable {s : State}

/-- The state that an evaluation hands on, before a learn's ask for a save. -/
def handed (s : State) : State :=
  handFrost (evalFrost (frostEnv s) s.frost).1 ((evalFrost (frostEnv s) s.frost).2.flatMap FrostMark.events) s

theorem handed_frame (s : State) : handed s = { s with
    frost := (handed s).frost, fans := (handed s).fans, res := (handed s).res, events := (handed s).events } := by
  unfold handed
  rw [handFrost_eq]

theorem handed_frost (s : State) : (handed s).frost = (frostEvaluate s).1.frost := by
  unfold handed
  rw [frostEvaluate_frost, handFrost_eq]

theorem frostEvaluate_saves (h : FrostMark.learnComplete ∈ (frostEvaluate s).2) : (frostEvaluate s).1 = askSave (handed s) :=
  if_pos (List.contains_iff_mem.mpr h)

theorem frostEvaluate_keeps_store (h : FrostMark.learnComplete ∉ (frostEvaluate s).2) : (frostEvaluate s).1 = handed s :=
  if_neg (mt List.contains_iff_mem.mp h)

theorem evaluated_completes {r : Nat} (hr : resistanceNow s = some r) (h1 : 1 ≤ r)
    (hv : s.seq.published.tOut.validity = .valid) (ht : 50 ≤ s.seq.published.tOut.value)
    (hsteady : s.fans.extract.state = .steady) (hi : s.frost.stage = .idle) (hn : 15 ≤ s.frost.learnCount)
    (hl : s.frost.learnActive = true ∨ s.frost.rx0 = none) :
    FrostMark.learnComplete ∈ (frostEvaluate s).2 ∧
      (frostEvaluate s).1.frost.rx0 = some ((s.frost.learnSum + r) / 16) ∧ (frostEvaluate s).1.frost.learnActive = false ∧
      (frostEvaluate s).1.frost.learnCount = 0 ∧ (frostEvaluate s).1.frost.learnSum = 0 ∧
      (frostEvaluate s).1.frost.icing = 0 := by
  have hlearn : learnAfter (learnScan (frostEnv s) s.frost (resistanceNow s)) (rationed s) =
      ({ rationed s with
        rx0 := some (((rationed s).learnSum + r) / 16), learnActive := false, learnCount := 0, learnSum := 0, icing := 0 },
        [.learnComplete]) := by
    rw [learnScan_some (e := frostEnv s) hr h1 hv ht hsteady hi]
    exact learnAfter_completes hl hn
  obtain ⟨g, ms, hruled, -, hicing, -⟩ := evaluated_carries s
  obtain ⟨hactive, hrx, hcount, hsum⟩ := evaluated_learn s
  have hzero : (timed s).icing = 0 := congrArg (fun x => x.1.icing) hlearn
  rw [hactive, hrx, hcount, hsum, rated_learn, hlearn, hruled.frost, hruled.marks, hlearn]
  exact ⟨List.mem_cons_self, rfl, rfl, rfl, rfl, hicing.elim (·.trans hzero) id⟩

end Learn

/-! ### The overtemperature block's end (R85) -/

theorem evaluated_unblocks {s : State} (hb : s.frost.block = 1)
    (hv : s.seq.published.tPre.validity ≠ .valid ∨ s.seq.published.tPre.value < 150) :
    FrostMark.blockEnd ∈ (frostEvaluate s).2 ∧ (frostEvaluate s).1.frost.block = 0 := by
  obtain ⟨g, ms, hruled, hcarried, -⟩ := evaluated_carries s
  have hblock : g.block = 1 := by
    simp only [carried, Prod.mk.injEq] at hcarried
    obtain ⟨-, -, -, -, -, -, hsame, -⟩ := hcarried
    rw [hsame, timed_eq]
    exact hb
  have hafter : blockAfter (frostEnv s).chans.tPre g.block = 0 := by
    unfold blockAfter
    rw [hblock]
    refine if_neg ?_
    rintro ⟨hvalid, hwarm⟩
    exact hv.elim (absurd hvalid) (fun h => absurd h (Int.not_lt.mpr hwarm))
  rw [hruled.marks, frostEvaluate_frost, hruled.record]
  refine ⟨List.mem_append_right _ ?_, hafter⟩
  unfold preheatStep
  rw [hafter, hblock]
  exact List.mem_singleton_self _

/-- Settles O27. -/
theorem degradedLearnAndPreheatRows : Obligations.DegradedLearnAndPreheatRows := by
  unfold Obligations.DegradedLearnAndPreheatRows
  rintro s hpower f rfl
  refine ⟨fun hm hv => ⟨degraded_timed_defrost hpower hm hv, degraded_defrost_end hpower hm hv⟩,
    fun r hr h1 hv ht hsteady hi hn hl => ?_, fun hb hv => ?_, congrArg Host.Outcome.next (whenRunning_on hpower),
    fun ho hd => ?_⟩
  · obtain ⟨hmark, hrx, hactive, hcount, hsum, hicing⟩ := evaluated_completes hr h1 hv ht hsteady hi hn hl
    have hexec : exec .exchangerLearnComplete s = .next (whenRunning (whenMarked .learnComplete frostEvaluate) s) := rfl
    rw [whenRunning_on hpower, whenMarked_on hmark] at hexec
    refine ⟨_, hexec, hrx, hactive, hcount, hsum, hicing, fun hc hw => ?_, fun hc hw => ?_⟩
    · have hstart : askSave (handed s) = startSave (handed s) := askSave_starts (by rw [handed_frame]; exact hc)
        (by rw [handed_frame]; exact hw)
      rw [← hrx, ← handed_frost, frostEvaluate_saves hmark, hstart]
      rfl
    · have hpend := askSave_pends (s := handed s) (by rw [handed_frame]; exact hc) (by rw [handed_frame]; exact hw)
      rw [frostEvaluate_saves hmark, hpend]
  · obtain ⟨hmark, hblock⟩ := evaluated_unblocks hb hv
    have hexec : exec .overtempBlockEnd s = .next (whenRunning (whenMarked .blockEnd frostEvaluate) s) := rfl
    rw [whenRunning_on hpower, whenMarked_on hmark] at hexec
    exact ⟨_, hexec, hblock⟩
  · have hexec : exec .preheatOnTimeEnd s = .next (whenRunning endOnTime s) := rfl
    rw [hexec, whenRunning_on hpower]
    exact congrArg Host.Outcome.next (if_pos ⟨ho, hd⟩)

/-! ### The frost requests (R68, R77, R78) -/

theorem setDuty_zero (f : FrostRecord) : f.setDuty 0 = { f with duty := 0, output := false } := by
  unfold FrostRecord.setDuty
  rw [Nat.zero_mul, decide_eq_false (Nat.not_lt_zero _), Bool.and_false]

/-- R77, R78: a defrost that a request enters. -/
theorem requestDefrost_enters {h : State} {w : Nat} (hs : h.frost.stage ≠ .defrost) :
    requestDefrost w h = { h with
      frost := { h.frost with
        stage := .defrost, wEntry := w, w := 0, timer := 0, icing := 0, cold := 0, deepCold := 0, warm := 0
        watchExit := 0, allowance := h.settings.aDefrost, duty := 0, output := false }
      fans := (requestDefrost w h).fans, res := (requestDefrost w h).res
      events := h.events ||| Event.defrostStarted.bit } ∧
      (∀ st, (requestDefrost w h).fans.get st =
        { h.fans.get st with qTarget := ((requestDefrost w h).fans.get st).qTarget }) ∧ HandedOn h (requestDefrost w h) := by
  have hhand := handFrost_changed ((h.frost.enterDefrost h.settings w).setDuty 0) [.defrostStarted] h (Or.inl hs.symm)
  refine ⟨?_, fun st => ?_, hhand⟩
  · unfold requestDefrost
    rw [handFrost_eq, setDuty_zero]
    rfl
  · unfold requestDefrost handFrost resolveIf
    rw [raiseAll_eq]
    split
    · cases st <;> rfl
    · rfl

theorem ownForceDefrost_defrosts {h : State}
    (hs : h.frost.stage ≠ .defrost ∧ h.frost.stage ≠ .hold ∧ h.frost.stage ≠ .lock) :
    ownerOf .forceDefrost h = (.now .ok [], requestDefrost h.frost.w h) :=
  if_neg (by rintro (h | h | h) <;> tauto)

/-- Settles O28. -/
theorem frostRequests : Obligations.FrostRequests := by
  unfold Obligations.FrostRequests
  refine fun tag s => ⟨fun q w hacc h hh hq => ?_, fun q hacc h hh hq => ?_, ?_⟩
  · have hstage : h.frost.stage ≠ .defrost := by
      obtain ⟨-, -, hd, -⟩ | ⟨-, -, hl⟩ := hq
      · exact hd
      · rw [hl]
        exact nofun
    have howner : ownerOf q h = (.now .ok [], requestDefrost w h) := by
      obtain ⟨rfl, rfl, hs⟩ | ⟨rfl, rfl, hl⟩ := hq
      · exact ownForceDefrost_defrosts hs
      · exact if_pos hl
    exact ⟨_, exec_heard_now hacc hh howner, requestDefrost_enters hstage⟩
  · obtain ⟨rfl, hs⟩ | ⟨rfl, hs⟩ := hq
    · exact exec_heard_now hacc hh (if_pos hs)
    · exact exec_heard_now hacc hh (if_neg hs)
  · rintro q rfl hacc h hh
    exact exec_heard_now hacc hh rfl

end Sys2Proof.Proofs
end

section
/-! SUPPORT. Proofs: what the rows of fans, frost guarding and filters may change (O35). -/

namespace Sys2Proof.Proofs

open Sys2Proof Sys2Proof.Machine

/-! ### Fan rows -/

/-- R21, R23, R32, R38: what a row of a fan may change. -/
def FanFrame (st : Stream) (s t : State) : Prop :=
  t = { s with
    fans := t.fans, res := t.res, events := t.events
    frost := { s.frost with duty := t.frost.duty, output := t.frost.output } } ∧
  t.fans.get (other st) = { s.fans.get (other st) with
    qTarget := (t.fans.get (other st)).qTarget, qCmd := (t.fans.get (other st)).qCmd } ∧
  (st = .supply → t.fans.extract.qCmd = s.fans.extract.qCmd) ∧
  (st = .extract → t.fans.supply.qCmd = if t.fans.extract.qCmd < s.fans.extract.qCmd then
    min s.fans.supply.qCmd t.fans.extract.qCmd else s.fans.supply.qCmd)

theorem fanFrame_rfl (st : Stream) (s : State) : FanFrame st s s :=
  ⟨rfl, rfl, fun _ => rfl, fun _ => (if_neg (Nat.lt_irrefl _)).symm⟩

theorem fanFrame_setFan {st : Stream} {f : FanRecord} {s : State} (hf : f.qCmd = (s.fans.get st).qCmd) :
    FanFrame st s (s.setFan st f) := by
  cases st with
  | supply => exact ⟨rfl, rfl, fun _ => rfl, nofun⟩
  | extract => exact ⟨rfl, rfl, nofun, fun _ => (if_neg (by change ¬ f.qCmd < _; rw [hf]; exact Nat.lt_irrefl _)).symm⟩

theorem fanFrame_handOn (st : Stream) (f : FanRecord) (es : List Event) (b : Bool) (s : State) :
    FanFrame st s (handOn st f es b s) := by
  obtain ⟨hother, hextract⟩ := handOn_other st f es b s
  refine ⟨?_, hother, hextract, ?_⟩
  · rw [handOn_eq]
  · rintro rfl
    have hfan : (handOn .extract f es b s).fans.extract.qCmd = f.qCmd :=
      (congrArg FanRecord.qCmd (handOn_fan .extract f es b s)).trans rfl
    rw [hfan]
    exact handOn_clips f es b s

theorem fanFrame_tachAbsence (st : Stream) (s : State) : FanFrame st s (tachAbsence st s) := by
  unfold tachAbsence
  dsimp only
  split_ifs
  · exact fanFrame_handOn ..
  · exact fanFrame_setFan rfl
  · exact fanFrame_rfl st s

theorem fanFrame_controlStep (st : Stream) (s : State) : FanFrame st s (controlStep st s).1 := by
  have hframe := controlStep_frame st s
  have hstep : (controlStep st s).1 = handOn st (worked st s).1 ((worked st s).2.flatMap FanMark.events)
      ((worked st s).2.contains .saturation) (formEstimate st (takeSpeed st s)) := congrArg Prod.fst (controlStep_eq st s)
  obtain ⟨-, hother, hextract, -⟩ := fanFrame_handOn st (worked st s).1 ((worked st s).2.flatMap FanMark.events)
    ((worked st s).2.contains .saturation) (formEstimate st (takeSpeed st s))
  rw [← hstep, estimated_eq] at hother hextract
  refine ⟨?_, ?_, ?_, ?_⟩
  · rw [hframe]
  · cases st <;> exact hother
  · rintro rfl
    exact hextract rfl
  · rintro rfl
    exact controlStep_clips s

/-! ### Frost rows -/

/-- R67: the rules of the mode and the stage complete no learn. -/
def NoLearn (ms : List FrostMark) : Prop := FrostMark.learnComplete ∉ ms

theorem noLearn_nil : NoLearn [] := nofun

section Rules

variable (e : FrostEnv) (f : FrostRecord)

theorem noLearn_lockRules : NoLearn (lockRules e f).2 := by
  unfold lockRules NoLearn
  dsimp only
  split <;> simp

theorem noLearn_shedEvent : NoLearn (shedEvent e.settings f).2 := by
  unfold shedEvent NoLearn
  split <;> simp

theorem noLearn_guardRules (hit : Bool) (p : Nat) (t : Int) : NoLearn (guardRules e hit p t f).2 := by
  have hshed := noLearn_shedEvent e f
  unfold guardRules
  split
  · unfold NoLearn
    split_ifs <;> simp
  · split_ifs
    case pos => unfold NoLearn; simp
    case pos => exact hshed
    case pos => unfold NoLearn; simp
    case pos => unfold NoLearn; simp
    case pos => unfold NoLearn; simp
    all_goals exact noLearn_nil

theorem noLearn_normalRules (hit : Bool) (p : Nat) : NoLearn (normalRules e hit p f).2 := by
  unfold normalRules
  dsimp only
  split
  · unfold defrostRules NoLearn
    split_ifs <;> simp
  · unfold holdRules NoLearn
    split_ifs <;> simp
  · exact noLearn_lockRules _ _
  · exact noLearn_guardRules _ _ _ _ _

theorem noLearn_degradedRules : NoLearn (degradedRules e f).2 := by
  have hlock := noLearn_lockRules e f
  unfold degradedRules
  unfold NoLearn at *
  split
  · split <;> simp
  · split_ifs <;> simp
  · split_ifs <;> simp
  · exact hlock
  · exact noLearn_nil

theorem noLearn_enterDegraded : NoLearn (enterDegraded e f).2 := by
  unfold enterDegraded NoLearn
  dsimp only
  split
  · simp
  · simp
  · simp
  · split_ifs <;> simp

theorem noLearn_leaveDegraded : NoLearn (leaveDegraded e f).2 := by
  unfold leaveDegraded NoLearn
  dsimp only
  split <;> simp

theorem noLearn_modeStep : NoLearn (modeStepFrost e f).2 := by
  unfold modeStepFrost
  dsimp only
  split
  · split
    · exact noLearn_enterDegraded _ _
    · exact noLearn_nil
  · split
    · exact noLearn_nil
    · exact noLearn_leaveDegraded _ _

end Rules

/-- R67: an evaluation completes a learn only where its learn step does. -/
theorem evaluated_mark {s : State} (h : FrostMark.learnComplete ∈ (frostEvaluate s).2) :
    (s.frost.learnActive = true ∨ s.frost.rx0 = none) ∧ 15 ≤ s.frost.learnCount ∧
      (frostEvaluate s).1.frost.rx0.isSome = true ∧ (frostEvaluate s).1.frost.learnActive = false ∧
      (frostEvaluate s).1.frost.learnCount = 0 := by
  have hmode := noLearn_modeStep (frostEnv s) (rated s)
  have hrule : NoLearn (ruleStep s (modeStepFrost (frostEnv s) (rated s)).1).2 := by
    unfold ruleStep stageRules
    split
    · exact noLearn_normalRules _ _ _ _
    · exact noLearn_degradedRules _ _
  have hblock : NoLearn (preheatStep (frostEnv s) (ruleStep s (modeStepFrost (frostEnv s) (rated s)).1).1).2 := by
    unfold preheatStep NoLearn
    dsimp only
    split <;> simp
  have hlearn : FrostMark.learnComplete ∈
      (learnAfter (learnScan (frostEnv s) s.frost (resistanceNow s)) (rationed s)).2 := by
    rw [(ruled_rules s).marks] at h
    obtain h | h := List.mem_append.mp h
    · obtain h | h := List.mem_append.mp h
      · exact h
      · exact absurd h (List.mem_append.not.mpr (not_or.mpr ⟨hmode, hrule⟩))
    · exact absurd h hblock
  obtain ⟨hl, hn, r, hr⟩ := learnAfter_mark hlearn
  obtain ⟨hactive, hrx, hcount, -⟩ := evaluated_learn s
  rw [hactive, hrx, hcount, rated_learn, hr, learnAfter_completes hl hn]
  exact ⟨hl, hn, rfl, rfl, rfl⟩

/-- R63, R67, R83: what a row of frost guarding may change. -/
def FrostFrame (s t : State) : Prop :=
  t = { s with frost := t.frost, fans := t.fans, res := t.res, events := t.events, store := t.store } ∧
  (∀ st, t.fans.get st = { s.fans.get st with qTarget := (t.fans.get st).qTarget }) ∧
  (t.store = s.store ∨ ((s.frost.learnActive = true ∨ s.frost.rx0 = none) ∧ 15 ≤ s.frost.learnCount ∧
    t.frost.rx0.isSome = true ∧ t.frost.learnActive = false ∧ t.frost.learnCount = 0 ∧ s.store.closed = false ∧
    exec .exchangerLearnComplete s = .next t ∧
    t = askSave { s with frost := t.frost, fans := t.fans, res := t.res, events := t.events }))

theorem frostFrame_setFrost (f : FrostRecord) (s : State) : FrostFrame s (s.setFrost f) :=
  ⟨rfl, fun _ => rfl, Or.inl rfl⟩

theorem frostFrame_evaluate {s : State} (hpower : s.power = .running) : FrostFrame s (frostEvaluate s).1 := by
  refine ⟨frostEvaluate_eq s, frostEvaluate_fan s, ?_⟩
  by_cases hmark : FrostMark.learnComplete ∈ (frostEvaluate s).2
  · have hsave := frostEvaluate_saves hmark
    cases hc : s.store.closed with
    | true =>
      refine Or.inl ?_
      rw [hsave, askSave_closed (by rw [handed_frame]; exact hc), handed_frame]
    | false =>
      obtain ⟨hl, hn, hrx, hactive, hcount⟩ := evaluated_mark hmark
      have hexec : exec .exchangerLearnComplete s = .next (whenRunning (whenMarked .learnComplete frostEvaluate) s) := rfl
      rw [whenRunning_on hpower, whenMarked_on hmark] at hexec
      refine Or.inr ⟨hl, hn, hrx, hactive, hcount, rfl, hexec, ?_⟩
      have hhanded : handed s = { s with
          frost := (frostEvaluate s).1.frost, fans := (frostEvaluate s).1.fans, res := (frostEvaluate s).1.res
          events := (frostEvaluate s).1.events } := by
        rw [hsave, askSave_eq]
        exact handed_frame s
      rw [← hhanded]
      exact hsave
  · refine Or.inl ?_
    rw [frostEvaluate_keeps_store hmark, handed_frame]

theorem frostFrame_endOnTime (s : State) : FrostFrame s (endOnTime s) := by
  unfold endOnTime
  split <;> exact frostFrame_setFrost _ s

/-! ### Filter rows -/

/-- R89, R95, R97: what a row of a filter may change. -/
def FilterFrame (st : Stream) (s t : State) : Prop :=
  t = { s with filters := t.filters, fans := t.fans, res := t.res, events := t.events, store := t.store } ∧
  t.filters.get (other st) = s.filters.get (other st) ∧
  ∀ st', t.fans.get st' = { s.fans.get st' with qTarget := (t.fans.get st').qTarget }

section Filters

variable {st : Stream} {s t u : State}

theorem filterFrame_rfl (st : Stream) (s : State) : FilterFrame st s s := ⟨rfl, rfl, fun _ => rfl⟩

theorem FilterFrame.trans (h : FilterFrame st s t) (h' : FilterFrame st t u) : FilterFrame st s u := by
  obtain ⟨heq, hother, hfans⟩ := h
  obtain ⟨heq', hother', hfans'⟩ := h'
  refine ⟨?_, hother'.trans hother, fun st' => ?_⟩
  · rw [heq] at heq'
    exact heq'
  · rw [hfans', hfans]

theorem filterFrame_setFilter (st : Stream) (f : FilterRecord) (s : State) : FilterFrame st s (s.setFilter st f) := by
  cases st <;> exact ⟨rfl, rfl, fun _ => rfl⟩

theorem filterFrame_resolve (st : Stream) (s : State) : FilterFrame st s (resolve s) :=
  ⟨rfl, rfl, fun st' => by cases st' <;> rfl⟩

theorem filterFrame_raiseAll (es : List Event) (st : Stream) (s : State) : FilterFrame st s (raiseAll es s) := by
  rw [raiseAll_eq]
  exact ⟨rfl, rfl, fun _ => rfl⟩

theorem filterFrame_askSave (st : Stream) (s : State) : FilterFrame st s (askSave s) := by
  rw [askSave_eq]
  exact ⟨rfl, rfl, fun _ => rfl⟩

theorem filterFrame_formCeiling (st : Stream) (s : State) : FilterFrame st s (formCeiling st s) := by
  unfold formCeiling
  dsimp only
  split
  · exact filterFrame_rfl st s
  · exact (filterFrame_setFilter ..).trans (filterFrame_resolve ..)

theorem filterFrame_checkSteps (st : Stream) (s : State) : FilterFrame st s (checkSteps st s) := by
  unfold checkSteps
  split
  · exact (((filterFrame_setFilter ..).trans (filterFrame_raiseAll ..)).trans (filterFrame_formCeiling ..)).trans
      (filterFrame_askSave ..)
  · exact filterFrame_rfl st s

theorem filterFrame_learned (b : Bool) (st : Stream) (s : State) : FilterFrame st s (learned b s) := by
  cases b with
  | false => exact filterFrame_rfl st s
  | true => exact FilterFrame.trans (t := raise .filterLearned s) ⟨rfl, rfl, fun _ => rfl⟩ (filterFrame_askSave ..)

theorem filterFrame_filterSample (st : Stream) (s : State) : FilterFrame st s (filterSample st s).1 :=
  (((filterFrame_setFilter ..).trans (filterFrame_learned ..)).trans (filterFrame_checkSteps ..)).trans
    (filterFrame_formCeiling ..)

theorem filterFrame_doseStep (st : Stream) (s : State) : FilterFrame st s (doseStep st s).1 := by
  unfold doseStep
  dsimp only
  split
  · exact (filterFrame_setFilter ..).trans (filterFrame_checkSteps ..)
  · exact filterFrame_setFilter ..

theorem filterFrame_hourStep (st : Stream) (s : State) : FilterFrame st s (hourStep st s).1 := by
  unfold hourStep
  dsimp only
  split
  · exact (filterFrame_setFilter ..).trans (filterFrame_checkSteps ..)
  · exact filterFrame_setFilter ..

theorem filterFrame_accumulate (st : Stream) (s : State) : FilterFrame st s (accumulate st s).1 :=
  (filterFrame_doseStep st s).trans (filterFrame_hourStep st _)

end Filters

/-- Settles O35. -/
theorem fanFrostAndFilterFrames : Obligations.FanFrostAndFilterFrames := by
  unfold Obligations.FanFrostAndFilterFrames
  refine ⟨fun st s t c hc h => ?_, fun s t c hc h => ?_, fun st s t c hc h => ?_⟩
  · have hrun : ∀ f : State → State, FanFrame st s (f s) → exec c s = .next (whenRunning f s) → FanFrame st s t := by
      intro f hf hexec
      obtain rfl := Host.Outcome.next.inj (hexec.symm.trans h)
      exact whenRunning_keeps (fanFrame_rfl st s) fun _ => hf
    have hmark := fun m => whenMarked_keeps (m := m) (fanFrame_rfl st s) (fanFrame_controlStep st s)
    simp only [List.mem_cons, List.not_mem_nil, or_false] at hc
    obtain rfl | rfl | rfl | rfl | rfl | rfl | rfl | rfl := hc
    · exact hrun _ (fanFrame_controlStep st s) rfl
    · exact hrun _ (hmark _) rfl
    · exact hrun _ (hmark _) rfl
    · exact hrun _ (hmark _) rfl
    · exact hrun _ (hmark _) rfl
    · exact hrun _ (hmark _) rfl
    · exact hrun _ (hmark _) rfl
    · exact hrun _ (fanFrame_tachAbsence st s) rfl
  · have hrfl : FrostFrame s s := ⟨rfl, fun _ => rfl, Or.inl rfl⟩
    have hrun : ∀ f : State → State, (s.power = .running → FrostFrame s (f s)) → exec c s = .next (whenRunning f s) →
        FrostFrame s t := by
      intro f hf hexec
      obtain rfl := Host.Outcome.next.inj (hexec.symm.trans h)
      exact whenRunning_keeps hrfl hf
    have hmark := fun m hpower => whenMarked_keeps (m := m) hrfl (frostFrame_evaluate hpower)
    simp only [List.mem_cons, List.not_mem_nil, or_false] at hc
    obtain rfl | rfl | rfl | rfl | rfl | rfl | rfl | rfl | rfl | rfl | rfl | rfl | rfl | rfl | rfl := hc
    · exact hrun _ (hmark _) rfl
    · refine hrun shedMarked (fun hpower => ?_) rfl
      unfold shedMarked
      split
      · exact frostFrame_evaluate hpower
      · exact hrfl
    · exact hrun _ (hmark _) rfl
    · exact hrun _ (hmark _) rfl
    · exact hrun _ (hmark _) rfl
    · exact hrun _ (hmark _) rfl
    · exact hrun _ (hmark _) rfl
    · exact hrun _ (hmark _) rfl
    · exact hrun _ (hmark _) rfl
    · exact hrun _ (hmark _) rfl
    · exact hrun _ (hmark _) rfl
    · exact hrun _ (hmark _) rfl
    · exact hrun _ (hmark _) rfl
    · exact hrun _ (fun _ => frostFrame_setFrost _ s) rfl
    · exact hrun _ (fun _ => frostFrame_endOnTime s) rfl
  · have hrun : ∀ f : State → State, FilterFrame st s (f s) → exec c s = .next (whenRunning f s) → FilterFrame st s t := by
      intro f hf hexec
      obtain rfl := Host.Outcome.next.inj (hexec.symm.trans h)
      exact whenRunning_keeps (filterFrame_rfl st s) fun _ => hf
    simp only [List.mem_cons, List.not_mem_nil, or_false] at hc
    obtain rfl | rfl | rfl | rfl | rfl := hc
    · exact hrun _ (filterFrame_filterSample st s) rfl
    · exact hrun _ (whenMarked_keeps (filterFrame_rfl st s) (filterFrame_filterSample st s)) rfl
    · exact hrun _ (filterFrame_accumulate st s) rfl
    · exact hrun _ (whenMarked_keeps (filterFrame_rfl st s) (filterFrame_accumulate st s)) rfl
    · exact hrun _ (whenMarked_keeps (filterFrame_rfl st s) (filterFrame_accumulate st s)) rfl

end Sys2Proof.Proofs
end

section
/-! SUPPORT. Proofs: a filter's state steps and its ceiling, said once (R97, R99). -/

namespace Sys2Proof.Proofs

open Sys2Proof Sys2Proof.Machine

/-! ### The highest state whose condition holds (R97) -/

/-- R97: the state that a check leaves. -/
def stepTo (x : Settings) (f : FilterRecord) : FilterState := (stepOf x f).getD f.state

theorem highestState_mem {x : Settings} {f : FilterRecord} {y : FilterState} (h : highestState x f = some y) :
    y = .loaded ∨ y = .due ∨ y = .blocked := by
  unfold highestState at h
  split_ifs at h <;> cases h <;> simp

theorem stepOf_some {x : Settings} {f : FilterRecord} {y : FilterState} (h : stepOf x f = some y) :
    (y = .loaded ∨ y = .due ∨ y = .blocked) ∧ 2 ≤ f.state.rank ∧ f.state.rank < y.rank := by
  unfold stepOf at h
  split at h
  next t ht =>
    split at h
    next hrank =>
      cases h
      exact ⟨highestState_mem ht, hrank⟩
    next => cases h
  next => cases h

theorem stepTo_of_some {x : Settings} {f : FilterRecord} {y : FilterState} (h : stepOf x f = some y) : stepTo x f = y := by
  unfold stepTo
  rw [h]
  rfl

theorem stepOf_none_of_stays {x : Settings} {f : FilterRecord} (h : stepTo x f = f.state) : stepOf x f = none := by
  cases hstep : stepOf x f with
  | none => rfl
  | some y =>
    obtain ⟨-, -, hrank⟩ := stepOf_some hstep
    rw [← stepTo_of_some hstep, h] at hrank
    exact absurd hrank (Nat.lt_irrefl _)

theorem rank_le_stepTo (x : Settings) (f : FilterRecord) : f.state.rank ≤ (stepTo x f).rank := by
  cases hstep : stepOf x f with
  | none => unfold stepTo; rw [hstep]; exact le_rfl
  | some y => rw [stepTo_of_some hstep]; exact (stepOf_some hstep).2.2.le

theorem rank_inj {x y : FilterState} (h : x.rank = y.rank) : x = y := by
  cases x <;> cases y <;> simp [FilterState.rank] at h ⊢

/-- The states below a rank of 2, which no check leaves. -/
theorem rank_lt_two_iff {x : FilterState} : x.rank < 2 ↔ x = .unknown ∨ x = .learning := by
  cases x <;> simp [FilterState.rank]

/-- R97: the state that a check leaves, read off the loading, the dose and the hours. -/
theorem stepTo_eq (x : Settings) (f : FilterRecord) :
    stepTo x f =
      if f.state = .unknown ∨ f.state = .learning ∨ f.state = .blocked then f.state
      else if 400 ≤ f.loading.getD 0 then .blocked
      else if f.state = .due ∨ 250 ≤ f.loading.getD 0 ∨ x.doseLimit ≤ f.dose ∨ x.hoursLimit ≤ f.hours then .due
      else if f.state = .loaded ∨ 150 ≤ f.loading.getD 0 then .loaded
      else .clean := by
  have hblocked : 400 ≤ f.loading.getD 0 → highestState x f = some .blocked := fun h => if_pos h
  have hdue : ¬ 400 ≤ f.loading.getD 0 → (250 ≤ f.loading.getD 0 ∨ x.doseLimit ≤ f.dose ∨ x.hoursLimit ≤ f.hours) →
      highestState x f = some .due := fun h h' => (if_neg h).trans (if_pos h')
  have hloaded : ¬ 400 ≤ f.loading.getD 0 → ¬ (250 ≤ f.loading.getD 0 ∨ x.doseLimit ≤ f.dose ∨ x.hoursLimit ≤ f.hours) →
      150 ≤ f.loading.getD 0 → highestState x f = some .loaded :=
    fun h h' h'' => (if_neg h).trans ((if_neg h').trans (if_pos h''))
  have hnone : ¬ 400 ≤ f.loading.getD 0 → ¬ (250 ≤ f.loading.getD 0 ∨ x.doseLimit ≤ f.dose ∨ x.hoursLimit ≤ f.hours) →
      ¬ 150 ≤ f.loading.getD 0 → highestState x f = none :=
    fun h h' h'' => (if_neg h).trans ((if_neg h').trans (if_neg h''))
  unfold stepTo stepOf
  by_cases h4 : 400 ≤ f.loading.getD 0
  · rw [hblocked h4]
    cases f.state <;> simp [FilterState.rank, h4]
  · by_cases h2 : 250 ≤ f.loading.getD 0 ∨ x.doseLimit ≤ f.dose ∨ x.hoursLimit ≤ f.hours
    · rw [hdue h4 h2]
      cases f.state <;> simp [FilterState.rank, h4, h2]
    · by_cases h1 : 150 ≤ f.loading.getD 0
      · rw [hloaded h4 h2 h1]
        cases f.state <;> simp [FilterState.rank, h4, h2, h1]
      · rw [hnone h4 h2 h1]
        cases f.state <;> simp [h4, h2, h1]

/-! ### The events of a step (R97) -/

/-- The flag that a step from one state to another sets. -/
def stepBit (x y : FilterState) : BitVec 30 :=
  if y = x then 0#30 else if y = .loaded then Event.filterLoaded.bit
  else if y = .due then Event.filterDue.bit else Event.filterBlocked.bit

@[simp] theorem stepBit_self (x : FilterState) : stepBit x x = 0#30 := if_pos rfl

theorem stepBit_of_step {x y : FilterState} (hy : y = .loaded ∨ y = .due ∨ y = .blocked) (hne : y ≠ x) (v : BitVec 30) :
    y.stepEvent.foldl (fun v e => v ||| e.bit) v = v ||| stepBit x y := by
  unfold stepBit
  rw [if_neg hne]
  obtain rfl | rfl | rfl := hy <;> rfl

/-! ### Saves that run -/

/-- A write runs, and the image is bad until it completes (R166). -/
def SaveRuns (s : State) : Prop := s.store.writing.isSome = true ∧ s.store.image = none

theorem saveRuns_askSave {s : State} (h : SaveRuns s) : SaveRuns (askSave s) := by
  obtain ⟨hw, hi⟩ := h
  cases hc : s.store.closed with
  | true => rw [askSave_closed hc]; exact ⟨hw, hi⟩
  | false => rw [askSave_pends hc hw]; exact ⟨hw, hi⟩

theorem saveRuns_of_askSave {s : State} (hc : s.store.closed = false) (hw : s.store.writing = none) : SaveRuns (askSave s) := by
  rw [askSave_starts hc hw]
  exact ⟨rfl, rfl⟩

/-! ### What the forming of a ceiling does to the resolution (R99) -/

/-- A filter's ceiling that changes starts one resolution, and one that stays leaves the targets and the record. -/
def CeilingMoves (st : Stream) (s t : State) : Prop :=
  ((t.filters.get st).ceiling = (s.filters.get st).ceiling → t.fans = s.fans ∧ t.res = s.res ∧ (Resolved s → Resolved t)) ∧
    ((t.filters.get st).ceiling ≠ (s.filters.get st).ceiling → HandedOn s t)

section Moves

variable {st : Stream} {s t u : State}

theorem ceilingMoves_rfl (st : Stream) (s : State) : CeilingMoves st s s := ⟨fun _ => ⟨rfl, rfl, id⟩, fun h => absurd rfl h⟩

/-- Of two moves in turn at most one changes the ceiling. -/
theorem CeilingMoves.trans (h : CeilingMoves st s t) (h' : CeilingMoves st t u)
    (hone : (t.filters.get st).ceiling = (s.filters.get st).ceiling ∨
      (u.filters.get st).ceiling = (t.filters.get st).ceiling) : CeilingMoves st s u := by
  obtain ⟨hsame, hmoves⟩ := h
  obtain ⟨hsame', hmoves'⟩ := h'
  refine ⟨fun hc => ?_, fun hc => ?_⟩
  · have hst : (t.filters.get st).ceiling = (s.filters.get st).ceiling := hone.elim id (fun h => h.symm.trans hc)
    obtain ⟨hfans, hres, hresolved⟩ := hsame hst
    obtain ⟨hfans', hres', hresolved'⟩ := hsame' (hc.trans hst.symm)
    exact ⟨hfans'.trans hfans, hres'.trans hres, hresolved' ∘ hresolved⟩
  · by_cases hst : (t.filters.get st).ceiling = (s.filters.get st).ceiling
    · obtain ⟨-, hres, -⟩ := hsame hst
      obtain ⟨hcount, hresolved⟩ := hmoves' (hst ▸ hc)
      exact ⟨by rw [hcount, hres], hresolved⟩
    · obtain ⟨-, hres, hresolved⟩ := hsame' (hone.resolve_left hst)
      obtain ⟨hcount, hresolved'⟩ := hmoves hst
      exact ⟨by rw [hres, hcount], hresolved hresolved'⟩

theorem capOf_setFilter {g : FilterRecord} (hg : g.ceiling = (s.filters.get st).ceiling) :
    capOf (s.setFilter st g) = capOf s := by
  funext st'
  unfold capOf
  by_cases he : st' = st
  · subst he
    simp [hg]
  · simp [PerStream.get_set_ne _ _ he]

/-- A resolution reads of the filters their ceilings alone. -/
theorem resolved_setFilter {g : FilterRecord} (hg : g.ceiling = (s.filters.get st).ceiling) (h : Resolved s) :
    Resolved (s.setFilter st g) := by
  have hcap := capOf_setFilter hg
  have hdemand : demandFlow (s.setFilter st g) = demandFlow s := rfl
  have hbefore : extractBefore (s.setFilter st g) = extractBefore s := by unfold extractBefore; rw [hcap, hdemand]
  have hsupply : supplyFlow (s.setFilter st g) = supplyFlow s := by unfold supplyFlow; rw [hbefore, hcap]; rfl
  have hextract : extractFlow (s.setFilter st g) = extractFlow s := by unfold extractFlow; rw [hbefore, hsupply]; rfl
  have htargets : targets (s.setFilter st g) = targets s := by unfold targets; rw [hextract, hsupply]; rfl
  have hcapReason : capReason (s.setFilter st g) = capReason s := by funext st'; unfold capReason; rw [hcap]; rfl
  have hpre : preReason (s.setFilter st g) = preReason s := by unfold preReason; rw [hbefore, hdemand, hcapReason]; rfl
  have hext : extReason (s.setFilter st g) = extReason s := by unfold extReason; rw [hextract, hbefore, hpre]; rfl
  have hsup : supReason (s.setFilter st g) = supReason s := by
    unfold supReason
    rw [hsupply, hextract, hbefore, hpre, hcap, hcapReason]
    rfl
  have hres : resolution (s.setFilter st g) = resolution s := by unfold resolution; rw [htargets, hext, hsup]; rfl
  unfold Resolved
  rw [htargets, hres]
  exact h

theorem ceilingMoves_setFilter {g : FilterRecord} (hg : g.ceiling = (s.filters.get st).ceiling) :
    CeilingMoves st s (s.setFilter st g) :=
  ⟨fun _ => ⟨rfl, rfl, resolved_setFilter hg⟩, fun h => absurd (by simpa using hg) h⟩

theorem ceilingMoves_raiseAll (es : List Event) (st : Stream) (s : State) : CeilingMoves st s (raiseAll es s) := by
  rw [raiseAll_eq]
  exact ⟨fun _ => ⟨rfl, rfl, id⟩, fun h => absurd rfl h⟩

theorem ceilingMoves_askSave (st : Stream) (s : State) : CeilingMoves st s (askSave s) := by
  rw [askSave_eq]
  exact ⟨fun _ => ⟨rfl, rfl, id⟩, fun h => absurd rfl h⟩

theorem askSave_filters (s : State) : (askSave s).filters = s.filters := by rw [askSave_eq]

theorem raiseAll_filters (es : List Event) (s : State) : (raiseAll es s).filters = s.filters := by rw [raiseAll_eq]

theorem formCeiling_stays (h : ceilingOf s.settings (s.filters.get st) = (s.filters.get st).ceiling) : formCeiling st s = s :=
  if_pos h

theorem formCeiling_changes (h : ceilingOf s.settings (s.filters.get st) ≠ (s.filters.get st).ceiling) :
    formCeiling st s =
      resolve (s.setFilter st { s.filters.get st with ceiling := ceilingOf s.settings (s.filters.get st) }) := if_neg h

theorem formCeiling_record (st : Stream) (s : State) :
    (formCeiling st s).filters.get st = { s.filters.get st with ceiling := ceilingOf s.settings (s.filters.get st) } := by
  rw [formCeiling_eq]
  exact PerStream.get_set _ _ _

theorem ceilingMoves_formCeiling (st : Stream) (s : State) : CeilingMoves st s (formCeiling st s) := by
  by_cases hc : ceilingOf s.settings (s.filters.get st) = (s.filters.get st).ceiling
  · rw [formCeiling_stays hc]
    exact ceilingMoves_rfl st s
  · rw [formCeiling_changes hc]
    refine ⟨fun h => absurd h ?_, fun _ => ⟨rfl, resolved_resolve _⟩⟩
    simpa using hc

end Moves

/-! ### The check of the steps (R97) -/

section Checks

variable {st : Stream} {s : State}

theorem checkSteps_stays (h : stepTo s.settings (s.filters.get st) = (s.filters.get st).state) : checkSteps st s = s := by
  unfold checkSteps
  rw [stepOf_none_of_stays h]

/-- A step that is made. -/
theorem checkSteps_steps (h : stepTo s.settings (s.filters.get st) ≠ (s.filters.get st).state) :
    ∃ y, stepTo s.settings (s.filters.get st) = y ∧ (y = .loaded ∨ y = .due ∨ y = .blocked) ∧
      checkSteps st s =
        askSave (formCeiling st (raiseAll y.stepEvent (s.setFilter st { s.filters.get st with state := y }))) := by
  cases hstep : stepOf s.settings (s.filters.get st) with
  | none => exact absurd (by unfold stepTo; rw [hstep]; rfl) h
  | some y =>
    refine ⟨y, stepTo_of_some hstep, (stepOf_some hstep).1, ?_⟩
    unfold checkSteps
    rw [hstep]

theorem checkSteps_record (st : Stream) (s : State) :
    (checkSteps st s).filters.get st = { s.filters.get st with
      state := stepTo s.settings (s.filters.get st)
      ceiling := if stepTo s.settings (s.filters.get st) = (s.filters.get st).state then (s.filters.get st).ceiling
        else ceilingOf s.settings { s.filters.get st with state := stepTo s.settings (s.filters.get st) } } := by
  by_cases h : stepTo s.settings (s.filters.get st) = (s.filters.get st).state
  · rw [checkSteps_stays h, if_pos h, h]
  · obtain ⟨y, hy, -, hcheck⟩ := checkSteps_steps h
    rw [hcheck, askSave_filters, formCeiling_record, if_neg h, hy, raiseAll_eq]
    simp

theorem formCeiling_events (st : Stream) (s : State) : (formCeiling st s).events = s.events := by rw [formCeiling_eq]

theorem askSave_events (s : State) : (askSave s).events = s.events := by rw [askSave_eq]

theorem checkSteps_events (st : Stream) (s : State) :
    (checkSteps st s).events =
      s.events ||| stepBit (s.filters.get st).state (stepTo s.settings (s.filters.get st)) := by
  by_cases h : stepTo s.settings (s.filters.get st) = (s.filters.get st).state
  · rw [checkSteps_stays h, h, stepBit_self, BitVec.or_zero]
  · obtain ⟨y, hy, hmem, hcheck⟩ := checkSteps_steps h
    rw [hcheck, askSave_events, formCeiling_events, raiseAll_eq, hy]
    exact stepBit_of_step hmem (hy ▸ h) _

theorem formCeiling_store (st : Stream) (s : State) : (formCeiling st s).store = s.store := by rw [formCeiling_eq]

theorem stepped_store (y : FilterState) :
    (formCeiling st (raiseAll y.stepEvent (s.setFilter st { s.filters.get st with state := y }))).store = s.store := by
  rw [formCeiling_store, raiseAll_eq]
  rfl

theorem saveRuns_checkSteps (st : Stream) (h : SaveRuns s) : SaveRuns (checkSteps st s) := by
  by_cases hs : stepTo s.settings (s.filters.get st) = (s.filters.get st).state
  · rw [checkSteps_stays hs]
    exact h
  · obtain ⟨y, -, -, hcheck⟩ := checkSteps_steps hs
    rw [hcheck]
    exact saveRuns_askSave (by unfold SaveRuns; rw [stepped_store]; exact h)

theorem saveRuns_of_step (h : stepTo s.settings (s.filters.get st) ≠ (s.filters.get st).state)
    (hc : s.store.closed = false) (hw : s.store.writing = none) : SaveRuns (checkSteps st s) := by
  obtain ⟨y, -, -, hcheck⟩ := checkSteps_steps h
  rw [hcheck]
  exact saveRuns_of_askSave (by rw [stepped_store]; exact hc) (by rw [stepped_store]; exact hw)

theorem ceilingMoves_checkSteps (st : Stream) (s : State) : CeilingMoves st s (checkSteps st s) := by
  by_cases h : stepTo s.settings (s.filters.get st) = (s.filters.get st).state
  · rw [checkSteps_stays h]
    exact ceilingMoves_rfl st s
  · obtain ⟨y, -, -, hcheck⟩ := checkSteps_steps h
    rw [hcheck]
    have hkept : (s.setFilter st { s.filters.get st with state := y }).filters.get st =
        { s.filters.get st with state := y } := PerStream.get_set _ _ _
    have hset : CeilingMoves st s (s.setFilter st { s.filters.get st with state := y }) := ceilingMoves_setFilter rfl
    refine (((hset.trans (ceilingMoves_raiseAll y.stepEvent st _) (Or.inl ?_)).trans
      (ceilingMoves_formCeiling st _) (Or.inl ?_)).trans (ceilingMoves_askSave st _) (Or.inr ?_))
    · rw [hkept]
    · rw [raiseAll_filters, hkept]
    · rw [askSave_filters]

theorem formCeiling_settings (st : Stream) (s : State) : (formCeiling st s).settings = s.settings := by rw [formCeiling_eq]

theorem checkSteps_settings (st : Stream) (s : State) : (checkSteps st s).settings = s.settings := by
  have h := (filterFrame_checkSteps st s).1
  rw [h]

end Checks

end Sys2Proof.Proofs
end

section
/-! SUPPORT. Proofs: samples, their steps and the accumulation of a filter (O31 to O33). -/

namespace Sys2Proof.Proofs

open Sys2Proof Sys2Proof.Machine

/-! ### A sample's judgement and its effect on the record (R90 to R94) -/

section Samples

variable {st : Stream} {s : State}

theorem filterPressure_eq (st : Stream) (p : PerChannel ChannelRecord) :
    filterPressure p st = if st = .supply then p.dpFs else p.dpFe := by cases st <;> rfl

/-- R90: the judgement, in the order of its conditions. -/
theorem judgeSample_outcome (fan : FanRecord) (dp : ChannelRecord) (stage : FrostStage) :
    (judgeSample fan dp stage).1 =
      if fan.state ≠ .steady then .fanNotSteady
      else if fan.loop ≠ .closed then .openLoop
      else if fan.qMeas < 200 then .lowFlow
      else if dp.validity ≠ .valid then .channelNotValid
      else if stage = .defrost ∨ stage = .hold ∨ stage = .lock then .frost
      else if resistanceOf (dp.filtered.getD 0).toNat fan.qMeas = 0 then .zeroResistance
      else .valid := by
  unfold judgeSample
  dsimp only
  split_ifs <;> rfl

theorem judgeSample_valid {fan : FanRecord} {dp : ChannelRecord} {stage : FrostStage}
    (h : (judgeSample fan dp stage).1 = .valid) :
    (judgeSample fan dp stage).2 = resistanceOf (dp.filtered.getD 0).toNat fan.qMeas := by
  unfold judgeSample at *
  dsimp only at *
  split_ifs at *
  rfl

variable {j : SampleOutcome × Nat} {f : FilterRecord}

theorem sampleRecord_invalid (h : j.1 ≠ .valid) : sampleRecord j f = { f with lastOutcome := j.1 } := if_neg h

theorem sampleRecord_valid (h : j.1 = .valid) : sampleRecord j f = takeValid j.2 { f with lastOutcome := j.1 } := if_pos h

theorem sampleRecord_unknown (h : j.1 = .valid) (hs : f.state = .unknown) :
    sampleRecord j f = { f with lastOutcome := j.1, lastResistance := some j.2 } := by
  rw [sampleRecord_valid h]
  unfold takeValid
  dsimp only
  rw [hs]

theorem sampleRecord_learning (h : j.1 = .valid) (hs : f.state = .learning) :
    sampleRecord j f = learnIn j.2 { f with lastOutcome := j.1, lastResistance := some j.2 } := by
  rw [sampleRecord_valid h]
  unfold takeValid
  dsimp only
  rw [hs]

theorem sampleRecord_serving (h : j.1 = .valid) (hs : 2 ≤ f.state.rank) :
    sampleRecord j f = averageIn j.2 { f with lastOutcome := j.1, lastResistance := some j.2 } := by
  rw [sampleRecord_valid h]
  unfold takeValid
  dsimp only
  split
  next hu => exact absurd (hu ▸ hs) (by decide)
  next hl => exact absurd (hl ▸ hs) (by decide)
  next => rfl

theorem completesLearn_eq (j : SampleOutcome × Nat) (f : FilterRecord) :
    completesLearn j f = (j.1 == .valid && f.state == .learning && decide (15 ≤ f.learnCount)) := by
  unfold completesLearn
  congr 1
  exact decide_eq_decide.mpr (by omega)

theorem averageIn_frame (r : Nat) (f : FilterRecord) :
    averageIn r f = { f with rAvg := (averageIn r f).rAvg, loading := (averageIn r f).loading } := by
  unfold averageIn
  split <;> rfl

/-- What a sample leaves of the record alone, and the state that it leaves it in. -/
theorem sampleRecord_keeps (j : SampleOutcome × Nat) (f : FilterRecord) :
    (sampleRecord j f).lastOutcome = j.1 ∧ (sampleRecord j f).dose = f.dose ∧ (sampleRecord j f).hours = f.hours ∧
      (sampleRecord j f).ceiling = f.ceiling ∧
      (sampleRecord j f).state = if completesLearn j f = true then .clean else f.state := by
  by_cases h : j.1 = .valid
  · by_cases hl : f.state = .learning
    · rw [sampleRecord_learning h hl]
      unfold learnIn completesLearn
      rw [h, hl]
      by_cases hn : 16 ≤ f.learnCount + 1
      · simp [hn]
      · simp [hn]
    · have hdone : ¬ completesLearn j f = true := by
        unfold completesLearn
        simp [hl]
      rw [if_neg hdone]
      by_cases hu : f.state = .unknown
      · rw [sampleRecord_unknown h hu]
        exact ⟨rfl, rfl, rfl, rfl, rfl⟩
      · have hrank : 2 ≤ f.state.rank := by
          by_contra hlow
          exact (rank_lt_two_iff.mp (Nat.lt_of_not_le hlow)).elim hu hl
        rw [sampleRecord_serving h hrank, averageIn_frame]
        exact ⟨rfl, rfl, rfl, rfl, rfl⟩
  · have hdone : ¬ completesLearn j f = true := by
      unfold completesLearn
      simp [h]
    rw [sampleRecord_invalid h, if_neg hdone]
    exact ⟨rfl, rfl, rfl, rfl, rfl⟩

/-! ### The sample within the part (R89, R93, R97, R99) -/

/-- The state in which a sample has changed the record and a learn has been completed or not. -/
def sampled (st : Stream) (s : State) : State :=
  learned (completesLearn (sampleJudgement st s) (s.filters.get st))
    (s.setFilter st (sampleRecord (sampleJudgement st s) (s.filters.get st)))

theorem filterSample_state (st : Stream) (s : State) :
    (filterSample st s).1 = formCeiling st (checkSteps st (sampled st s)) := rfl

theorem filterSample_marks (st : Stream) (s : State) :
    (filterSample st s).2 =
      if completesLearn (sampleJudgement st s) (s.filters.get st) then [.learnComplete] else [] := rfl

theorem learned_frame (b : Bool) (s : State) : learned b s = { s with
    events := s.events ||| (if b = true then Event.filterLearned.bit else 0#30), store := (learned b s).store } := by
  cases b with
  | false => unfold learned; simp
  | true =>
    unfold learned
    rw [if_pos rfl, askSave_eq]
    rfl

theorem sampled_record (st : Stream) (s : State) :
    (sampled st s).filters.get st = sampleRecord (sampleJudgement st s) (s.filters.get st) := by
  unfold sampled
  rw [learned_frame]
  exact PerStream.get_set _ _ _

theorem sampled_settings (st : Stream) (s : State) : (sampled st s).settings = s.settings := by
  unfold sampled
  rw [learned_frame]
  rfl

theorem sampled_events (st : Stream) (s : State) :
    (sampled st s).events = (s.events |||
      if completesLearn (sampleJudgement st s) (s.filters.get st) = true then Event.filterLearned.bit else 0#30) := by
  unfold sampled
  rw [learned_frame]
  rfl

theorem ceilingMoves_sampled (st : Stream) (s : State) : CeilingMoves st s (sampled st s) := by
  obtain ⟨-, -, -, hceiling, -⟩ := sampleRecord_keeps (sampleJudgement st s) (s.filters.get st)
  have hset := ceilingMoves_setFilter (s := s) (st := st) hceiling
  refine hset.trans (u := sampled st s) ?_ (Or.inl ?_)
  · unfold sampled
    rw [learned_frame]
    exact ⟨fun _ => ⟨rfl, rfl, id⟩, fun h => absurd rfl h⟩
  · simpa using hceiling

/-- The state that a sample's check steps to. -/
def sampledState (st : Stream) (s : State) : FilterState :=
  stepTo s.settings (sampleRecord (sampleJudgement st s) (s.filters.get st))

/-- The record that a sample leaves: the ceiling of the state it is in (R97, R99). -/
theorem filterSample_record (st : Stream) (s : State) :
    (filterSample st s).1.filters.get st =
      { sampleRecord (sampleJudgement st s) (s.filters.get st) with
        state := sampledState st s
        ceiling := ceilingOf s.settings
          { sampleRecord (sampleJudgement st s) (s.filters.get st) with state := sampledState st s } } := by
  have hrecord := checkSteps_record st (sampled st s)
  rw [sampled_record, sampled_settings] at hrecord
  rw [filterSample_state, formCeiling_record, hrecord, checkSteps_settings, sampled_settings]
  rfl

theorem filterSample_events (st : Stream) (s : State) :
    (filterSample st s).1.events = (s.events |||
      (if completesLearn (sampleJudgement st s) (s.filters.get st) = true then Event.filterLearned.bit else 0#30) |||
      stepBit (sampleRecord (sampleJudgement st s) (s.filters.get st)).state (sampledState st s)) := by
  rw [filterSample_state, formCeiling_events, checkSteps_events, sampled_events, sampled_record, sampled_settings]
  rfl

/-- A sample forms the ceiling at most once. -/
theorem ceilingMoves_filterSample (st : Stream) (s : State) : CeilingMoves st s (filterSample st s).1 := by
  obtain ⟨-, -, -, hceiling, -⟩ := sampleRecord_keeps (sampleJudgement st s) (s.filters.get st)
  have hsampled : ((sampled st s).filters.get st).ceiling = (s.filters.get st).ceiling := by
    rw [sampled_record]
    exact hceiling
  rw [filterSample_state]
  have hcheck := (ceilingMoves_sampled st s).trans (ceilingMoves_checkSteps st _) (Or.inl hsampled)
  refine hcheck.trans (ceilingMoves_formCeiling st _) ?_
  have hrecord := checkSteps_record st (sampled st s)
  by_cases hstep : stepTo (sampled st s).settings ((sampled st s).filters.get st) = ((sampled st s).filters.get st).state
  · rw [checkSteps_stays hstep]
    exact Or.inl hsampled
  · refine Or.inr ?_
    rw [formCeiling_record, checkSteps_settings, hrecord, if_neg hstep]
    rfl

theorem filterSample_exec {st : Stream} {s : State} (hpower : s.power = .running) :
    exec (.filterSample st) s = .next (filterSample st s).1 := congrArg Host.Outcome.next (whenRunning_on hpower)

theorem sampled_store (st : Stream) (s : State) :
    (completesLearn (sampleJudgement st s) (s.filters.get st) = false → (sampled st s).store = s.store) ∧
      (completesLearn (sampleJudgement st s) (s.filters.get st) = true → s.store.closed = false → s.store.writing = none →
        SaveRuns (sampled st s)) := by
  unfold sampled
  refine ⟨fun h => ?_, fun h hc hw => ?_⟩
  · rw [h]
    rfl
  · rw [h]
    exact saveRuns_of_askSave hc hw

end Samples

/-- Settles O32. -/
theorem filterSteps : Obligations.FilterSteps := by
  unfold Obligations.FilterSteps
  rintro st s hpower f rfl
  refine ⟨_, filterSample_exec hpower, ?_⟩
  rintro g hg l rfl done hdone base hbase
  have hrecord := hg.trans (filterSample_record st s)
  obtain ⟨houtcome, hdose, hhours, hceiling, hstate⟩ := sampleRecord_keeps (sampleJudgement st s) (s.filters.get st)
  obtain ⟨hquiet, hmoves⟩ := ceilingMoves_filterSample st s
  rw [← hg] at hquiet hmoves
  have hgo : g.lastOutcome = (sampleJudgement st s).1 := by rw [hrecord]; exact houtcome
  obtain rfl : done = completesLearn (sampleJudgement st s) (s.filters.get st) := by
    rw [completesLearn_eq, hdone, hgo]
  obtain rfl : base = (sampleRecord (sampleJudgement st s) (s.filters.get st)).state := hbase.trans hstate.symm
  have hgs : g.state = sampledState st s := by rw [hrecord]
  have hload : g.loading = (sampleRecord (sampleJudgement st s) (s.filters.get st)).loading := by rw [hrecord]
  have hgd : g.dose = (sampleRecord (sampleJudgement st s) (s.filters.get st)).dose := by rw [hrecord]
  have hgh : g.hours = (sampleRecord (sampleJudgement st s) (s.filters.get st)).hours := by rw [hrecord]
  refine ⟨?_, ?_, ?_, fun h => ?_, hmoves, fun hd hs => ?_, fun h hc hw => ?_⟩
  · rw [hgs, hload, hgd, hgh]
    exact stepTo_eq _ _
  · rw [hgs, filterSample_events]
    rfl
  · have hc : g.ceiling = ceilingOf s.settings g := by rw [hrecord]; rfl
    exact hc
  · obtain ⟨hfans, hres, -⟩ := hquiet h
    exact ⟨hfans, hres⟩
  · have hstay : stepTo (sampled st s).settings ((sampled st s).filters.get st) = ((sampled st s).filters.get st).state := by
      rw [sampled_record, sampled_settings]
      exact hgs.symm.trans hs
    rw [filterSample_state, formCeiling_store, checkSteps_stays hstay]
    exact (sampled_store st s).1 hd
  · suffices hruns : SaveRuns (checkSteps st (sampled st s)) by
      unfold SaveRuns at hruns
      rw [filterSample_state, formCeiling_store]
      exact hruns
    cases hd : completesLearn (sampleJudgement st s) (s.filters.get st) with
    | true => exact saveRuns_checkSteps st ((sampled_store st s).2 hd hc hw)
    | false =>
      have hstore := (sampled_store st s).1 hd
      refine saveRuns_of_step ?_ (by rw [hstore]; exact hc) (by rw [hstore]; exact hw)
      rw [sampled_record, sampled_settings]
      exact fun hs => h.elim (by rw [hd]; exact nofun) (fun hne => hne (hgs.trans hs))

/-- Settles O31. -/
theorem filterSamples : Obligations.FilterSamples := by
  unfold Obligations.FilterSamples
  rintro st s hpower f rfl fan rfl dp hdp r rfl
  refine ⟨_, filterSample_exec hpower, ?_⟩
  rintro g hg
  have hrecord := hg.trans (filterSample_record st s)
  obtain rfl := hdp.trans (filterPressure_eq st s.seq.published).symm
  obtain ⟨houtcome, -, -, -, hstate⟩ := sampleRecord_keeps (sampleJudgement st s) (s.filters.get st)
  have hgo : g.lastOutcome = (sampleJudgement st s).1 := by rw [hrecord]; exact houtcome
  have hgs : g.state = sampledState st s := by rw [hrecord]
  have hr : (sampleJudgement st s).1 = .valid → (sampleJudgement st s).2 =
      ((filterPressure s.seq.published st).filtered.getD 0).toNat * 65536 /
        ((s.fans.get st).qMeas * (s.fans.get st).qMeas) := judgeSample_valid
  have hstays : ∀ x : FilterRecord, sampleRecord (sampleJudgement st s) (s.filters.get st) = x → x.state.rank < 2 →
      g.state = x.state := by
    intro x hx hrank
    rw [hgs]
    unfold sampledState
    rw [hx, stepTo_eq]
    refine if_pos ?_
    exact (rank_lt_two_iff.mp hrank).imp_right .inl
  refine ⟨hgo.trans (judgeSample_outcome _ _ _), fun h => ?_, fun h hl hn => ?_, fun h hl hn => ?_, fun h hrank a ha rf0 hf a' ha' => ?_⟩
  · by_cases hv : g.lastOutcome = .valid
    · have hu := h.resolve_left (not_not.mpr hv)
      rw [if_pos hv]
      have hj := hgo.symm.trans hv
      rw [hrecord, sampleRecord_unknown hj hu, hr hj]
    · have hj : (sampleJudgement st s).1 ≠ .valid := fun hj => hv (hgo.trans hj)
      rw [if_neg hv, hrecord, sampleRecord_invalid hj]
  · have hj := hgo.symm.trans h
    have hsample := sampleRecord_learning hj hl
    unfold learnIn at hsample
    rw [if_neg (by dsimp only; omega)] at hsample
    have hsame := hstays _ hsample (by dsimp only; rw [hl]; decide)
    rw [hrecord, hsample, hr hj, hj, ← hgs, hsame]
  · have hj := hgo.symm.trans h
    have hdone : completesLearn (sampleJudgement st s) (s.filters.get st) = true := by
      rw [completesLearn_eq, hj, hl]
      simpa using hn
    have hmark : FilterMark.learnComplete ∈ (filterSample st s).2 := by
      rw [filterSample_marks, if_pos hdone]
      exact List.mem_singleton_self _
    have hexec : exec (.filterLearnComplete st) s = .next (whenRunning (whenMarked .learnComplete (filterSample st)) s) := rfl
    rw [whenRunning_on hpower, whenMarked_on hmark] at hexec
    have hbase : (sampleRecord (sampleJudgement st s) (s.filters.get st)).state = .clean := hstate.trans (if_pos hdone)
    refine ⟨hexec, ?_, ?_, ?_⟩
    · unfold State.hasEvent
      rw [filterSample_events, if_pos hdone, BitVec.getLsbD_or, BitVec.getLsbD_or]
      simp [Event.bit, Event.num]
    · rw [hgs]
      have hrank := rank_le_stepTo s.settings (sampleRecord (sampleJudgement st s) (s.filters.get st))
      rw [hbase] at hrank
      exact hrank
    · have hsample := sampleRecord_learning hj hl
      unfold learnIn at hsample
      rw [if_pos (by dsimp only; omega)] at hsample
      rw [hrecord, hsample, hr hj, hj]
  · have hj := hgo.symm.trans h
    have hsample := sampleRecord_serving hj hrank
    unfold averageIn at hsample
    dsimp only at hsample
    rw [hf, ha, hr hj] at hsample
    have hclamp : ∀ n, clampN n 50 999 = max 50 (min n 999) := fun n => by unfold clampN; omega
    unfold loadingOf at hsample
    dsimp only at hsample
    rw [hclamp] at hsample
    rw [hrecord, hsample, hj, ha', hf]
    rfl

/-! ### The accumulation (R95, R96) -/

section Accumulation

variable {st : Stream} {s : State} {g : FilterRecord}

/-- A part of an accumulation step: the record changed, and the steps checked where the dose or the hours rose. -/
def riseStep (st : Stream) (g : FilterRecord) (rose : Bool) (s : State) : State :=
  if rose then checkSteps st (s.setFilter st g) else s.setFilter st g

/-- The state that such a part leaves. -/
def riseTo (x : Settings) (g : FilterRecord) (rose : Bool) : FilterState := if rose then stepTo x g else g.state

theorem setFilter_get (st : Stream) (g : FilterRecord) (s : State) : (s.setFilter st g).filters.get st = g :=
  PerStream.get_set _ _ _

theorem riseStep_record (st : Stream) (g : FilterRecord) (rose : Bool) (s : State) :
    (riseStep st g rose s).filters.get st = { g with
      state := riseTo s.settings g rose
      ceiling := if riseTo s.settings g rose = g.state then g.ceiling
        else ceilingOf s.settings { g with state := riseTo s.settings g rose } } := by
  cases rose with
  | false =>
    unfold riseStep riseTo
    simp
  | true =>
    have hrecord := checkSteps_record st (s.setFilter st g)
    rw [setFilter_get] at hrecord
    exact hrecord

theorem riseStep_events (st : Stream) (g : FilterRecord) (rose : Bool) (s : State) :
    (riseStep st g rose s).events = s.events ||| stepBit g.state (riseTo s.settings g rose) := by
  cases rose with
  | false =>
    unfold riseStep riseTo
    simp
  | true =>
    have hevents := checkSteps_events st (s.setFilter st g)
    rw [setFilter_get] at hevents
    exact hevents

theorem riseStep_stays {rose : Bool} (h : riseTo s.settings g rose = g.state) :
    riseStep st g rose s = s.setFilter st g := by
  cases rose with
  | false => rfl
  | true => exact checkSteps_stays (by rw [setFilter_get]; exact h)

theorem riseStep_saves {rose : Bool} (h : riseTo s.settings g rose ≠ g.state) (hc : s.store.closed = false)
    (hw : s.store.writing = none) : SaveRuns (riseStep st g rose s) := by
  cases rose with
  | false => exact absurd rfl h
  | true => exact saveRuns_of_step (by rw [setFilter_get]; exact h) hc hw

theorem saveRuns_riseStep {rose : Bool} (h : SaveRuns s) : SaveRuns (riseStep st g rose s) := by
  cases rose with
  | false => exact h
  | true => exact saveRuns_checkSteps st h

theorem ceilingMoves_riseStep {rose : Bool} (hg : g.ceiling = (s.filters.get st).ceiling) :
    CeilingMoves st s (riseStep st g rose s) := by
  have hset := ceilingMoves_setFilter hg
  cases rose with
  | false => exact hset
  | true => exact hset.trans (ceilingMoves_checkSteps st _) (Or.inl (by rw [setFilter_get]; exact hg))

theorem riseStep_frame (st : Stream) (g : FilterRecord) (rose : Bool) (s : State) :
    FilterFrame st s (riseStep st g rose s) := by
  cases rose with
  | false => exact filterFrame_setFilter ..
  | true => exact (filterFrame_setFilter ..).trans (filterFrame_checkSteps ..)

theorem rank_le_riseTo (x : Settings) (g : FilterRecord) (rose : Bool) : g.state.rank ≤ (riseTo x g rose).rank := by
  cases rose with
  | false => exact le_rfl
  | true => exact rank_le_stepTo x g

end Accumulation

section Accumulated

variable (st : Stream) (s : State)

/-- R95: the record after the dose part. -/
def dosed : FilterRecord := addDose (s.fans.get st).qMeas (s.filters.get st)

/-- R95: the dose rose. -/
def doseRose : Bool := decide ((s.filters.get st).dose < (dosed st s).dose)

/-- R97: the filter's state after the dose part. -/
def dosedState : FilterState := riseTo s.settings (dosed st s) (doseRose st s)

/-- The part after the dose part. -/
def afterDose : State := riseStep st (dosed st s) (doseRose st s) s

/-- R96: the record after the hours part, its step apart. -/
def aged : FilterRecord := addSecond (s.fans.get st).qMeas ((afterDose st s).filters.get st)

/-- R96: the hours rose. -/
def hourRose : Bool := decide (((afterDose st s).filters.get st).hours < (aged st s).hours)

/-- R97: the filter's state after the hours part. -/
def agedState : FilterState := riseTo s.settings (aged st s) (hourRose st s)

theorem addDose_frame (q : Nat) (f : FilterRecord) :
    addDose q f = { f with doseAcc := (addDose q f).doseAcc, dose := (addDose q f).dose } := by
  unfold addDose
  split <;> rfl

theorem addSecond_frame (q : Nat) (f : FilterRecord) :
    addSecond q f = { f with runSeconds := (addSecond q f).runSeconds, hours := (addSecond q f).hours } := by
  unfold addSecond
  split_ifs <;> rfl

theorem doseStep_eq : doseStep st s = (afterDose st s, if doseRose st s then [.doseUnit] else []) := by
  unfold doseStep afterDose riseStep doseRose dosed
  simp only [decide_eq_true_eq]
  split_ifs <;> rfl

theorem afterDose_frame : FilterFrame st s (afterDose st s) := riseStep_frame ..

theorem afterDose_qMeas : ((afterDose st s).fans.get st).qMeas = (s.fans.get st).qMeas := by
  obtain ⟨-, -, hfans⟩ := afterDose_frame st s
  rw [hfans]

theorem afterDose_settings : (afterDose st s).settings = s.settings := by
  obtain ⟨heq, -⟩ := afterDose_frame st s
  rw [heq]

theorem afterDose_record : (afterDose st s).filters.get st = { dosed st s with
    state := dosedState st s
    ceiling := if dosedState st s = (dosed st s).state then (dosed st s).ceiling
      else ceilingOf s.settings { dosed st s with state := dosedState st s } } := riseStep_record ..

theorem hourStep_eq :
    hourStep st (afterDose st s) =
      (riseStep st (aged st s) (hourRose st s) (afterDose st s), if hourRose st s then [.hour] else []) := by
  unfold hourStep riseStep hourRose aged
  rw [afterDose_qMeas]
  simp only [decide_eq_true_eq]
  split_ifs <;> rfl

theorem accumulate_eq : accumulate st s =
    (riseStep st (aged st s) (hourRose st s) (afterDose st s),
      (if doseRose st s then [.doseUnit] else []) ++ if hourRose st s then [.hour] else []) := by
  unfold accumulate
  rw [doseStep_eq]
  dsimp only
  rw [hourStep_eq]

theorem dosed_keeps : (dosed st s).state = (s.filters.get st).state ∧ (dosed st s).ceiling = (s.filters.get st).ceiling ∧
    (dosed st s).loading = (s.filters.get st).loading ∧ (dosed st s).hours = (s.filters.get st).hours ∧
    (dosed st s).runSeconds = (s.filters.get st).runSeconds := by
  unfold dosed
  rw [addDose_frame]
  exact ⟨rfl, rfl, rfl, rfl, rfl⟩

theorem addSecond_reads {q : Nat} {f f' : FilterRecord} (hh : f'.hours = f.hours) (hr : f'.runSeconds = f.runSeconds) :
    (addSecond q f').hours = (addSecond q f).hours ∧ (addSecond q f').runSeconds = (addSecond q f).runSeconds := by
  unfold addSecond
  rw [hh, hr]
  split_ifs
  · exact ⟨hh, hr⟩
  · exact ⟨rfl, rfl⟩
  · exact ⟨rfl, rfl⟩

/-- The hours part reads nothing that the dose part writes. -/
theorem aged_eq : aged st s = { (afterDose st s).filters.get st with
    runSeconds := (addSecond (s.fans.get st).qMeas (s.filters.get st)).runSeconds
    hours := (addSecond (s.fans.get st).qMeas (s.filters.get st)).hours } := by
  obtain ⟨-, -, -, hhours, hrun⟩ := dosed_keeps st s
  have hreads := addSecond_reads (q := (s.fans.get st).qMeas) (f := s.filters.get st) (f' := (afterDose st s).filters.get st)
    (by rw [afterDose_record]; exact hhours) (by rw [afterDose_record]; exact hrun)
  unfold aged
  rw [addSecond_frame, hreads.1, hreads.2]

theorem aged_keeps : (aged st s).state = dosedState st s ∧ (aged st s).loading = (s.filters.get st).loading ∧
    (aged st s).dose = (dosed st s).dose ∧ (aged st s).hours = (addSecond (s.fans.get st).qMeas (s.filters.get st)).hours ∧
    (aged st s).ceiling = ((afterDose st s).filters.get st).ceiling := by
  obtain ⟨-, -, hload, -⟩ := dosed_keeps st s
  rw [aged_eq, afterDose_record]
  exact ⟨rfl, hload, rfl, rfl, rfl⟩

/-- The record that an accumulation step leaves. -/
theorem accumulate_record : (accumulate st s).1.filters.get st = { aged st s with
    state := agedState st s
    ceiling := if agedState st s = dosedState st s then ((afterDose st s).filters.get st).ceiling
      else ceilingOf s.settings { aged st s with state := agedState st s } } := by
  obtain ⟨hstate, -, -, -, hceiling⟩ := aged_keeps st s
  have hrecord := riseStep_record st (aged st s) (hourRose st s) (afterDose st s)
  rw [afterDose_settings, hstate, hceiling] at hrecord
  rw [accumulate_eq]
  exact hrecord

theorem accumulate_events : (accumulate st s).1.events =
    (s.events ||| stepBit (s.filters.get st).state (dosedState st s) ||| stepBit (dosedState st s) (agedState st s)) := by
  obtain ⟨hstate, -⟩ := aged_keeps st s
  obtain ⟨hstate', -⟩ := dosed_keeps st s
  have hfirst := riseStep_events st (dosed st s) (doseRose st s) s
  have hsecond := riseStep_events st (aged st s) (hourRose st s) (afterDose st s)
  rw [hstate'] at hfirst
  rw [hstate, afterDose_settings] at hsecond
  rw [accumulate_eq]
  exact hsecond.trans (congrArg (· ||| stepBit (dosedState st s) (agedState st s)) hfirst)

theorem rank_le_dosedState : (s.filters.get st).state.rank ≤ (dosedState st s).rank := by
  have hrank := rank_le_riseTo s.settings (dosed st s) (doseRose st s)
  rw [(dosed_keeps st s).1] at hrank
  exact hrank

theorem rank_le_agedState : (dosedState st s).rank ≤ (agedState st s).rank := by
  have hrank := rank_le_riseTo s.settings (aged st s) (hourRose st s)
  rw [(aged_keeps st s).1] at hrank
  exact hrank

end Accumulated

/-- R97: a check at a loading of 400 and above steps to BLOCKED or to none, and BLOCKED is the last state. -/
theorem stepTo_blocked {x : Settings} {f : FilterRecord} (h : stepTo x f ≠ f.state) :
    (stepTo x f = .blocked ↔ 400 ≤ f.loading.getD 0) ∧ f.state ≠ .blocked := by
  rw [stepTo_eq] at *
  split_ifs at * with h1 h4 <;> simp_all

theorem ceilingOf_open {x : Settings} {f : FilterRecord} (h : f.state ≠ .blocked) : ceilingOf x f = x.qRated := if_neg h

section Twice

variable {st : Stream} {s : State}

/-- The dose part and the hours part do not both change the ceiling: the second of two steps forms the same (R99). -/
theorem ceiling_once : ((afterDose st s).filters.get st).ceiling = (s.filters.get st).ceiling ∨
    ((accumulate st s).1.filters.get st).ceiling = ((afterDose st s).filters.get st).ceiling := by
  obtain ⟨hstate, hceiling, hload, -⟩ := dosed_keeps st s
  obtain ⟨hstate', hload', -⟩ := aged_keeps st s
  by_cases hm : dosedState st s = (dosed st s).state
  · left
    rw [afterDose_record, if_pos hm]
    exact hceiling
  · right
    rw [accumulate_record]
    by_cases hy : agedState st s = dosedState st s
    · rw [if_pos hy]
    · have hfirst : stepTo s.settings (dosed st s) = dosedState st s := by
        unfold dosedState riseTo at *
        split
        · rfl
        next h => exact absurd (if_neg h) hm
      have hsecond : stepTo s.settings (aged st s) = agedState st s := by
        unfold agedState riseTo at *
        split
        · rfl
        next h => exact absurd ((if_neg h).trans hstate') hy
      obtain ⟨hblocked, -⟩ := stepTo_blocked (hfirst ▸ hm)
      obtain ⟨hblocked', hopen⟩ := stepTo_blocked (x := s.settings) (f := aged st s) (by rw [hsecond, hstate']; exact hy)
      rw [hfirst, hload] at hblocked
      rw [hsecond, hload'] at hblocked'
      rw [hstate'] at hopen
      rw [if_neg hy, afterDose_record, if_neg hm, ceilingOf_open (f := { dosed st s with state := dosedState st s }) hopen]
      exact ceilingOf_open fun hy' => hopen (hblocked.mpr (hblocked'.mp hy'))

theorem ceilingMoves_accumulate (st : Stream) (s : State) : CeilingMoves st s (accumulate st s).1 := by
  have hfirst : CeilingMoves st s (afterDose st s) := ceilingMoves_riseStep (dosed_keeps st s).2.1
  have hsecond : CeilingMoves st (afterDose st s) (riseStep st (aged st s) (hourRose st s) (afterDose st s)) :=
    ceilingMoves_riseStep (aged_keeps st s).2.2.2.2
  have honce := ceiling_once (st := st) (s := s)
  rw [accumulate_eq] at *
  exact hfirst.trans hsecond honce

theorem doseRose_iff : doseRose st s = true ↔ (dosed st s).dose ≠ (s.filters.get st).dose := by
  have hrises : (s.filters.get st).dose ≤ (dosed st s).dose := by
    obtain ⟨-, -, hdose, -⟩ := filterAges_addDose (s.fans.get st).qMeas (s.filters.get st)
    exact hdose
  unfold doseRose
  rw [decide_eq_true_iff]
  omega

theorem hourRose_iff : hourRose st s = true ↔ (aged st s).hours ≠ (s.filters.get st).hours := by
  have hhours : ((afterDose st s).filters.get st).hours = (s.filters.get st).hours := by
    rw [afterDose_record]
    exact (dosed_keeps st s).2.2.2.1
  have hrises : ((afterDose st s).filters.get st).hours ≤ (aged st s).hours := by
    obtain ⟨-, -, -, hhours⟩ := filterAges_addSecond (s.fans.get st).qMeas ((afterDose st s).filters.get st)
    exact hhours
  unfold hourRose
  rw [decide_eq_true_iff]
  omega

end Twice

end Sys2Proof.Proofs
end

section
/-! SUPPORT. Proofs: the accumulation step as a whole, and FILTER_RESET (O33, O34). -/

namespace Sys2Proof.Proofs

open Sys2Proof Sys2Proof.Machine

section Accumulation

variable {st : Stream} {s : State}

/-- R95: the dose accumulator and the dose. -/
theorem addDose_spec (q : Nat) (f : FilterRecord) :
    (f.doseAcc + q < 100000 → (addDose q f).doseAcc = f.doseAcc + q ∧ (addDose q f).dose = f.dose) ∧
      (100000 ≤ f.doseAcc + q → (addDose q f).doseAcc = f.doseAcc + q - 100000 ∧
        (f.dose < 65535 → (addDose q f).dose = f.dose + 1) ∧ (65535 ≤ f.dose → (addDose q f).dose = f.dose)) := by
  unfold addDose raiseCount
  refine ⟨fun h => ?_, fun h => ?_⟩
  · rw [if_neg (by omega)]
    exact ⟨rfl, rfl⟩
  · rw [if_pos h]
    exact ⟨rfl, fun h' => if_pos h', fun h' => if_neg (by omega)⟩

/-- R96: the seconds and the hours. -/
theorem addSecond_spec (q : Nat) (f : FilterRecord) :
    (q = 0 → (addSecond q f).runSeconds = f.runSeconds ∧ (addSecond q f).hours = f.hours) ∧
      (0 < q → f.runSeconds < 3599 → (addSecond q f).runSeconds = f.runSeconds + 1 ∧ (addSecond q f).hours = f.hours) ∧
      (0 < q → 3599 ≤ f.runSeconds → (addSecond q f).runSeconds = 0 ∧
        (f.hours < 65535 → (addSecond q f).hours = f.hours + 1) ∧ (65535 ≤ f.hours → (addSecond q f).hours = f.hours)) := by
  unfold addSecond raiseCount
  refine ⟨fun h => ?_, fun h h' => ?_, fun h h' => ?_⟩
  · rw [if_pos h]
    exact ⟨rfl, rfl⟩
  · rw [if_neg (by omega), if_neg (by omega)]
    exact ⟨rfl, rfl⟩
  · rw [if_neg (by omega), if_pos (by omega)]
    exact ⟨rfl, fun h => if_pos h, fun h => if_neg (by omega)⟩

/-- R97: the state that a check leaves, from the present state, the loading, the dose and the hours. -/
def steppedFrom (x : Settings) (loading : Nat) (y : FilterState) (dose hours : Nat) : FilterState :=
  if y = .unknown ∨ y = .learning ∨ y = .blocked then y
  else if 400 ≤ loading then .blocked
  else if y = .due ∨ 250 ≤ loading ∨ x.doseLimit ≤ dose ∨ x.hoursLimit ≤ hours then .due
  else if y = .loaded ∨ 150 ≤ loading then .loaded
  else .clean

theorem dosedState_eq (st : Stream) (s : State) :
    dosedState st s = if (dosed st s).dose = (s.filters.get st).dose then (s.filters.get st).state
      else steppedFrom s.settings ((s.filters.get st).loading.getD 0) (s.filters.get st).state (dosed st s).dose
        (s.filters.get st).hours := by
  obtain ⟨hstate, -, hload, hhours, -⟩ := dosed_keeps st s
  unfold dosedState riseTo
  by_cases h : (dosed st s).dose = (s.filters.get st).dose
  · rw [if_neg (mt doseRose_iff.mp (not_not.mpr h)), if_pos h, hstate]
  · rw [if_pos (doseRose_iff.mpr h), if_neg h, stepTo_eq, hstate, hload, hhours]
    rfl

theorem agedState_eq (st : Stream) (s : State) :
    agedState st s = if (aged st s).hours = (s.filters.get st).hours then dosedState st s
      else steppedFrom s.settings ((s.filters.get st).loading.getD 0) (dosedState st s) (dosed st s).dose
        (aged st s).hours := by
  obtain ⟨hstate, hload, hdose, -, -⟩ := aged_keeps st s
  unfold agedState riseTo
  by_cases h : (aged st s).hours = (s.filters.get st).hours
  · rw [if_neg (mt hourRose_iff.mp (not_not.mpr h)), if_pos h, hstate]
  · rw [if_pos (hourRose_iff.mpr h), if_neg h, stepTo_eq, hstate, hload, hdose]
    rfl

/-- R97: a limit that is reached steps a record that is CLEAN or LOADED, or stays DUE. -/
theorem steppedFrom_due {x : Settings} {l d h : Nat} {y : FilterState} (hy : y = .clean ∨ y = .loaded ∨ y = .due)
    (hl : l < 250) (hlimit : y = .due ∨ x.doseLimit ≤ d ∨ x.hoursLimit ≤ h) : steppedFrom x l y d h = .due := by
  have hopen : ¬ (y = .unknown ∨ y = .learning ∨ y = .blocked) := by obtain rfl | rfl | rfl := hy <;> simp
  unfold steppedFrom
  rw [if_neg hopen, if_neg (by omega), if_pos (hlimit.imp_right Or.inr)]

theorem steppedFrom_serves {x : Settings} {l d h : Nat} {y : FilterState} (hy : y = .clean ∨ y = .loaded ∨ y = .due)
    (hl : l < 250) : steppedFrom x l y d h = .clean ∨ steppedFrom x l y d h = .loaded ∨ steppedFrom x l y d h = .due := by
  have hopen : ¬ (y = .unknown ∨ y = .learning ∨ y = .blocked) := by obtain rfl | rfl | rfl := hy <;> simp
  unfold steppedFrom
  rw [if_neg hopen, if_neg (by omega)]
  split_ifs <;> simp

theorem accumulate_exec (hpower : s.power = .running) : exec (.accumulationStep st) s = .next (accumulate st s).1 :=
  congrArg Host.Outcome.next (whenRunning_on hpower)

theorem accumulate_dose_marked (hpower : s.power = .running) (h : (dosed st s).dose ≠ (s.filters.get st).dose) :
    exec (.doseUnit st) s = .next (accumulate st s).1 := by
  have hexec : exec (.doseUnit st) s = .next (whenRunning (whenMarked .doseUnit (accumulate st)) s) := rfl
  have hmark : FilterMark.doseUnit ∈ (accumulate st s).2 := by
    rw [accumulate_eq, if_pos (doseRose_iff.mpr h)]
    exact List.mem_cons_self
  rwa [whenRunning_on hpower, whenMarked_on hmark] at hexec

theorem accumulate_hour_marked (hpower : s.power = .running) (h : (aged st s).hours ≠ (s.filters.get st).hours) :
    exec (.filterHour st) s = .next (accumulate st s).1 := by
  have hexec : exec (.filterHour st) s = .next (whenRunning (whenMarked .hour (accumulate st)) s) := rfl
  have hmark : FilterMark.hour ∈ (accumulate st s).2 := by
    rw [accumulate_eq, if_pos (hourRose_iff.mpr h)]
    exact List.mem_append_right _ (List.mem_singleton_self _)
  rwa [whenRunning_on hpower, whenMarked_on hmark] at hexec

/-- Where both states stay, an accumulation step changes the record alone. -/
theorem accumulate_stays (h : agedState st s = (s.filters.get st).state) :
    dosedState st s = (s.filters.get st).state ∧ (accumulate st s).1.store = s.store ∧
      ((accumulate st s).1.filters.get st).ceiling = (s.filters.get st).ceiling := by
  obtain ⟨hstate, hceiling, -⟩ := dosed_keeps st s
  obtain ⟨hstate', -⟩ := aged_keeps st s
  have hm : dosedState st s = (s.filters.get st).state := by
    have hlo := rank_le_dosedState st s
    have hhi := rank_le_agedState st s
    rw [h] at hhi
    exact rank_inj (le_antisymm hhi hlo)
  have hfirst : afterDose st s = s.setFilter st (dosed st s) := riseStep_stays (hm.trans hstate.symm)
  have hsecond : riseStep st (aged st s) (hourRose st s) (afterDose st s) = (afterDose st s).setFilter st (aged st s) :=
    riseStep_stays (by rw [afterDose_settings, hstate']; exact h.trans hm.symm)
  refine ⟨hm, ?_, ?_⟩
  · rw [accumulate_eq, hsecond, hfirst]
    rfl
  · rw [accumulate_record, if_pos (h.trans hm.symm), afterDose_record, if_pos (hm.trans hstate.symm)]
    exact hceiling

/-- R99: the ceiling of a record that has stepped. -/
theorem accumulate_ceiling (h : agedState st s ≠ (s.filters.get st).state) :
    ((accumulate st s).1.filters.get st).ceiling = if agedState st s = .blocked then
        clampN (s.settings.qRated * 200 / (s.filters.get st).loading.getD 100) s.settings.qMinRun s.settings.qRated
      else s.settings.qRated := by
  obtain ⟨hstate, -, hload, -⟩ := dosed_keeps st s
  obtain ⟨-, hload', -⟩ := aged_keeps st s
  rw [accumulate_record]
  by_cases hy : agedState st s = dosedState st s
  · have hm : dosedState st s ≠ (dosed st s).state := by
      rw [hstate, ← hy]
      exact h
    rw [if_pos hy, afterDose_record, if_neg hm, hy, ← hload]
    rfl
  · rw [if_neg hy, ← hload']
    rfl

theorem accumulate_saves (h : agedState st s ≠ (s.filters.get st).state) (hc : s.store.closed = false)
    (hw : s.store.writing = none) : SaveRuns (accumulate st s).1 := by
  obtain ⟨hstate, -⟩ := dosed_keeps st s
  obtain ⟨hstate', -⟩ := aged_keeps st s
  rw [accumulate_eq]
  by_cases hm : dosedState st s = (dosed st s).state
  · have hfirst : afterDose st s = s.setFilter st (dosed st s) := riseStep_stays hm
    refine riseStep_saves ?_ (by rw [hfirst]; exact hc) (by rw [hfirst]; exact hw)
    rw [afterDose_settings, hstate', hm, hstate]
    exact h
  · exact saveRuns_riseStep (riseStep_saves hm hc hw)

/-- R97: the limits of the dose and of the hours make a CLEAN filter DUE. -/
theorem accumulate_due (hrose : (dosed st s).dose ≠ (s.filters.get st).dose ∨ (aged st s).hours ≠ (s.filters.get st).hours)
    (hclean : (s.filters.get st).state = .clean) (hload : (s.filters.get st).loading.getD 0 < 250)
    (hlimit : s.settings.doseLimit ≤ (dosed st s).dose ∨ s.settings.hoursLimit ≤ (aged st s).hours) :
    agedState st s = .due ∧ (accumulate st s).1.hasEvent .filterDue = true := by
  have hm := dosedState_eq st s
  have hy := agedState_eq st s
  have hmserves : dosedState st s = .clean ∨ dosedState st s = .loaded ∨ dosedState st s = .due := by
    rw [hm]
    split
    · exact Or.inl hclean
    · exact steppedFrom_serves (Or.inl hclean) hload
  have hdue : agedState st s = .due := by
    by_cases hh : (aged st s).hours = (s.filters.get st).hours
    · rw [if_pos hh] at hy
      rw [if_neg (hrose.resolve_right (not_not.mpr hh))] at hm
      rw [hy, hm]
      exact steppedFrom_due (Or.inl hclean) hload (Or.inr (hh ▸ hlimit))
    · rw [if_neg hh] at hy
      rw [hy]
      exact steppedFrom_due hmserves hload (Or.inr hlimit)
  refine ⟨hdue, ?_⟩
  have hbit : stepBit (s.filters.get st).state (dosedState st s) = Event.filterDue.bit ∨
      stepBit (dosedState st s) (agedState st s) = Event.filterDue.bit := by
    rw [hdue, hclean]
    obtain h | h | h := hmserves <;> rw [h] <;> simp [stepBit]
  unfold State.hasEvent
  rw [accumulate_events, BitVec.getLsbD_or, BitVec.getLsbD_or]
  obtain h | h := hbit <;> rw [h] <;> simp [Event.bit, Event.num]

end Accumulation

/-- Settles O33. -/
theorem filterAccumulation : Obligations.FilterAccumulation := by
  unfold Obligations.FilterAccumulation
  rintro st s hpower f rfl q rfl
  refine ⟨_, accumulate_exec hpower, ?_⟩
  rintro g hg
  have hrecord := hg.trans (accumulate_record st s)
  obtain ⟨hdoseLow, hdoseHigh⟩ := addDose_spec (s.fans.get st).qMeas (s.filters.get st)
  obtain ⟨hstill, hsecond, hhour⟩ := addSecond_spec (s.fans.get st).qMeas (s.filters.get st)
  have hacc : g.doseAcc = (dosed st s).doseAcc := by rw [hrecord, aged_eq, afterDose_record]
  have hdose : g.dose = (dosed st s).dose := by rw [hrecord, aged_eq, afterDose_record]
  have hrun : g.runSeconds = (addSecond (s.fans.get st).qMeas (s.filters.get st)).runSeconds := by rw [hrecord, aged_eq]
  have hhours' : g.hours = (aged st s).hours := by rw [hrecord]
  have hhours : g.hours = (addSecond (s.fans.get st).qMeas (s.filters.get st)).hours := by rw [hrecord, aged_eq]
  have hgs : g.state = agedState st s := by rw [hrecord]
  obtain ⟨hquiet, hmoves⟩ := ceilingMoves_accumulate st s
  rw [← hg] at hquiet hmoves
  refine ⟨fun h => ?_, fun h => ?_, fun h => ?_, fun h h' => ?_, fun h h' => ?_, ?_, fun hd hh => ?_, ?_,
    fun hrose hclean hload hlimit => ?_⟩
  · rw [hacc, hdose]
    exact hdoseLow h
  · obtain ⟨ha, hrises, htop⟩ := hdoseHigh h
    rw [hacc, hdose]
    exact ⟨ha, fun hlt => ⟨hrises hlt, accumulate_dose_marked hpower (by
      show (addDose _ _).dose ≠ _
      rw [hrises hlt]
      exact Nat.succ_ne_self _)⟩, htop⟩
  · rw [hrun, hhours]
    exact hstill h
  · rw [hrun, hhours]
    exact hsecond h h'
  · obtain ⟨hzero, hrises, htop⟩ := hhour h h'
    rw [hrun, hhours]
    exact ⟨hzero, fun hlt => ⟨hrises hlt, accumulate_hour_marked hpower (by
      rw [← hhours', hhours, hrises hlt]
      exact Nat.succ_ne_self _)⟩, htop⟩
  · have hframe : (dosed st s) = { s.filters.get st with doseAcc := (dosed st s).doseAcc, dose := (dosed st s).dose } :=
      addDose_frame _ _
    rw [hrecord, aged_eq, afterDose_record, hframe]
  · have hm : dosedState st s = (s.filters.get st).state := by
      rw [dosedState_eq, if_pos (hdose.symm.trans hd)]
    have hy : agedState st s = (s.filters.get st).state := by
      rw [agedState_eq, if_pos (hhours'.symm.trans hh), hm]
    obtain ⟨-, -, hceiling⟩ := accumulate_stays hy
    exact ⟨hgs.trans hy, by rw [hg]; exact hceiling⟩
  · rintro stepped rfl raised rfl m hm
    obtain rfl : m = dosedState st s := by
      rw [hm, dosedState_eq, hdose]
      rfl
    refine ⟨?_, ?_, fun h => ?_, fun h => ?_, fun h hc hw => ?_, fun h => ?_, hmoves⟩
    · rw [hgs, hhours', hdose]
      exact agedState_eq st s
    · rw [hgs]
      exact accumulate_events st s
    · obtain ⟨-, hstore, hceiling⟩ := accumulate_stays (hgs.symm.trans h)
      exact ⟨by rw [hg]; exact hceiling, hstore⟩
    · rw [hgs]
      exact (congrArg FilterRecord.ceiling hg).trans (accumulate_ceiling (hgs ▸ h))
    · exact accumulate_saves (hgs ▸ h) hc hw
    · obtain ⟨hfans, hres, -⟩ := hquiet h
      exact ⟨hfans, hres⟩
  · rw [hgs]
    rw [hdose, hhours'] at hrose hlimit
    exact accumulate_due hrose hclean hload hlimit

end Sys2Proof.Proofs
end

section
/-! SUPPORT. Proofs: FILTER_RESET (O34). -/

namespace Sys2Proof.Proofs

open Sys2Proof Sys2Proof.Machine

section Renewal

variable {st : Stream} {h : State}

theorem clipSupply_self (q : Nat) (s : State) : clipSupply q q s = s := if_neg (Nat.lt_irrefl q)

/-- R37: the hand-over of a fan whose saturation is cleared is a resolution. -/
theorem handOn_clears (hc : (h.fans.get st).satCap ≠ none) :
    handOn st (h.fans.get st).clearSaturation [] false h = resolve (h.setFan st (h.fans.get st).clearSaturation) := by
  have hb : ((h.fans.get st).clearSaturation.state != (h.fans.get st).state ||
      (h.fans.get st).clearSaturation.satCap != (h.fans.get st).satCap || false) = true := by
    cases hcap : (h.fans.get st).satCap with
    | none => exact absurd hcap hc
    | some c => simp [FanRecord.clearSaturation]
  unfold handOn
  dsimp only
  rw [hb, if_pos (show (h.fans.get st).clearSaturation.state = (h.fans.get st).state from rfl)]
  cases st with
  | supply => rfl
  | extract => exact congrArg (fun u => resolveIf true (raiseAll [] u)) (clipSupply_self _ _)

theorem clearFanSaturation_eq (st : Stream) (h : State) :
    clearFanSaturation st h = if (h.fans.get st).satCap = none then h
      else resolve (h.setFan st (h.fans.get st).clearSaturation) := by
  unfold clearFanSaturation FanRecord.saturated
  dsimp only
  cases hcap : (h.fans.get st).satCap with
  | none => rfl
  | some c => exact (if_pos rfl).trans ((handOn_clears (by rw [hcap]; exact nofun)).trans (if_neg nofun).symm)

/-- R100: the record of a new filter, its ceiling open. -/
def newFilter (st : Stream) (h : State) : FilterRecord :=
  { state := .learning, rf0 := none, rAvg := none, loading := none, learnCount := 0, learnSum := 0
    lastResistance := none, lastOutcome := (h.filters.get st).lastOutcome, dose := 0, doseAcc := 0
    hours := 0, runSeconds := 0, ceiling := h.settings.qRated }

theorem formCeiling_renewed (st : Stream) (h : State) :
    formCeiling st (h.setFilter st (h.filters.get st).renewed) =
      if (h.filters.get st).ceiling = h.settings.qRated then h.setFilter st (newFilter st h)
      else resolve (h.setFilter st (newFilter st h)) := by
  have hget := setFilter_get st (h.filters.get st).renewed h
  have hopen : ceilingOf h.settings (h.filters.get st).renewed = h.settings.qRated := ceilingOf_open nofun
  by_cases hc : (h.filters.get st).ceiling = h.settings.qRated
  · rw [if_pos hc, formCeiling_stays (by rw [hget]; exact hopen.trans hc.symm), newFilter, ← hc]
    rfl
  · rw [if_neg hc, formCeiling_changes (by rw [hget]; exact fun he => hc (he.symm.trans hopen))]
    cases st <;> rfl

/-- R100: the part once the record is renewed, its ceiling opened and the fan's saturation cleared. -/
def renewal (st : Stream) (h : State) : State :=
  clearFanSaturation st (formCeiling st (h.setFilter st (h.filters.get st).renewed))

/-- R99: the part once the record is renewed and its ceiling opened. -/
theorem formCeiling_renewed_fans (st : Stream) (h : State) :
    ∀ st', ((formCeiling st (h.setFilter st (h.filters.get st).renewed)).fans.get st') = { h.fans.get st' with
      qTarget := ((formCeiling st (h.setFilter st (h.filters.get st).renewed)).fans.get st').qTarget } := by
  obtain ⟨-, -, hfans⟩ := (filterFrame_setFilter st (h.filters.get st).renewed h).trans (filterFrame_formCeiling st _)
  exact hfans

theorem renewal_eq (st : Stream) (h : State) : renewal st h =
    if (h.fans.get st).satCap = none then formCeiling st (h.setFilter st (h.filters.get st).renewed)
    else resolve ((formCeiling st (h.setFilter st (h.filters.get st).renewed)).setFan st
      ((formCeiling st (h.setFilter st (h.filters.get st).renewed)).fans.get st).clearSaturation) := by
  have hcap : ((formCeiling st (h.setFilter st (h.filters.get st).renewed)).fans.get st).satCap = (h.fans.get st).satCap :=
    (congrArg FanRecord.satCap (formCeiling_renewed_fans st h st)).trans rfl
  unfold renewal
  rw [clearFanSaturation_eq, hcap]

theorem renewal_frame (st : Stream) (h : State) :
    renewal st h = { h with filters := (renewal st h).filters, fans := (renewal st h).fans, res := (renewal st h).res } := by
  rw [renewal_eq, formCeiling_renewed]
  split_ifs <;> rfl

theorem resolve_fan (s : State) (st : Stream) :
    (resolve s).fans.get st = { s.fans.get st with qTarget := ((resolve s).fans.get st).qTarget } := by
  cases st <;> rfl

theorem setFan_get (st : Stream) (f : FanRecord) (s : State) : (s.setFan st f).fans.get st = f := PerStream.get_set _ _ _

theorem setFan_get_other (st : Stream) (f : FanRecord) (s : State) :
    (s.setFan st f).fans.get (other st) = s.fans.get (other st) := by
  cases st <;> rfl

theorem unsaturated {f : FanRecord} (hf : f.satCap = none) (q : Nat) :
    { f with qTarget := q } = { f with qTarget := q, satCap := none } := by
  cases f
  cases hf
  rfl

theorem renewal_fan (st : Stream) (h : State) : (renewal st h).fans.get st = { h.fans.get st with
    qTarget := ((renewal st h).fans.get st).qTarget, satCap := none
    satCount := if (h.fans.get st).satCap = none then (h.fans.get st).satCount else 0 } := by
  have hfan := formCeiling_renewed_fans st h st
  rw [renewal_eq]
  by_cases hc : (h.fans.get st).satCap = none
  · rw [if_pos hc, if_pos hc]
    exact hfan.trans (unsaturated hc _)
  · rw [if_neg hc, if_neg hc]
    refine (resolve_fan _ st).trans ?_
    rw [setFan_get, hfan]
    rfl

theorem renewal_other (st : Stream) (h : State) : (renewal st h).fans.get (other st) =
    { h.fans.get (other st) with qTarget := ((renewal st h).fans.get (other st)).qTarget } := by
  have hfan := formCeiling_renewed_fans st h (other st)
  rw [renewal_eq]
  by_cases hc : (h.fans.get st).satCap = none
  · rw [if_pos hc]
    exact hfan
  · rw [if_neg hc]
    refine (resolve_fan _ (other st)).trans ?_
    rw [setFan_get_other, hfan]

theorem renewal_filters (st : Stream) (h : State) : (renewal st h).filters.get st = newFilter st h ∧
    (renewal st h).filters.get (other st) = h.filters.get (other st) := by
  rw [renewal_eq, formCeiling_renewed]
  cases st <;> split_ifs <;> exact ⟨rfl, rfl⟩

/-- R99: where there is neither a ceiling to open nor a saturation to clear, no resolution is made. -/
theorem renewal_quiet (hc : (h.filters.get st).ceiling = h.settings.qRated) (hs : (h.fans.get st).satCap = none) :
    (renewal st h).fans = h.fans ∧ (renewal st h).res = h.res := by
  rw [renewal_eq, formCeiling_renewed, if_pos hs, if_pos hc]
  exact ⟨rfl, rfl⟩

/-- R37, R99: each of a ceiling opened and a saturation cleared starts a resolution. -/
theorem renewal_resolves (hc : (h.filters.get st).ceiling ≠ h.settings.qRated ∨ (h.fans.get st).satCap ≠ none) :
    Resolved (renewal st h) ∧ (renewal st h).res.count =
      (h.res.count + (if (h.filters.get st).ceiling = h.settings.qRated then 0 else 1) +
        (if (h.fans.get st).satCap = none then 0 else 1)) % 65536 := by
  rw [renewal_eq, formCeiling_renewed]
  split_ifs at * with hcap hrated hrated
  · exact absurd hc (by rw [hcap, hrated]; simp)
  · exact ⟨resolved_resolve _, rfl⟩
  · exact ⟨resolved_resolve _, rfl⟩
  · refine ⟨resolved_resolve _, ?_⟩
    change ((h.res.count + 1) % 65536 + 1) % 65536 = _
    omega

theorem ownFilterReset_renews {filter : Byte} (hst : streamOf filter = some st) :
    ownerOf (.filterReset filter) h = (.now .ok [], askSave (renewal st h)) := by
  dsimp only [ownerOf, ownFilterReset]
  rw [hst]
  rfl

end Renewal

/-- Settles O34. -/
theorem filterReset : Obligations.FilterReset := by
  unfold Obligations.FilterReset
  rintro tag filter s q rfl hacc h hh
  refine ⟨fun st hst => ?_, fun hbad => ?_⟩
  · have hframe := renewal_frame st h
    have hstore : (renewal st h).store = h.store := by rw [hframe]
    have hfan := renewal_fan st h
    have hsat : ((renewal st h).fans.get st).saturated = false := by rw [hfan]; rfl
    have hrest := renewal_other st h
    obtain ⟨hfilter, hother⟩ := renewal_filters st h
    refine ⟨_, exec_heard_now hacc hh (ownFilterReset_renews hst), ?_⟩
    have hresolves := renewal_resolves (st := st) (h := h)
    have hquiet := renewal_quiet (st := st) (h := h)
    have hstart := fun hc hw => saveRuns_of_askSave (s := renewal st h) (hstore ▸ hc) (hstore ▸ hw)
    have hpend := fun hc hw => askSave_pends (s := renewal st h) (hstore ▸ hc) (hstore ▸ hw)
    have hsave := askSave_eq (renewal st h)
    refine ⟨?_, ?_, ?_, ?_, ?_, ?_, ?_, ?_, ?_, ?_, ?_⟩
    · rw [askSave_filters]
      conv_rhs => rw [hsave]
      exact congrArg askSave hframe
    · rintro f rfl
      rw [hsave]
      exact hfan
    · rw [hsave]
      exact hrest
    · rw [hsave]
      exact hquiet
    · rw [hsave]
      exact hresolves
    · generalize askSave (renewal st h) = u at hsave
      rw [hframe] at hsave
      rw [hsave]
    · rw [askSave_filters]
      exact hfilter
    · rw [askSave_filters]
      exact hother
    · rw [hsave]
      exact hsat
    · exact fun hc hw => (hstart hc hw).1
    · intro hc hw
      rw [hpend hc hw]
  · refine exec_heard_now hacc hh ?_
    dsimp only [ownerOf, ownFilterReset]
    rw [streamOf_none hbad]
    rfl

end Sys2Proof.Proofs
end

section
/-! SUPPORT. Proofs: samples, calls, losses and closes of rooms and their sessions (O44, O45). -/

namespace Sys2Proof.Proofs

open Sys2Proof Sys2Proof.Machine

/-! ### One session and one sample (R135) -/

section Sample

variable (rh : Nat) (r : RoomRecord) (x : Session)

theorem raisePeak_eq : raisePeak rh x = { x with rhPeak := some (max (x.rhPeak.getD 0) rh) } := by
  unfold raisePeak
  split
  next p hp =>
    rw [hp]
    split
    next h => rw [Option.getD_some, Nat.max_eq_right h.le]
    next h =>
      rw [Option.getD_some, Nat.max_eq_left (Nat.not_lt.mp h), ← hp]
  next hp => rw [hp, Option.getD_none, Nat.zero_max]

/-- The session that the release test finds. -/
def raised : Session := raiseToLimit rh r (raisePeak rh x)

theorem raised_limit (h : r.limit ≤ rh) : raised rh r x = { x with
    rhPeak := some (max (x.rhPeak.getD 0) rh), urgency := .high, trigger := .limit, callTime := none
    level := levelFor r.kindOr .high } := by
  unfold raised raiseToLimit
  rw [if_pos h, raisePeak_eq]

theorem raised_below (h : rh < r.limit) : raised rh r x = { x with rhPeak := some (max (x.rhPeak.getD 0) rh) } := by
  unfold raised raiseToLimit
  rw [if_neg (Nat.not_le.mpr h), raisePeak_eq]

theorem raised_keeps : (raised rh r x).rhPeak = some (max (x.rhPeak.getD 0) rh) ∧ (raised rh r x).age = x.age ∧
    (raised rh r x).phase = x.phase ∧ (raised rh r x).overrun = x.overrun ∧ (raised rh r x).rhStart = x.rhStart ∧
    (raised rh r x).sensingLost = x.sensingLost := by
  obtain h | h := Nat.lt_or_ge rh r.limit
  · rw [raised_below rh r x h]
    exact ⟨rfl, rfl, rfl, rfl, rfl, rfl⟩
  · rw [raised_limit rh r x h]
    exact ⟨rfl, rfl, rfl, rfl, rfl, rfl⟩

/-- A release changes the phase and the timers alone. -/
theorem applyRelease_frame (t : Option Bool) : applyRelease t x = { x with
    phase := (applyRelease t x).phase, overrun := (applyRelease t x).overrun, callTime := (applyRelease t x).callTime
    shortCount := (applyRelease t x).shortCount } := by
  unfold applyRelease
  split
  · rfl
  · split <;> rfl
  · rfl

theorem applyRelease_callTime {t : Option Bool} (h : x.callTime = none) : (applyRelease t x).callTime = none := by
  unfold applyRelease
  split
  · rfl
  · split <;> exact h
  · exact h

theorem applyRelease_none : applyRelease none x = x := by
  unfold applyRelease
  split <;> first | rfl | contradiction

theorem applyRelease_opening {t : Option Bool} (h : x.phase = .opening) : applyRelease t x = x := by
  unfold applyRelease
  rw [h]
  obtain _ | _ | _ := t <;> rfl

theorem applyRelease_active (b : Bool) (h : x.phase = .active) :
    applyRelease (some b) x = if b = true then x.release else x := by
  unfold applyRelease
  rw [h]
  cases b <;> rfl

theorem applyRelease_releasing (b : Bool) (h : x.phase = .releasing) :
    applyRelease (some b) x =
      if b = true ∨ x.sensingLost = true then x else { x with phase := .active, overrun := none } := by
  unfold applyRelease
  rw [h]
  cases b with
  | true => rfl
  | false => simp only [Bool.false_eq_true, false_or]

theorem sampledSession_eq : sampledSession rh r x = applyRelease (releaseTest rh r (raised rh r x)) (raised rh r x) := rfl

theorem sampledSession_keeps : (sampledSession rh r x).trigger = (raised rh r x).trigger ∧
    (sampledSession rh r x).urgency = (raised rh r x).urgency ∧ (sampledSession rh r x).level = (raised rh r x).level ∧
    (sampledSession rh r x).rhPeak = (raised rh r x).rhPeak ∧ (sampledSession rh r x).age = (raised rh r x).age := by
  rw [sampledSession_eq, applyRelease_frame]
  exact ⟨rfl, rfl, rfl, rfl, rfl⟩

variable {rh r x}

theorem releaseTest_call (h : (raised rh r x).trigger = .call) : sampledSession rh r x = raised rh r x := by
  rw [sampledSession_eq, show releaseTest rh r (raised rh r x) = none by unfold releaseTest; rw [h], applyRelease_none]

theorem releaseTest_met {met : Bool} (h : ((raised rh r x).trigger = .limit ∧ met = decide (rh + 50 ≤ r.limit)) ∨
    ((raised rh r x).trigger = .rise ∧ met = (match x.rhStart with
      | some a => decide (rh ≤ a + 30)
      | none => false))) : releaseTest rh r (raised rh r x) = some met := by
  obtain ⟨-, -, -, -, hstart, -⟩ := raised_keeps rh r x
  unfold releaseTest
  obtain ⟨ht, rfl⟩ | ⟨ht, rfl⟩ := h
  · rw [ht]
  · rw [ht, hstart] <;> rfl

end Sample

/-! ### A sample within the part (R128, R130, R133, R135) -/

section Samples

variable {s : State} {room rh : Nat} {temp : Option Int}

/-- The part once the sample has joined the room's record. -/
def taken (room rh : Nat) (temp : Option Int) (s : State) : State := s.setRoom room (addSample rh temp (s.room room))

theorem taken_room (hr : room ≤ 6) : (taken room rh temp s).room room = addSample rh temp (s.room room) :=
  (room_setRoom s room _ hr).1

theorem newSample_open {x : Session} (hb : (s.room room).bound = true) (hx : s.session room = some x) :
    newSample room rh temp s = sampleSession rh x (taken room rh temp s) := by
  have hx' : (taken room rh temp s).session room = some x := hx
  unfold newSample
  rw [if_pos hb]
  dsimp only
  unfold taken at hx'
  rw [hx']
  rfl

theorem newSample_closed (hb : (s.room room).bound = true) (hx : s.session room = none) :
    newSample room rh temp s = judgeTriggers room rh (taken room rh temp s) := by
  have hx' : (taken room rh temp s).session room = none := hx
  unfold newSample
  rw [if_pos hb]
  dsimp only
  unfold taken at hx'
  rw [hx']
  rfl

theorem newSample_rooms (hb : (s.room room).bound = true) :
    (newSample room rh temp s).rooms = (taken room rh temp s).rooms := by
  cases hx : s.session room with
  | none =>
    rw [newSample_closed hb hx]
    unfold judgeTriggers
    dsimp only
    split_ifs <;> rfl
  | some x =>
    rw [newSample_open hb hx]
    unfold sampleSession relevel
    dsimp only
    split <;> rfl

/-- R133: what an opening leaves. -/
theorem openSession_opens (hr : room ≤ 6) (trig : Trigger) (urg : Urgency) (u : State) :
    (openSession room trig urg u).sessions = u.sessions ++ [newSession room trig urg u] ∧
      (openSession room trig urg u).sessionChange = (u.sessionChange + 1) % 256 ∧
      (openSession room trig urg u).demand.boostOf room =
        some ⟨(newSession room trig urg u).level, none, urg.exempt, u.uptime, 0⟩ ∧
      (openSession room trig urg u).demand.changeCount = (u.demand.changeCount + 1) % 256 ∧
      (openSession room trig urg u).events = u.events ||| Event.boostOpened.bit ∧ HandedOn u (openSession room trig urg u) := by
  have hboost := (boostOf_setBoost u.demand room (some ⟨(newSession room trig urg u).level, none, urg.exempt, u.uptime, 0⟩) hr).1
  exact ⟨rfl, rfl, hboost, rfl, rfl, rfl, resolved_openSession ..⟩

theorem rising_iff (r : RoomRecord) : r.rising = true ↔ ∃ d ∈ r.rise, 80 ≤ d := by
  unfold RoomRecord.rising
  cases r.rise <;> simp

/-- R130: a sample opens a LIMIT session, a RISE session, or none. -/
theorem judgeTriggers_opens {u : State} {trig : Trigger} {urg : Urgency}
    (h : (trig = .limit ∧ urg = .high ∧ (u.room room).limit ≤ rh) ∨
      (trig = .rise ∧ urg = .normal ∧ rh < (u.room room).limit ∧ (u.room room).cooldown = 0 ∧ (u.room room).rising = true)) :
    judgeTriggers room rh u = openSession room trig urg u := by
  unfold judgeTriggers
  dsimp only
  obtain ⟨rfl, rfl, hl⟩ | ⟨rfl, rfl, hl, hc, hrise⟩ := h
  · exact if_pos hl
  · exact (if_neg (Nat.not_le.mpr hl)).trans (if_pos ⟨hrise, hc⟩)

theorem judgeTriggers_waits {u : State} (hl : rh < (u.room room).limit)
    (h : (u.room room).cooldown ≠ 0 ∨ ¬ (u.room room).rising = true) : judgeTriggers room rh u = u :=
  (if_neg (Nat.not_le.mpr hl)).trans (if_neg fun hboth => h.elim (fun hc => hc hboth.2) (fun hr => hr hboth.1))

theorem putSession_length (y : Session) (u : State) : (putSession y u).sessions.length = u.sessions.length :=
  List.length_map _

/-- R135: the BOOST entry follows a session's level and urgency. -/
theorem relevel_moves {x y : Session} (hr : x.room ≤ 6) (u : State) (h : y.level ≠ x.level ∨ y.urgency ≠ x.urgency) :
    (relevel x y u).demand.boostOf x.room = (u.demand.boostOf x.room).map (fun e =>
        { e with level := y.level, exempt := y.urgency.exempt }) ∧
      (∀ k ≠ x.room, (relevel x y u).demand.boostOf k = u.demand.boostOf k) ∧
      (relevel x y u).demand.changeCount = (u.demand.changeCount + 1) % 256 ∧ (relevel x y u).events = u.events ∧
      HandedOn u (relevel x y u) ∧ (relevel x y u).sessions = u.sessions := by
  have hmoves : ¬ (x.level = y.level ∧ x.urgency = y.urgency) := fun ⟨hl, hu⟩ => h.elim (· hl.symm) (· hu.symm)
  obtain ⟨hat, hother⟩ := boostOf_setBoost u.demand x.room
    ((u.demand.boostOf x.room).map fun e => { e with level := y.level, exempt := y.urgency.exempt }) hr
  unfold relevel
  rw [if_neg hmoves]
  exact ⟨hat, hother, rfl, rfl, ⟨rfl, resolved_writeDemand _ _⟩, rfl⟩

theorem relevel_stays {x y : Session} (u : State) (hl : y.level = x.level) (hu : y.urgency = x.urgency) :
    relevel x y u = u := if_pos ⟨hl.symm, hu.symm⟩

end Samples

/-- R130, R133: a sample of a room with no session. -/
theorem sample_opens {room rh : Nat} {temp : Option Int} {s : State} (hr : room ≤ 6) (hb : (s.room room).bound = true)
    (hx : s.session room = none) {k : RoomKind} (hk : (s.room room).kind = some k) {trig : Trigger} {urg : Urgency}
    (h : (trig = .limit ∧ urg = .high ∧ (s.room room).limit ≤ rh) ∨
      (trig = .rise ∧ urg = .normal ∧ rh < (s.room room).limit ∧ (s.room room).cooldown = 0 ∧
        ∃ d ∈ (addSample rh temp (s.room room)).rise, 80 ≤ d)) :
    newSample room rh temp s = openSession room trig urg (taken room rh temp s) ∧
      newSession room trig urg (taken room rh temp s) =
        ⟨room, trig, urg, .opening, s.mode.mode.inStandby, levelFor k urg, some rh, some rh, 0, none, none, false, false, 0, false⟩ := by
  have hroom : (taken room rh temp s).room room = addSample rh temp (s.room room) := taken_room hr
  refine ⟨(newSample_closed hb hx).trans (judgeTriggers_opens ?_), ?_⟩
  · rw [hroom, rising_iff]
    exact h
  · have hkind : (addSample rh temp (s.room room)).kindOr = k := by
      unfold RoomRecord.kindOr
      exact congrArg (·.getD .other) hk
    have hcall : trig ≠ .call := by
      obtain ⟨rfl, -⟩ | ⟨rfl, -⟩ := h <;> exact nofun
    unfold newSession
    rw [hroom, hkind, if_neg hcall]
    rfl

/-- R135: a sample of a room with a session. -/
theorem sample_joins {room rh : Nat} {temp : Option Int} {s : State} (hr : room ≤ 6) (hb : (s.room room).bound = true)
    {x : Session} (hx : s.session room = some x) :
    newSample room rh temp s = relevel x (sampledSession rh (addSample rh temp (s.room room)) x)
        (putSession (sampledSession rh (addSample rh temp (s.room room)) x) (taken room rh temp s)) ∧
      (newSample room rh temp s).session room = some (sampledSession rh (addSample rh temp (s.room room)) x) ∧
      (newSample room rh temp s).sessions.length = s.sessions.length := by
  have hroom := session_room hx
  have hjoin : newSample room rh temp s = relevel x (sampledSession rh (addSample rh temp (s.room room)) x)
      (putSession (sampledSession rh (addSample rh temp (s.room room)) x) (taken room rh temp s)) := by
    rw [newSample_open hb hx]
    unfold sampleSession
    rw [hroom, taken_room hr]
  generalize hy : sampledSession rh (addSample rh temp (s.room room)) x = y at hjoin ⊢
  have hyroom : y.room = room := by
    rw [← hy, (sampledSession_room _ _ _).1, hroom]
  have hx' : (taken room rh temp s).session y.room = some x := by rw [hyroom]; exact hx
  have hput := putSession_session hx' room
  rw [if_pos hyroom.symm] at hput
  have hsessions : (newSample room rh temp s).sessions = (putSession y (taken room rh temp s)).sessions := by
    rw [hjoin]
    unfold relevel
    split <;> rfl
  refine ⟨hjoin, ?_, ?_⟩
  · unfold State.session at *
    rw [hsessions]
    exact hput
  · rw [hsessions]
    exact putSession_length _ _

/-- Settles O44. -/
theorem samplesActOnRooms : Obligations.SamplesActOnRooms := by
  unfold Obligations.SamplesActOnRooms
  refine ⟨fun k level limit h => ?_, fun room rh temp s t hr hb ht r hrec ring hring rise hrise => ?_, fun s hpower c hc => ?_⟩
  · simp only [List.mem_cons, Prod.mk.injEq, List.not_mem_nil, or_false] at h
    obtain ⟨rfl, rfl, rfl⟩ | ⟨rfl, rfl, rfl⟩ | ⟨rfl, rfl, rfl⟩ | ⟨rfl, rfl, rfl⟩ | ⟨rfl, rfl, rfl⟩ | ⟨rfl, rfl, rfl⟩ |
      ⟨rfl, rfl, rfl⟩ := h <;> exact ⟨rfl, rfl⟩
  · subst ht hrec
    have hadd : addSample rh temp (s.room room) =
        { s.room room with rh := some rh, temp := temp, sensorError := false, ring := ring, rise := rise } := by
      rw [hrise, hring]
      rfl
    have hrooms : ∀ k, (newSample room rh temp s).room k = (taken room rh temp s).room k :=
      fun k => by unfold State.room; rw [newSample_rooms hb]
    refine ⟨?_, fun k hk => ?_, ?_, fun hx k hk trig urg level h => ?_, fun hx hl h => ?_, fun x hx => ?_⟩
    · rw [hrooms, taken_room hr, hadd]
    · rw [hrooms]
      exact (room_setRoom s room _ hr).2 k hk
    · exact newSample_eq ..
    · have hrise' : (addSample rh temp (s.room room)).rise = rise := congrArg RoomRecord.rise hadd
      obtain ⟨hopen, hnew⟩ := sample_opens (temp := temp) (rh := rh) hr hb hx hk (trig := trig) (urg := urg) (by
        rw [hrise']
        obtain ⟨ht, hu, -, hl⟩ | ⟨ht, hu, -, hl⟩ := h
        · exact Or.inl ⟨ht, hu, hl⟩
        · exact Or.inr ⟨ht, hu, hl⟩)
      have hlevel : levelFor k urg = level := by
        obtain ⟨-, rfl, rfl, -⟩ | ⟨-, rfl, rfl, -⟩ := h <;> rfl
      rw [hlevel] at hnew
      have hopens := openSession_opens hr trig urg (taken room rh temp s)
      rw [hnew] at hopens
      rw [hopen]
      exact hopens
    · have hwait : judgeTriggers room rh (taken room rh temp s) = taken room rh temp s := by
        refine judgeTriggers_waits ?_ ?_
        · rw [taken_room hr]
          exact hl
        · rw [taken_room hr, rising_iff, hadd]
          exact h.imp_right fun hd ⟨d, hmem, hge⟩ => absurd (hd d hmem) (not_lt.mpr hge)
      rw [newSample_closed hb hx, hwait]
      rfl
    · obtain ⟨hjoin, hsession, hlength⟩ := sample_joins (temp := temp) (rh := rh) hr hb hx
      refine ⟨_, hsession, hlength, ?_⟩
      have hkeeps := sampledSession_keeps rh (addSample rh temp (s.room room)) x
      obtain ⟨hroom, hheld⟩ := sampledSession_room rh (addSample rh temp (s.room room)) x
      obtain ⟨hpeak, hage, hphase, hover, -, hlost⟩ := raised_keeps rh (addSample rh temp (s.room room)) x
      obtain ⟨htrig, hurg, hlevel, hpeak', hage'⟩ := hkeeps
      have hxroom := session_room hx
      refine ⟨hpeak'.trans hpeak, hage'.trans hage, hheld, fun hl => ?_, fun hl => ?_, fun hl hu => ?_, fun h => ?_,
        fun met hmet => ?_⟩
      · have hraise := raised_limit rh (addSample rh temp (s.room room)) x hl
        rw [htrig, hurg, hlevel]
        rw [hraise]
        refine ⟨rfl, rfl, ?_, fun k hk => ?_⟩
        · exact applyRelease_callTime _ (congrArg Session.callTime hraise)
        · unfold RoomRecord.kindOr
          exact congrArg (fun o : Option RoomKind => levelFor (o.getD .other) .high) hk
      · have hraise := raised_below rh (addSample rh temp (s.room room)) x hl
        rw [htrig, hurg, hlevel, hraise]
        refine ⟨rfl, rfl, rfl, fun hc => ?_⟩
        rw [releaseTest_call (by rw [hraise]; exact hc), hraise]
        exact ⟨rfl, rfl, rfl⟩
      · rw [hjoin, relevel_stays _ hl hu]
        rfl
      · rw [hjoin]
        have hmoves := relevel_moves (hxroom ▸ hr) (putSession (sampledSession rh (addSample rh temp (s.room room)) x)
          (taken room rh temp s)) h
        rw [hxroom] at hmoves
        obtain ⟨hat, hother, hcount, hevents, hhanded, -⟩ := hmoves
        exact ⟨hat, hother, hcount, hevents, hhanded⟩
      · have htest := releaseTest_met (rh := rh) (r := addSample rh temp (s.room room)) (x := x) (met := met)
          (by rw [← htrig]; exact hmet)
        rw [sampledSession_eq, htest]
        refine ⟨fun hp => ?_, fun hp hm => ?_, fun hp hm => ?_, fun hp h => ?_, fun hp hm hs => ?_⟩
        · rw [applyRelease_opening _ (hphase.trans hp)]
          exact hphase.trans hp
        · rw [applyRelease_active _ _ (hphase.trans hp), hm, if_neg nofun]
          exact ⟨hphase.trans hp, hover⟩
        · rw [applyRelease_active _ _ (hphase.trans hp), if_pos hm]
          exact ⟨rfl, rfl, rfl, rfl⟩
        · rw [applyRelease_releasing _ _ (hphase.trans hp), if_pos (by rw [hlost]; exact h)]
          exact ⟨hphase.trans hp, hover⟩
        · rw [applyRelease_releasing _ _ (hphase.trans hp), if_neg (by rw [hlost, hm, hs]; simp)]
          exact ⟨rfl, rfl⟩
  · subst hc
    have hexec : exec .room0Sample s = .next (room0Sample s) := congrArg Host.Outcome.next (whenRunning_on hpower)
    rw [hexec]
    refine ⟨fun rh hv hf => ?_, fun hv => ?_⟩
    · unfold room0Sample
      rw [hv, hf]
    · unfold room0Sample
      split
      next h _ => exact absurd h hv
      next => rfl

end Sys2Proof.Proofs
end

section
/-! SUPPORT. Proofs: CALL arrivals, losses of sensing, closes and BOOST_CANCEL (O45). -/

namespace Sys2Proof.Proofs

open Sys2Proof Sys2Proof.Machine

section Closes

variable {s : State} {room : Nat}

/-- R139: a close removes the room's session and no other. -/
theorem closeSession_session (room : Nat) (why : CloseReason) (s : State) (k : Nat) :
    (closeSession room why s).session k = if room = k then none else s.session k := by
  have hlist : (closeSession room why s).sessions = s.sessions.filter fun x => x.room != room := rfl
  unfold State.session
  rw [hlist, List.find?_filter]
  split
  next he => subst he; simp
  next he =>
    congr 1
    funext x
    by_cases hx : x.room = k <;> simp [hx, Ne.symm he]

theorem closeSession_boostOf (hr : room ≤ 6) (why : CloseReason) (s : State) :
    (closeSession room why s).demand.boostOf room = none ∧
      ∀ k ≠ room, (closeSession room why s).demand.boostOf k = s.demand.boostOf k :=
  boostOf_setBoost s.demand room none hr

theorem closeSession_room (hr : room ≤ 6) (why : CloseReason) (s : State) :
    (closeSession room why s).room room = { s.room room with
      lastClose := some why, cooldown := if why = .released then (s.room room).cooldown else 1800 } ∧
      ∀ k ≠ room, (closeSession room why s).room k = s.room k := by
  exact room_setRoom s room _ hr

theorem handedOn_closeSession (room : Nat) (why : CloseReason) (s : State) : HandedOn s (closeSession room why s) :=
  ⟨rfl, resolved_closeSession ..⟩

end Closes

section Calls

variable {s : State} {room : Nat} {x : Session}

theorem callArrival_held (hx : s.session room = some x) (hh : x.held = true) : callArrival room s = s := by
  unfold callArrival
  split
  · rw [hx]
    exact if_pos hh
  · rfl

/-- R130: a CALL opens a session. -/
theorem callArrival_opens (hb : (s.room room).bound = true) (hx : s.session room = none) {k : RoomKind}
    (hk : (s.room room).kind = some k) : callArrival room s = openSession room .call .normal s ∧
      newSession room .call .normal s = ⟨room, .call, .normal, .opening, s.mode.mode.inStandby, k.normalLevel,
        (s.room room).rh, (s.room room).rh, 0, none, some 1200, false, false, 0, false⟩ := by
  refine ⟨?_, ?_⟩
  · unfold callArrival
    rw [if_pos hb, hx]
  · have hkind : (s.room room).kindOr = k := by
      unfold RoomRecord.kindOr
      rw [hk]
      rfl
    unfold newSession
    rw [hkind]
    rfl

theorem callArrival_renews (hb : (s.room room).bound = true) (hx : s.session room = some x) (hh : x.held = false)
    (hp : x.phase = .releasing) : callArrival room s = putSession x.renew s := by
  unfold callArrival
  rw [if_pos hb, hx]
  dsimp only
  rw [hh, hp]
  rfl

theorem callArrival_closes (hb : (s.room room).bound = true) (hx : s.session room = some x) (hh : x.held = false)
    (hp : x.phase ≠ .releasing) (ht : x.trigger = .call) : callArrival room s = closeSession room .cancelled s := by
  unfold callArrival
  rw [if_pos hb, hx]
  dsimp only
  rw [hh, ht]
  cases hphase : x.phase with
  | releasing => exact absurd hphase hp
  | opening => rfl
  | active => rfl

theorem callArrival_waits (hb : (s.room room).bound = true) (hx : s.session room = some x) (hh : x.held = false)
    (hp : x.phase ≠ .releasing) (ht : x.trigger ≠ .call) : callArrival room s = s := by
  unfold callArrival
  rw [if_pos hb, hx]
  dsimp only
  rw [hh]
  cases hphase : x.phase <;> cases htrig : x.trigger <;> first | exact absurd hphase hp | exact absurd htrig ht | rfl

/-- R137: the session that a loss of sensing leaves. -/
theorem loseSensing_eq (x : Session) (gone : Bool) : { x.loseSensing with rowGone := x.rowGone || gone } = { x with
    phase := .releasing, sensingLost := true, rowGone := x.rowGone || gone
    overrun := if x.phase = .releasing then x.overrun else some 600
    callTime := if x.phase = .releasing then x.callTime else none
    shortCount := if x.phase = .releasing then x.shortCount else 0 } := by
  unfold Session.loseSensing
  split
  next h => simp [h]
  next h =>
    have hne : ¬ x.phase = .releasing := h
    simp [hne, Session.release]

theorem sensingLost_open (gone : Bool) (hx : s.session room = some x) :
    sensingLost room gone s = putSession { x.loseSensing with rowGone := x.rowGone || gone } s := by
  unfold sensingLost
  rw [hx]

theorem sensingLost_closed (gone : Bool) (hx : s.session room = none) : sensingLost room gone s = s := by
  unfold sensingLost
  rw [hx]

theorem roomReturned_open (hx : s.session room = some x) :
    roomReturned room s = if x.rowGone = true then s else putSession { x with sensingLost := false } s := by
  unfold roomReturned
  rw [hx]

theorem roomReturned_closed (hx : s.session room = none) : roomReturned room s = s := by
  unfold roomReturned
  rw [hx]

end Calls

/-- Settles O45. -/
theorem callsLossesAndCancels : Obligations.CallsLossesAndCancels := by
  unfold Obligations.CallsLossesAndCancels
  refine ⟨fun room s hr => ⟨fun hx hb k hk t ht => ?_, fun hb => ?_, fun x hx hb => ⟨fun hh => ?_, fun hh hp => ?_, fun hh hp htrig => ?_,
    fun hh hp htrig => ?_⟩, fun x gone hx => ?_, fun hx => ?_, fun x hx => ⟨fun hg => ?_, fun hg => ?_⟩, fun why t ht => ?_⟩,
    fun tag room s q hq hacc h hh => ?_⟩
  · obtain ⟨hopen, hnew⟩ := callArrival_opens hb hx hk
    have hopens := openSession_opens hr .call .normal s
    rw [hnew] at hopens
    rw [ht, hopen]
    exact ⟨openSession_eq .., hopens⟩
  · exact if_neg (by rw [hb]; exact nofun)
  · exact callArrival_held hx hh
  · exact callArrival_renews hb hx hh hp
  · exact callArrival_closes hb hx hh hp htrig
  · exact callArrival_waits hb hx hh hp htrig
  · rw [sensingLost_open gone hx, loseSensing_eq]
    rfl
  · exact ⟨sensingLost_closed true hx, sensingLost_closed false hx, roomReturned_closed hx⟩
  · rw [roomReturned_open hx, if_pos hg]
  · rw [roomReturned_open hx, if_neg (by rw [hg]; exact nofun)]
    rfl
  · subst ht
    have hsession := closeSession_session room why s room
    rw [if_pos rfl] at hsession
    obtain ⟨hroom, -⟩ := closeSession_room hr why s
    refine ⟨hsession, (closeSession_boostOf hr why s).1, rfl, rfl, ?_, ?_, rfl, handedOn_closeSession .., closeSession_eq ..⟩
    · rw [hroom]
    · rw [hroom]
  · subst hq
    refine ⟨fun hbad => exec_heard_now hacc hh (if_pos hbad), fun hr hx => exec_heard_now hacc hh ?_,
      fun hr hx => exec_heard_now hacc hh ?_⟩
    · refine (if_neg (Nat.not_lt.mpr hr)).trans ?_
      rw [hx]
      rfl
    · refine (if_neg (Nat.not_lt.mpr hr)).trans ?_
      obtain ⟨x, hx⟩ := Option.isSome_iff_exists.mp hx
      rw [hx]
      rfl

end Sys2Proof.Proofs
end

section
/-! SUPPORT. Proofs: the session step (O46). -/

namespace Sys2Proof.Proofs

open Sys2Proof Sys2Proof.Machine

/-! ### One session (R134, R138) -/

section OneSession

variable {x y z : Session} {a : State}

/-- The session a second older. -/
def older (x : Session) : Session := { x with age := x.age + 1 }

theorem stepCall_releases (hp : x.phase = .active) (hc : x.callTime = some 1) : stepCall x = (x.release, true) := by
  unfold stepCall
  rw [hc]
  exact (if_neg nofun).trans (if_pos ⟨rfl, hp⟩)

theorem stepCall_counts (h : x.phase ≠ .active ∨ x.callTime ≠ some 1) :
    stepCall x = ({ x with callTime := x.callTime.map (· - 1) }, false) := by
  unfold stepCall
  cases hc : x.callTime with
  | none =>
    cases x
    cases hc
    rfl
  | some c =>
    dsimp only
    split_ifs with h0 h1
    · cases x
      cases hc
      subst h0
      rfl
    · exact absurd h1.2 (h.resolve_right (not_not.mpr (by rw [hc, h1.1])))
    · rfl

theorem stepOverrun_none {b : Bool} (h : x.overrun = none) : stepOverrun b x = (x, false) := by
  unfold stepOverrun
  rw [h]

theorem stepOverrun_fresh : stepOverrun true x = (x, false) := by
  unfold stepOverrun
  split <;> rfl

theorem stepOverrun_falls {o : Nat} (h : x.overrun = some o) :
    stepOverrun false x = ({ x with overrun := some (o - 1) }, decide (o ≤ 1)) := by
  unfold stepOverrun
  rw [h]
  rfl

theorem stepOpening_waits {q target : Nat}
    (h : x.phase ≠ .opening ∨ (x.age < 120 ∧ (x.held = true ∨ q + 20 < min x.level target))) :
    stepOpening q target x = x := by
  refine if_neg ?_
  rintro ⟨hp, hend⟩
  obtain hne | ⟨hage, hflow⟩ := h
  · exact hne hp
  · obtain hage' | ⟨hheld, hflow'⟩ := hend
    · omega
    · obtain hh | hq := hflow
      · exact absurd (hheld.symm.trans hh) nofun
      · omega

theorem stepOpening_opens {q target : Nat} (hp : x.phase = .opening)
    (h : 120 ≤ x.age ∨ (x.held = false ∧ min x.level target ≤ q + 20)) :
    stepOpening q target x = { x with phase := .active } := if_pos ⟨hp, h⟩

theorem stepShort_idle {target : Nat} (h : x.phase ≠ .active ∨ x.held = true) : stepShort target x = (x, false) := by
  refine if_neg ?_
  rintro ⟨hp, hh⟩
  exact h.elim (absurd hp) (fun ht => absurd (hh.symm.trans ht) nofun)

theorem stepShort_counts {target : Nat} (hp : x.phase = .active) (hh : x.held = false)
    (h : x.shortCount < 59 ∨ x.servedShort = true) :
    stepShort target x = ({ x with shortCount := if target < x.level then min (x.shortCount + 1) 60 else 0 }, false) := by
  unfold stepShort
  rw [if_pos ⟨hp, hh⟩]
  split_ifs with ht
  · refine if_neg ?_
    rintro ⟨hn, hs⟩
    exact h.elim (fun h => by omega) (fun h => absurd (hs.symm.trans h) nofun)
  · rfl

theorem stepShort_serves {target : Nat} (hp : x.phase = .active) (hh : x.held = false) (hs : x.servedShort = false)
    (hn : 59 ≤ x.shortCount) (ht : target < x.level) :
    stepShort target x = ({ x with shortCount := 60, servedShort := true }, true) := by
  have hmin : min (x.shortCount + 1) 60 = 60 := by omega
  unfold stepShort
  rw [if_pos ⟨hp, hh⟩, if_pos ht]
  dsimp only
  rw [hmin]
  exact if_pos ⟨rfl, hs⟩

theorem stepShort_keeps (target : Nat) (x : Session) : (stepShort target x).1.phase = x.phase := by
  unfold stepShort
  dsimp only
  split_ifs <;> rfl

/-- The end of a session's step, once its timers have gone on. -/
def stepEnds (x z : Session) (called : Bool) (a : State) : State × List SessionMark :=
  (raiseIf (stepShort a.fans.extract.qTarget (stepOpening a.fans.extract.qMeas a.fans.extract.qTarget z)).2 .boostShort
      (putSession (stepShort a.fans.extract.qTarget (stepOpening a.fans.extract.qMeas a.fans.extract.qTarget z)).1 a),
    (if called then [.callEnd x.room] else []) ++
      (if z.phase = .opening ∧ 120 ≤ z.age then [.openingTimeout x.room] else []) ++
      (if (stepShort a.fans.extract.qTarget (stepOpening a.fans.extract.qMeas a.fans.extract.qTarget z)).2
        then [.short x.room] else []))

theorem stepSession_times_out (h : 7199 ≤ x.age) :
    stepSession x a = (closeSession x.room .timeout (putSession (older x) a), [.timeout x.room]) := by
  unfold stepSession
  exact if_pos (show 7200 ≤ x.age + 1 by omega)

theorem stepSession_releases {b : Bool} (h : x.age < 7199) (hcall : stepCall (older x) = (y, b))
    (hover : stepOverrun b y = (z, true)) :
    stepSession x a = (closeSession x.room .released (putSession z a),
      (if b then [SessionMark.callEnd x.room] else []) ++ [.overrunEnd x.room]) := by
  unfold stepSession
  refine (if_neg (show ¬ 7200 ≤ x.age + 1 by omega)).trans ?_
  unfold older at hcall
  rw [hcall]
  dsimp only
  rw [hover]
  rfl

theorem stepSession_goes {b : Bool} (h : x.age < 7199) (hcall : stepCall (older x) = (y, b))
    (hover : stepOverrun b y = (z, false)) : stepSession x a = stepEnds x z b a := by
  unfold stepSession
  refine (if_neg (show ¬ 7200 ≤ x.age + 1 by omega)).trans ?_
  unfold older at hcall
  rw [hcall]
  dsimp only
  rw [hover]
  rfl

end OneSession

end Sys2Proof.Proofs
end

section
/-! SUPPORT. Proofs: the session step over the sessions in turn (O46). -/

namespace Sys2Proof.Proofs

open Sys2Proof Sys2Proof.Machine

/-! ### What a session's step leaves of the other rooms -/

/-- What the session step may change. -/
def SessionsFrame (s t : State) : Prop :=
  t = { s with rooms := t.rooms, sessions := t.sessions, sessionChange := t.sessionChange, demand := t.demand
               fans := t.fans, res := t.res, events := t.events }

/-- What the steps of other rooms' sessions leave of a room, of the extract flow and of the flags that are set. -/
structure Aside (k : Nat) (s t : State) : Prop where
  session : t.session k = s.session k
  boost : t.demand.boostOf k = s.demand.boostOf k
  room : t.room k = s.room k
  flow : t.fans.extract.qMeas = s.fans.extract.qMeas
  events : ∀ e, s.hasEvent e = true → t.hasEvent e = true

section Steps

variable {s t u : State} {k : Nat} {x y : Session}

theorem sessionsFrame_rfl (s : State) : SessionsFrame s s := rfl

theorem SessionsFrame.trans (h : SessionsFrame s t) (h' : SessionsFrame t u) : SessionsFrame s u := by
  unfold SessionsFrame at *
  rw [h] at h'
  exact h'

theorem aside_rfl (k : Nat) (s : State) : Aside k s s := ⟨rfl, rfl, rfl, rfl, fun _ => id⟩

theorem Aside.trans (h : Aside k s t) (h' : Aside k t u) : Aside k s u :=
  ⟨h'.session.trans h.session, h'.boost.trans h.boost, h'.room.trans h.room, h'.flow.trans h.flow,
    fun e he => h'.events e (h.events e he)⟩

/-- A session's step is a close of its room, or the session put back and perhaps BOOST_SHORT. -/
theorem stepSession_shape (x : Session) (s : State) :
    ∃ y, y.room = x.room ∧ ((∃ why, (stepSession x s).1 = closeSession x.room why (putSession y s)) ∨
      ∃ b, (stepSession x s).1 = raiseIf b .boostShort (putSession y s)) := by
  have hrun := (stepCall_boost (older x)).trans (stepOverrun_boost (stepCall (older x)).2 _)
  have hend := fun q t => (hrun.trans (stepOpening_boost q t _)).trans (stepShort_boost t _)
  unfold stepSession
  dsimp only
  split
  · exact ⟨older x, rfl, Or.inl ⟨_, rfl⟩⟩
  · split
    · exact ⟨_, hrun.room, Or.inl ⟨_, rfl⟩⟩
    · exact ⟨_, (hend _ _).room, Or.inr ⟨_, rfl⟩⟩

theorem sessionsFrame_stepSession (x : Session) (s : State) : SessionsFrame s (stepSession x s).1 := by
  obtain ⟨y, -, ⟨why, h⟩ | ⟨b, h⟩⟩ := stepSession_shape x s
  · rw [h]
    rfl
  · rw [h]
    cases b <;> rfl

theorem hasEvent_raise (e : Event) (v : Event) (h : s.hasEvent v = true) : (raise e s).hasEvent v = true := by
  unfold State.hasEvent at *
  rw [raise_events, BitVec.getLsbD_or, h, Bool.true_or]

theorem aside_putSession (hx : s.session y.room = some x) (hk : k ≠ y.room) : Aside k s (putSession y s) :=
  ⟨by rw [putSession_session hx, if_neg hk], rfl, rfl, rfl, fun _ => id⟩

theorem aside_closeSession (why : CloseReason) (hr : y.room ≤ 6) (hk : k ≠ y.room) : Aside k s (closeSession y.room why s) :=
  ⟨by rw [closeSession_session, if_neg (Ne.symm hk)], (closeSession_boostOf hr why s).2 k hk,
    (closeSession_room hr why s).2 k hk, rfl, fun e he => hasEvent_raise .boostClosed e he⟩

theorem aside_stepSession (hx : s.session x.room = some x) (hr : x.room ≤ 6) (hk : k ≠ x.room) :
    Aside k s (stepSession x s).1 := by
  obtain ⟨y, hy, ⟨why, h⟩ | ⟨b, h⟩⟩ := stepSession_shape x s
  all_goals
    have hput : Aside k s (putSession y s) := aside_putSession (by rw [hy]; exact hx) (by rw [hy]; exact hk)
    rw [h]
  · exact hput.trans (aside_closeSession why hr hk)
  · cases b with
    | false => exact hput
    | true => exact hput.trans ⟨rfl, rfl, rfl, rfl, fun e he => hasEvent_raise .boostShort e he⟩

end Steps

/-! ### The sessions in turn (R134) -/

section Turn

variable {s : State} {k : Nat} {ms : List SessionMark}

/-- The sessions of some rooms stepped in turn. -/
def stepRooms (rooms : List Nat) (s : State) (ms : List SessionMark) : State × List SessionMark :=
  rooms.foldl stepRoom (s, ms)

theorem sessionStep_eq (s : State) : sessionStep s =
    (lowerCooldowns (stepRooms (s.sessions.map (·.room)) s []).1, (stepRooms (s.sessions.map (·.room)) s []).2) := rfl

theorem stepRoom_found {acc : State × List SessionMark} {room : Nat} {x : Session} (hx : acc.1.session room = some x) :
    stepRoom acc room = ((stepSession x acc.1).1, acc.2 ++ (stepSession x acc.1).2) := by
  unfold stepRoom
  rw [hx]

theorem stepRoom_state (room : Nat) (s : State) (ms : List SessionMark) :
    (stepRoom (s, ms) room = (s, ms) ∧ s.session room = none) ∨
      ∃ x, s.session room = some x ∧ stepRoom (s, ms) room = ((stepSession x s).1, ms ++ (stepSession x s).2) := by
  cases hx : s.session room with
  | none =>
    refine Or.inl ⟨?_, rfl⟩
    unfold stepRoom
    rw [hx]
  | some x => exact Or.inr ⟨x, rfl, stepRoom_found hx⟩

theorem sessionsFrame_stepRooms (rooms : List Nat) (s : State) (ms : List SessionMark) :
    SessionsFrame s (stepRooms rooms s ms).1 := by
  induction rooms generalizing s ms with
  | nil => exact sessionsFrame_rfl s
  | cons room rooms ih =>
    change SessionsFrame s (List.foldl stepRoom (stepRoom (s, ms) room) rooms).1
    obtain ⟨h, -⟩ | ⟨x, -, h⟩ := stepRoom_state room s ms
    · rw [h]
      exact ih s ms
    · rw [h]
      exact (sessionsFrame_stepSession x s).trans (ih _ _)

/-- The steps of other rooms. -/
theorem aside_stepRooms (rooms : List Nat) (hr : ∀ r ∈ rooms, r ≤ 6) (hk : k ∉ rooms) (s : State) (ms : List SessionMark) :
    Aside k s (stepRooms rooms s ms).1 ∧ ∀ m ∈ ms, m ∈ (stepRooms rooms s ms).2 := by
  induction rooms generalizing s ms with
  | nil => exact ⟨aside_rfl k s, fun _ => id⟩
  | cons room rooms ih =>
    obtain ⟨hroom, hrooms⟩ := List.forall_mem_cons.mp hr
    obtain ⟨hne, hnot⟩ : k ≠ room ∧ k ∉ rooms := by simpa using hk
    change Aside k s (List.foldl stepRoom (stepRoom (s, ms) room) rooms).1 ∧
      ∀ m ∈ ms, m ∈ (List.foldl stepRoom (stepRoom (s, ms) room) rooms).2
    obtain ⟨h, -⟩ | ⟨x, hx, h⟩ := stepRoom_state room s ms
    · rw [h]
      exact ih hrooms hnot s ms
    · rw [h]
      have hxroom := session_room hx
      obtain ⟨haside, hmarks⟩ := ih hrooms hnot (stepSession x s).1 (ms ++ (stepSession x s).2)
      have hstep : Aside k s (stepSession x s).1 :=
        aside_stepSession (session_self hx) (hxroom ▸ hroom) (by rw [hxroom]; exact hne)
      exact ⟨hstep.trans haside, fun m hm => hmarks m (List.mem_append_left _ hm)⟩

/-- A session that its step does not close. -/
def Stays (y : Session) : Prop := y.age < 7199 ∧ ∀ o ∈ y.overrun, 2 ≤ o

theorem stepSession_stays {x : Session} (h : Stays x) : ∃ z b, stepSession x s = stepEnds x z b s := by
  obtain ⟨hage, hover⟩ := h
  by_cases hcall : (older x).phase = .active ∧ (older x).callTime = some 1
  · exact ⟨_, _, stepSession_goes hage (stepCall_releases hcall.1 hcall.2) stepOverrun_fresh⟩
  · have hcounts := stepCall_counts (x := older x) (by tauto)
    cases ho : x.overrun with
    | none => exact ⟨_, _, stepSession_goes hage hcounts (stepOverrun_none ho)⟩
    | some o =>
      have hfalls := stepOverrun_falls (x := { older x with callTime := (older x).callTime.map (· - 1) }) ho
      rw [decide_eq_false (by have := hover o ho; omega)] at hfalls
      exact ⟨_, _, stepSession_goes hage hcounts hfalls⟩

theorem raiseIf_fans (b : Bool) (e : Event) (s : State) : (raiseIf b e s).fans = s.fans := by cases b <;> rfl

theorem stepEnds_fans (x z : Session) (b : Bool) (s : State) : (stepEnds x z b s).1.fans = s.fans := raiseIf_fans ..

/-- Where no session closes, the steps of distinct rooms leave the fans. -/
theorem stepRooms_fans (rooms : List Nat) (hr : ∀ r ∈ rooms, r ≤ 6) (hnodup : rooms.Nodup) (s : State) (ms : List SessionMark)
    (hstays : ∀ r ∈ rooms, ∀ y, s.session r = some y → Stays y) : (stepRooms rooms s ms).1.fans = s.fans := by
  induction rooms generalizing s ms with
  | nil => rfl
  | cons room rooms ih =>
    obtain ⟨hroom, hrooms⟩ := List.forall_mem_cons.mp hr
    obtain ⟨hnot, hrest⟩ := List.nodup_cons.mp hnodup
    obtain ⟨hfirst, hothers⟩ := List.forall_mem_cons.mp hstays
    change (List.foldl stepRoom (stepRoom (s, ms) room) rooms).1.fans = s.fans
    obtain ⟨h, -⟩ | ⟨x, hx, h⟩ := stepRoom_state room s ms
    · rw [h]
      exact ih hrooms hrest s ms hothers
    · rw [h]
      have hxroom := session_room hx
      obtain ⟨z, b, hstep⟩ := stepSession_stays (s := s) (hfirst x hx)
      refine (ih hrooms hrest _ _ fun r hrm y hy => hothers r hrm y ?_).trans ?_
      · have haside := aside_stepSession (k := r) (session_self hx) (hxroom ▸ hroom)
          (by rw [hxroom]; rintro rfl; exact hnot hrm)
        rw [← haside.session]
        exact hy
      · rw [hstep]
        exact stepEnds_fans x z b s

theorem lowerCooldowns_room (hk : k ≤ 6) (s : State) :
    (lowerCooldowns s).room k = { s.room k with cooldown := (s.room k).cooldown - 1 } := by
  have h7 : k < 7 := by omega
  unfold State.room lowerCooldowns
  rw [← Vector.getElem?_toList, toList_mapVec, List.getElem?_map, Vector.getElem?_toList, Vector.getElem?_eq_getElem h7]
  rfl

/-- What the session step makes of one session: `a` is the part as the sessions before it leave it, and `b` as it leaves
it itself. -/
structure SteppedAt (s : State) (x : Session) (a : State) (t : State) (marks : List SessionMark) : Prop where
  before : Aside x.room s a
  found : a.session x.room = some x
  fans : (∀ y ∈ s.sessions, Stays y) → a.fans = s.fans
  session : t.session x.room = (stepSession x a).1.session x.room
  boost : t.demand.boostOf x.room = (stepSession x a).1.demand.boostOf x.room
  room : t.room x.room = { (stepSession x a).1.room x.room with
    cooldown := ((stepSession x a).1.room x.room).cooldown - 1 }
  events : ∀ e, (stepSession x a).1.hasEvent e = true → t.hasEvent e = true
  marks : ∀ m ∈ (stepSession x a).2, m ∈ marks

theorem session_of_mem {x : Session} (hnodup : (s.sessions.map (·.room)).Nodup) (hx : x ∈ s.sessions) :
    s.session x.room = some x := by
  cases hs : s.session x.room with
  | none => exact absurd rfl (session_none hs x hx)
  | some y =>
    have hy : y ∈ s.sessions := List.mem_of_find?_eq_some hs
    rw [List.inj_on_of_nodup_map hnodup hy hx (session_room hs)]

theorem steppedAt (hboosts : BoostsMatch s) {x : Session} (hx : x ∈ s.sessions) :
    ∃ a, SteppedAt s x a (sessionStep s).1 (sessionStep s).2 := by
  obtain ⟨hnodup, hrange, -⟩ := hboosts
  have hsession := session_of_mem hnodup hx
  obtain ⟨pre, post, hsplit⟩ := List.append_of_mem (List.mem_map_of_mem (f := (·.room)) hx)
  have hsplit' := hsplit ▸ hnodup
  obtain ⟨hpreNodup, hpostNodup, hdisjoint⟩ := List.nodup_append.mp hsplit'
  obtain ⟨hpost, -⟩ := List.nodup_cons.mp hpostNodup
  have hpre : x.room ∉ pre := fun h => hdisjoint _ h _ List.mem_cons_self rfl
  have hrooms : ∀ r ∈ s.sessions.map (·.room), r ≤ 6 := by
    intro r hr
    obtain ⟨y, hy, rfl⟩ := List.mem_map.mp hr
    exact hrange y hy
  have hpreRooms : ∀ r ∈ pre, r ≤ 6 := fun r hr => hrooms r (hsplit ▸ List.mem_append_left _ hr)
  have hpostRooms : ∀ r ∈ post, r ≤ 6 :=
    fun r hr => hrooms r (hsplit ▸ List.mem_append_right _ (List.mem_cons_of_mem _ hr))
  obtain ⟨hbefore, -⟩ := aside_stepRooms pre hpreRooms hpre s []
  have hfound : (stepRooms pre s []).1.session x.room = some x := hbefore.session.trans hsession
  have hstep : stepRooms (s.sessions.map (·.room)) s [] =
      stepRooms post (stepSession x (stepRooms pre s []).1).1
        ((stepRooms pre s []).2 ++ (stepSession x (stepRooms pre s []).1).2) := by
    rw [hsplit]
    unfold stepRooms at *
    rw [List.foldl_append, List.foldl_cons]
    congr 1
    exact stepRoom_found hfound
  obtain ⟨hafter, hmarks⟩ := aside_stepRooms post hpostRooms hpost (stepSession x (stepRooms pre s []).1).1
    ((stepRooms pre s []).2 ++ (stepSession x (stepRooms pre s []).1).2)
  rw [← hstep] at hafter hmarks
  refine ⟨(stepRooms pre s []).1, hbefore, hfound, fun hstays => ?_, ?_, ?_, ?_, ?_, ?_⟩
  · exact stepRooms_fans pre hpreRooms hpreNodup s [] fun r _ y hy => hstays y (List.mem_of_find?_eq_some hy)
  · exact hafter.session
  · exact hafter.boost
  · rw [sessionStep_eq]
    refine (lowerCooldowns_room (hrange x hx) _).trans ?_
    rw [hafter.room]
  · exact hafter.events
  · exact fun m hm => hmarks m (List.mem_append_right _ hm)

end Turn

end Sys2Proof.Proofs
end

section
/-! SUPPORT. Proofs: the session step, session by session (O46). -/

namespace Sys2Proof.Proofs

open Sys2Proof Sys2Proof.Machine

section Outcomes

variable {s a t : State} {x y z w : Session} {ms : List SessionMark} {called short : Bool}

/-- A session that goes on. -/
theorem SteppedAt.goes (h : SteppedAt s x a t ms) (hage : x.age < 7199) (hcall : stepCall (older x) = (y, called))
    (hover : stepOverrun called y = (z, false))
    (hshort : stepShort a.fans.extract.qTarget (stepOpening a.fans.extract.qMeas a.fans.extract.qTarget z) = (w, short)) :
    t.session x.room = some w ∧ (called = true → .callEnd x.room ∈ ms) ∧
      (z.phase = .opening → 120 ≤ z.age → .openingTimeout x.room ∈ ms) ∧
      (short = true → .short x.room ∈ ms ∧ t.hasEvent .boostShort = true) := by
  have hstep := stepSession_goes (a := a) hage hcall hover
  have hroom : w.room = x.room := by
    have hrun := ((stepCall_boost (older x)).trans (stepOverrun_boost called _)).trans
      (((stepOpening_boost a.fans.extract.qMeas a.fans.extract.qTarget _)).trans (stepShort_boost a.fans.extract.qTarget _))
    rw [hcall, hover, hshort] at hrun
    exact hrun.room
  have hput : (putSession w a).session x.room = some w := by
    rw [putSession_session (by rw [hroom]; exact h.found), if_pos hroom.symm]
  have hends : (stepSession x a).1 = raiseIf short .boostShort (putSession w a) := by
    rw [hstep]
    unfold stepEnds
    rw [hshort]
  have hmarks : (stepSession x a).2 = (if called then [.callEnd x.room] else []) ++
      (if z.phase = .opening ∧ 120 ≤ z.age then [.openingTimeout x.room] else []) ++
      (if short then [.short x.room] else []) := by
    rw [hstep]
    unfold stepEnds
    rw [hshort]
  refine ⟨?_, fun hc => h.marks _ ?_, fun hp ha => h.marks _ ?_, fun hs => ⟨h.marks _ ?_, h.events _ ?_⟩⟩
  · rw [h.session, hends]
    cases short <;> exact hput
  · rw [hmarks, if_pos hc]
    simp
  · rw [hmarks, if_pos (⟨hp, ha⟩ : z.phase = .opening ∧ 120 ≤ z.age)]
    simp
  · rw [hmarks, if_pos hs]
    simp
  · rw [hends, hs]
    unfold State.hasEvent
    rw [raiseIf_true, raise_events, BitVec.getLsbD_or]
    simp [Event.bit, Event.num]

/-- A session that the step closes. -/
theorem SteppedAt.closes (h : SteppedAt s x a t ms) (hr : x.room ≤ 6) {why : CloseReason} {y : Session}
    (hstep : (stepSession x a).1 = closeSession x.room why (putSession y a)) :
    t.session x.room = none ∧ t.demand.boostOf x.room = none ∧ t.hasEvent .boostClosed = true ∧
      t.room x.room = { s.room x.room with
        lastClose := some why, cooldown := (if why = CloseReason.released then (s.room x.room).cooldown else 1800) - 1 } := by
  have hroom : (closeSession x.room why (putSession y a)).room x.room = { s.room x.room with
      lastClose := some why, cooldown := if why = CloseReason.released then (s.room x.room).cooldown else 1800 } := by
    rw [(closeSession_room hr why (putSession y a)).1]
    change { a.room x.room with
      lastClose := some why, cooldown := if why = CloseReason.released then (a.room x.room).cooldown else 1800 } = _
    rw [h.before.room]
  refine ⟨?_, ?_, h.events _ ?_, ?_⟩
  · rw [h.session, hstep, closeSession_session, if_pos rfl]
  · rw [h.boost, hstep]
    exact (closeSession_boostOf hr why _).1
  · rw [hstep]
    unfold State.hasEvent
    rw [closeSession_eq, BitVec.getLsbD_or]
    simp [Event.bit, Event.num]
  · rw [h.room, hstep, hroom]

theorem older_counts (h : x.phase ≠ .active ∨ x.callTime ≠ some 1) :
    stepCall (older x) = ({ x with age := x.age + 1, callTime := x.callTime.map (· - 1) }, false) := stepCall_counts h

end Outcomes

theorem sessionStep_marked {s : State} {m : SessionMark} {c : Instr} (hpower : s.power = .running)
    (hc : exec c s = .next (whenRunning (whenMarked m sessionStep) s)) (hm : m ∈ (sessionStep s).2) :
    exec c s = .next (sessionStep s).1 := by
  rw [hc, whenRunning_on hpower, whenMarked_on hm]

theorem sessionStep_frame (s : State) : SessionsFrame s (sessionStep s).1 := by
  have hrooms := sessionsFrame_stepRooms (s.sessions.map (·.room)) s []
  rw [sessionStep_eq]
  exact hrooms.trans rfl

/-- Settles O46. -/
theorem sessionStepRows : Obligations.SessionStepRows := by
  unfold Obligations.SessionStepRows
  intro s hpower hboosts
  have hrange := hboosts.2.1
  refine ⟨(sessionStep s).1, congrArg Host.Outcome.next (whenRunning_on hpower), sessionStep_frame s, fun k hk hnone => ?_,
    fun hstays x hx hover target htarget a ha => ?_,
    fun x hx => ⟨fun hage => ?_, fun hage hp o ho hend => ?_, fun hage hp o ho hgo hc => ?_, fun hage hp hc ho => ?_,
      fun hopen hage hp ho => ?_, fun hage hp hh ho hc hs hn ht hstays => ?_⟩⟩
  · have hnot : k ∉ s.sessions.map (·.room) := by
      rintro h
      obtain ⟨y, hy, rfl⟩ := List.mem_map.mp h
      exact session_none hnone y hy rfl
    have hrooms : ∀ r ∈ s.sessions.map (·.room), r ≤ 6 := by
      rintro r hr
      obtain ⟨y, hy, rfl⟩ := List.mem_map.mp hr
      exact hrange y hy
    obtain ⟨haside, -⟩ := aside_stepRooms _ hrooms hnot s []
    rw [sessionStep_eq]
    refine ⟨haside.session.trans hnone, (lowerCooldowns_room hk _).trans ?_⟩
    rw [haside.room]
  · obtain ⟨b, hat⟩ := steppedAt hboosts hx
    have hage : x.age < 7199 := (hstays x hx).1
    have hfans := hat.fans hstays
    have hgo : ∀ {w short}, x.phase ≠ .active ∨ x.callTime ≠ some 1 →
        stepShort target (stepOpening s.fans.extract.qMeas target a) = (w, short) →
        (sessionStep s).1.session x.room = some w := by
      intro w short hcall hshort
      rw [ha, htarget, ← hfans] at hshort
      exact (hat.goes hage (older_counts hcall) (stepOverrun_none hover) hshort).1
    have haphase : a.phase = x.phase := by rw [ha]
    have haheld : a.held = x.held := by rw [ha]
    have haage : a.age = x.age + 1 := by rw [ha]
    have halevel : a.level = x.level := by rw [ha]
    have hacount : a.shortCount = x.shortCount := by rw [ha]
    have haserved : a.servedShort = x.servedShort := by rw [ha]
    refine ⟨fun hp ho hw => ?_, fun hp ho hh hf hn => ?_, fun hp hh hc => ?_, fun hp hh hc hn => ?_⟩
    · refine hgo (Or.inl (by rw [hp]; exact nofun)) (short := false) ?_
      rw [stepOpening_waits (Or.inr ⟨by omega, by rw [haheld, halevel]; exact hw⟩),
        stepShort_idle (Or.inl (by rw [haphase, hp]; exact nofun))]
    · refine hgo (Or.inl (by rw [hp]; exact nofun)) (short := false) ?_
      rw [stepOpening_opens (haphase.trans hp) (Or.inr ⟨haheld.trans hh, by rw [halevel]; exact hf⟩),
        stepShort_counts (x := { a with phase := .active }) rfl (haheld.trans hh) (Or.inl (hacount.trans_lt hn))]
      have hmin : min (x.shortCount + 1) 60 = x.shortCount + 1 := by omega
      rw [halevel, hacount, hmin]
    · refine hgo (Or.inr hc) (short := false) ?_
      rw [stepOpening_waits (Or.inl (by rw [haphase, hp]; exact nofun)), stepShort_idle (Or.inr (haheld.trans hh))]
    · refine hgo (Or.inr hc) (short := false) ?_
      rw [stepOpening_waits (Or.inl (by rw [haphase, hp]; exact nofun)),
        stepShort_counts (haphase.trans hp) (haheld.trans hh) (by rw [hacount, haserved]; exact hn), halevel, hacount]
  · obtain ⟨b, hat⟩ := steppedAt hboosts hx
    have hstep := stepSession_times_out (a := b) hage
    obtain ⟨hsession, hboost, hevent, hroom⟩ := hat.closes (hrange x hx) (congrArg Prod.fst hstep)
    refine ⟨sessionStep_marked hpower rfl (hat.marks _ ?_), hsession, hboost, hevent, hroom⟩
    rw [hstep]
    exact List.mem_singleton_self _
  · obtain ⟨b, hat⟩ := steppedAt hboosts hx
    have hfalls : stepOverrun false { x with age := x.age + 1, callTime := x.callTime.map (· - 1) } = _ := stepOverrun_falls ho
    rw [decide_eq_true hend] at hfalls
    have hstep := stepSession_releases (a := b) hage (older_counts (Or.inl (by rw [hp]; exact nofun))) hfalls
    obtain ⟨hsession, hboost, hevent, hroom⟩ := hat.closes (hrange x hx) (congrArg Prod.fst hstep)
    refine ⟨sessionStep_marked hpower rfl (hat.marks _ ?_), hsession, hboost, hevent, hroom⟩
    rw [hstep]
    exact List.mem_append_right _ (List.mem_singleton_self _)
  · obtain ⟨b, hat⟩ := steppedAt hboosts hx
    have hfalls : stepOverrun false { x with age := x.age + 1, callTime := x.callTime.map (· - 1) } = _ := stepOverrun_falls ho
    rw [decide_eq_false (by omega)] at hfalls
    have hshort := stepShort_idle (target := b.fans.extract.qTarget)
      (x := { x with age := x.age + 1, callTime := x.callTime.map (· - 1), overrun := some (o - 1) })
      (Or.inl (by rw [hp]; exact nofun))
    rw [← stepOpening_waits (q := b.fans.extract.qMeas) (target := b.fans.extract.qTarget)
      (x := { x with age := x.age + 1, callTime := x.callTime.map (· - 1), overrun := some (o - 1) })
      (Or.inl (by rw [hp]; exact nofun))] at hshort
    obtain ⟨hsession, -⟩ := hat.goes hage (older_counts (Or.inl (by rw [hp]; exact nofun))) hfalls hshort
    rw [hsession, stepOpening_waits (Or.inl (by rw [hp]; exact nofun)), hc]
    rfl
  · obtain ⟨b, hat⟩ := steppedAt hboosts hx
    have hwaits := stepOpening_waits (q := b.fans.extract.qMeas) (target := b.fans.extract.qTarget) (x := (older x).release)
      (Or.inl nofun)
    have hshort := stepShort_idle (target := b.fans.extract.qTarget) (x := (older x).release) (Or.inl nofun)
    rw [← hwaits] at hshort
    obtain ⟨hsession, hmark, -⟩ := hat.goes hage (stepCall_releases (x := older x) hp hc) stepOverrun_fresh hshort
    refine ⟨sessionStep_marked hpower rfl (hmark rfl), ?_⟩
    rw [hsession, hwaits]
    rfl
  · obtain ⟨b, hat⟩ := steppedAt hboosts hx
    obtain ⟨hsession, -, hmark, -⟩ := hat.goes hage (older_counts (Or.inl (by rw [hp]; exact nofun))) (stepOverrun_none ho) (Prod.eta _).symm
    refine ⟨sessionStep_marked hpower rfl (hmark hp (Nat.succ_le_succ hopen)), ?_⟩
    rw [hsession, Option.map_some, stepShort_keeps, stepOpening_opens (x := { x with
      age := x.age + 1, callTime := x.callTime.map (· - 1) }) hp (Or.inl (Nat.succ_le_succ hopen))]
  · obtain ⟨b, hat⟩ := steppedAt hboosts hx
    have hfans := hat.fans hstays
    have hserve := stepShort_serves (x := { x with age := x.age + 1, callTime := x.callTime.map (· - 1) })
      (target := b.fans.extract.qTarget) hp hh hs hn (by rw [hfans]; exact ht)
    rw [← stepOpening_waits (q := b.fans.extract.qMeas) (target := b.fans.extract.qTarget)
      (x := { x with age := x.age + 1, callTime := x.callTime.map (· - 1) }) (Or.inl (by rw [hp]; exact nofun))] at hserve
    obtain ⟨hsession, -, -, hshort⟩ := hat.goes hage (older_counts (Or.inr hc)) (stepOverrun_none ho) hserve
    obtain ⟨hmark, hevent⟩ := hshort rfl
    refine ⟨sessionStep_marked hpower rfl hmark, ?_, hevent⟩
    rw [hsession, stepOpening_waits (Or.inl (by rw [hp]; exact nofun))]

end Sys2Proof.Proofs
end

section
/-! SUPPORT. Proofs: rows, jobs and misses of the room line (O39). -/

namespace Sys2Proof.Proofs

open Sys2Proof Sys2Proof.Machine

/-! ### Rows of a legal table (06, "The node table") -/

section Rows

variable {t : NodeTable} {p a : Nat} {r : NodeRow}

/-- Of a legal table the row at a position is the one that its address finds. -/
theorem rowOf_of_rowAt (hlegal : NodesLegal t) (h1 : 1 ≤ p) (hr : rowAt t p = some r) :
    rowOf t r.address = some (p, r) := by
  obtain ⟨hapart, -⟩ := nodesLegal_iff.mp hlegal
  have hplace := getElem?_of_rowAt hr
  cases hfind : rowOf t r.address with
  | none => exact absurd (findRow_none hfind hplace) (by simp)
  | some qr =>
    obtain ⟨q, r'⟩ := qr
    obtain ⟨hq1, -, hq, haddress⟩ := findRow_some hfind
    have hsame : q = p := by
      by_contra hne
      exact (hapart (q - 1) (p - 1) r' r (by omega) (getElem?_of_rowAt hq) hplace).1 (by simpa using haddress)
    subst hsame
    rw [Option.some.inj (hq.symm.trans hr)]

theorem ofCode_none {k : Nat} (h : 6 ≤ k) : RoomKind.ofCode k = none := by
  unfold RoomKind.ofCode
  split <;> first | omega | rfl

end Rows

/-! ### A job's going on -/

section Jobs

variable {s : State} {x : Txn}

theorem visitRows_cases (n : Nat) (s : State) :
    (∃ p, ∃ r : NodeRow, visitRows n s = s.setLine { s.line with pos := some p, txn := some (.start r.address r.seqBit) }) ∨
      visitRows n s = endJob s := by
  unfold visitRows
  split
  next p r _ => exact Or.inl ⟨p, r, rfl⟩
  next => exact Or.inr rfl

theorem visitAddresses_cases (n : Nat) (s : State) :
    (∃ a, visitAddresses n s = s.setLine { s.line with sweep := some a, txn := some (.start a false) }) ∨
      visitAddresses n s = endJob s := by
  unfold visitAddresses
  split
  next a _ => exact Or.inl ⟨a, rfl⟩
  next => exact Or.inr rfl

/-- A job that goes on does not go on with an exchange that is open, and keeps the line's counts. -/
theorem proceed_keeps (s : State) : (proceed s).line.changeCount = s.line.changeCount ∧
    (proceed s).line.ignored = s.line.ignored ∧
    (s.line.job ≠ .noJob → ∀ x : Txn, x.phase = .exchange → (proceed s).line.txn ≠ some x) := by
  have hrows : ∀ n, (visitRows n s).line.changeCount = s.line.changeCount ∧ (visitRows n s).line.ignored = s.line.ignored ∧
      (s.line.job ≠ .noJob → ∀ x : Txn, x.phase = .exchange → (visitRows n s).line.txn ≠ some x) := by
    intro n
    obtain ⟨p, r, h⟩ | h := visitRows_cases n s <;> rw [h]
    · refine ⟨rfl, rfl, fun _ x hx hsame => ?_⟩
      cases hsame
      exact nomatch hx
    · exact ⟨rfl, rfl, fun _ _ _ => nofun⟩
  have haddresses : ∀ n, (visitAddresses n s).line.changeCount = s.line.changeCount ∧
      (visitAddresses n s).line.ignored = s.line.ignored ∧
      (s.line.job ≠ .noJob → ∀ x : Txn, x.phase = .exchange → (visitAddresses n s).line.txn ≠ some x) := by
    intro n
    obtain ⟨a, h⟩ | h := visitAddresses_cases n s <;> rw [h]
    · refine ⟨rfl, rfl, fun _ x hx hsame => ?_⟩
      cases hsame
      exact nomatch hx
    · exact ⟨rfl, rfl, fun _ _ _ => nofun⟩
  unfold proceed
  split
  · exact hrows _
  · exact hrows _
  · exact haddresses _
  next h => exact ⟨rfl, rfl, fun hno => absurd h hno⟩

end Jobs

/-! ### A miss (R112) -/

section Misses

variable {s : State} {p : Nat} {r : NodeRow} {x : Txn}

theorem sensingLost_line (room : Nat) (gone : Bool) (l : LineRecord) (s : State) :
    sensingLost room gone (s.setLine l) = (sensingLost room gone s).setLine l := by
  cases hx : s.session room with
  | none => rw [sensingLost_closed gone hx, sensingLost_closed gone (s := s.setLine l) hx]
  | some x => rw [sensingLost_open gone hx, sensingLost_open gone (s := s.setLine l) hx]; rfl

/-- The third miss: the row falls SILENT. -/
theorem rowMiss_silent (hm : r.missed = 2) (hp : r.presence = .present) :
    rowMiss p r s = sensingLost r.room false { s with
      nodes := setRow s.nodes p (some { r with missed := 3, presence := .silent })
      rooms := s.rooms.setIfInBounds r.room { s.room r.room with ring := [], rise := none }
      events := s.events ||| Event.nodeSilent.bit } := by
  unfold rowMiss
  dsimp only
  rw [hm]
  exact if_pos ⟨rfl, hp⟩

theorem not_silent (h : ¬ (r.missed = 2 ∧ r.presence = .present)) :
    ¬ (min (r.missed + 1) 255 = 3 ∧ r.presence = .present) :=
  fun ⟨hm, hp⟩ => h ⟨by omega, hp⟩

/-- The tenth miss of a LEARNED row: it is removed. -/
theorem rowMiss_removes (hm : r.missed = 9) (hp : r.presence ≠ .lost) (ho : r.origin = .learned) :
    rowMiss p r s = (sensingLost r.room true { s with
      nodes := setRow s.nodes p none
      rooms := s.rooms.setIfInBounds r.room { s.room r.room with
        bound := false, kind := none, rh := none, temp := none, rise := none, ring := [], sensorError := false }
      events := s.events ||| Event.nodeLost.bit }).setLine
        { s.line with changeCount := (s.line.changeCount + 1) % 256 } := by
  unfold rowMiss
  dsimp only
  rw [hm, if_neg (fun h => absurd h.1 (by decide)), if_pos ⟨rfl, hp⟩, if_pos ho, ← sensingLost_line]
  rfl

/-- The tenth miss of a PINNED row: it is LOST. -/
theorem rowMiss_loses (hm : r.missed = 9) (hp : r.presence ≠ .lost) (ho : r.origin = .pinned) :
    rowMiss p r s = { s with
      nodes := setRow s.nodes p (some { r with missed := 10, presence := .lost })
      events := s.events ||| Event.nodeLost.bit } := by
  unfold rowMiss
  dsimp only
  rw [hm, if_neg (fun h => absurd h.1 (by decide)), if_pos ⟨rfl, hp⟩, if_neg (by rw [ho]; exact nofun)]
  rfl

/-- Any other miss counts. -/
theorem rowMiss_counts (hs : ¬ (r.missed = 2 ∧ r.presence = .present)) (hl : ¬ (r.missed = 9 ∧ r.presence ≠ .lost)) :
    rowMiss p r s = { s with nodes := setRow s.nodes p (some { r with missed := min (r.missed + 1) 255 }) } :=
  (if_neg (not_silent hs)).trans (if_neg fun ⟨hm, hp⟩ => hl ⟨by dsimp only at hm; omega, hp⟩)

theorem takeMiss_polled (hj : s.line.job = .pollCycle) (hr : rowOf s.nodes x.address = some (p, r)) :
    takeMiss x.address s = rowMiss p r s := by
  unfold takeMiss
  rw [hj, hr]

theorem takeMiss_idle (h : s.line.job ≠ .pollCycle ∨ rowOf s.nodes x.address = none) : takeMiss x.address s = s := by
  unfold takeMiss
  split
  next hj hr => exact absurd h (not_or.mpr ⟨not_not.mpr hj, by rw [hr]; exact nofun⟩)
  next => rfl

theorem origin_cases (r : NodeRow) : r.origin = .learned ∨ r.origin = .pinned := by
  cases r.origin <;> simp

/-- What a miss may change, and that it leaves the line but for the change count. -/
theorem takeMiss_frame (x : Txn) (s : State) :
    takeMiss x.address s = { s with
      line := { s.line with changeCount := (takeMiss x.address s).line.changeCount }
      nodes := (takeMiss x.address s).nodes, rooms := (takeMiss x.address s).rooms
      sessions := (takeMiss x.address s).sessions, events := (takeMiss x.address s).events } := by
  by_cases hj : s.line.job = .pollCycle
  · cases hr : rowOf s.nodes x.address with
    | none => rw [takeMiss_idle (Or.inr hr)]
    | some pr =>
      obtain ⟨p, r⟩ := pr
      rw [takeMiss_polled hj hr]
      by_cases hs : r.missed = 2 ∧ r.presence = .present
      · rw [rowMiss_silent hs.1 hs.2, sensingLost_eq]
      · by_cases hl : r.missed = 9 ∧ r.presence ≠ .lost
        · obtain ho | ho := origin_cases r
          · rw [rowMiss_removes hl.1 hl.2 ho, sensingLost_eq]
            rfl
          · rw [rowMiss_loses hl.1 hl.2 ho]
        · rw [rowMiss_counts hs hl]
  · rw [takeMiss_idle (Or.inl hj)]

end Misses

end Sys2Proof.Proofs
end

section
/-! SUPPORT. Proofs: waits and misses within the part (O39). -/

namespace Sys2Proof.Proofs

open Sys2Proof Sys2Proof.Machine

section Ends

variable {s : State} {x : Txn} {p : Nat} {r : NodeRow}

/-- R107: a second attempt that ends as no reply. -/
def missed (x : Txn) (s : State) : State := proceed (takeMiss x.address s)

theorem attemptFailed_first (h : x.attempt = 1) : attemptFailed x s = { s with
    line := { s.line with txn := some { x with attempt := 2, waits := 0, phase := .due, ms := 0 } } } := if_pos h

theorem attemptFailed_second (h : x.attempt ≠ 1) : attemptFailed x s = missed x s := if_neg h

/-- A frame that fails a test of R106. -/
theorem acceptable_fails {a rh kind : Nat} {temp : Int} {err call good : Bool}
    (h : good = false ∨ a ≠ x.address ∨ 1000 < rh ∨ temp < -400 ∨ 800 < temp ∨ 6 ≤ kind) :
    acceptable x a rh temp kind err call good = none := by
  rw [← Option.not_isSome_iff_eq_none, acceptable_isSome]
  rintro ⟨hg, ha, hrh, hlo, hhi, hk⟩
  obtain h | h | h | h | h | h := h
  · exact absurd (hg.symm.trans h) nofun
  · exact h ha.symm
  · omega
  · omega
  · omega
  · rw [ofCode_none h] at hk
    exact nomatch hk

/-- Each way in which an attempt ends as no reply. -/
theorem exec_fails {c : Instr} (hpower : s.power = .running) (hx : s.line.txn = some x) (hp : x.phase = .exchange)
    (hc : c = .replyWindowClose ∨ (c = .wait x.address true ∧ 3 ≤ x.waits) ∨
      (∃ a good, c = .wait a good ∧ (good = false ∨ a ≠ x.address)) ∨
      ∃ a rh temp kind err call good, c = .reading a rh temp kind err call good ∧ (good = false ∨ a ≠ x.address ∨
        1000 < rh ∨ temp < -400 ∨ 800 < temp ∨ 6 ≤ kind)) : exec c s = .next (attemptFailed x s) := by
  have hrun : ∀ f : Txn → State → State, exec c s = .next (whenRunning (inExchange f) s) → f x s = attemptFailed x s →
      exec c s = .next (attemptFailed x s) := by
    intro f hexec hf
    rw [hexec, whenRunning_on hpower, inExchange_on hx hp, hf]
  obtain rfl | ⟨rfl, hw⟩ | ⟨a, good, rfl, hbad⟩ | ⟨a, rh, temp, kind, err, call, good, rfl, hbad⟩ := hc
  · exact hrun attemptFailed rfl rfl
  · exact hrun _ rfl (if_neg fun ⟨_, _, hlt⟩ => absurd hlt (Nat.not_lt.mpr hw))
  · refine hrun _ rfl (if_neg fun ⟨hg, ha, _⟩ => ?_)
    exact hbad.elim (fun hf => absurd (hg.symm.trans hf) nofun) (fun hne => hne ha.symm)
  · refine hrun (takeReading a rh temp kind err call good) rfl ?_
    unfold takeReading
    rw [acceptable_fails hbad]

theorem missed_eq (x : Txn) (s : State) : missed x s = { takeMiss x.address s with line := (missed x s).line } := by
  unfold missed
  rw [proceed_eq]

theorem missed_line (x : Txn) (s : State) : (missed x s).line.changeCount = (takeMiss x.address s).line.changeCount :=
  (proceed_keeps _).1

theorem missed_frame (x : Txn) (s : State) : missed x s = { s with
    line := (missed x s).line, nodes := (missed x s).nodes, rooms := (missed x s).rooms
    sessions := (missed x s).sessions, events := (missed x s).events } := by
  have hmiss := missed_eq x s
  have hframe := takeMiss_frame x s
  generalize missed x s = t at hmiss ⊢
  generalize takeMiss x.address s = u at hframe hmiss
  rw [hframe] at hmiss
  rw [hmiss]

theorem missed_goesOn (x : Txn) (s : State) :
    JobGoesOn { s.line with changeCount := (missed x s).line.changeCount } (missed x s).nodes (missed x s).line := by
  have hgo := proceed_goesOn (takeMiss x.address s)
  have hnodes : (missed x s).nodes = (takeMiss x.address s).nodes := by rw [missed_eq]
  have hline : (takeMiss x.address s).line = { s.line with changeCount := (missed x s).line.changeCount } := by
    rw [missed_line]
    exact congrArg State.line (takeMiss_frame x s)
  rw [hline, ← hnodes] at hgo
  exact hgo

theorem missed_idle (h : s.line.job ≠ .pollCycle ∨ rowOf s.nodes x.address = none) :
    missed x s = { s with line := (missed x s).line } ∧ (missed x s).line.changeCount = s.line.changeCount := by
  have hidle := takeMiss_idle (x := x) h
  have hmiss := missed_eq x s
  have hline := missed_line x s
  rw [hidle] at hmiss hline
  exact ⟨hmiss, hline⟩

/-- R112: the third miss of a PRESENT row. -/
theorem missed_silent (hj : s.line.job = .pollCycle) (hr : rowOf s.nodes x.address = some (p, r)) (hm : r.missed = 2)
    (hp : r.presence = .present) : missed x s = { sensingLost r.room false { s with
      nodes := setRow s.nodes p (some { r with missed := 3, presence := .silent })
      rooms := s.rooms.setIfInBounds r.room { s.room r.room with ring := [], rise := none }
      events := s.events ||| Event.nodeSilent.bit } with line := (missed x s).line } ∧
      (missed x s).line.changeCount = s.line.changeCount := by
  have hmiss := missed_eq x s
  have hline := missed_line x s
  rw [takeMiss_polled hj hr, rowMiss_silent hm hp] at hmiss hline
  exact ⟨hmiss, hline.trans (by rw [sensingLost_eq])⟩

/-- R112: the tenth miss of a LEARNED row. -/
theorem missed_removes (hj : s.line.job = .pollCycle) (hr : rowOf s.nodes x.address = some (p, r)) (hm : r.missed = 9)
    (hp : r.presence ≠ .lost) (ho : r.origin = .learned) : missed x s = { sensingLost r.room true { s with
      nodes := setRow s.nodes p none
      rooms := s.rooms.setIfInBounds r.room { s.room r.room with
        bound := false, kind := none, rh := none, temp := none, rise := none, ring := [], sensorError := false }
      events := s.events ||| Event.nodeLost.bit } with line := (missed x s).line } ∧
      (missed x s).line.changeCount = (s.line.changeCount + 1) % 256 := by
  have hmiss := missed_eq x s
  have hline := missed_line x s
  rw [takeMiss_polled hj hr, rowMiss_removes hm hp ho] at hmiss hline
  exact ⟨hmiss, hline⟩

/-- R112: the tenth miss of a PINNED row. -/
theorem missed_loses (hj : s.line.job = .pollCycle) (hr : rowOf s.nodes x.address = some (p, r)) (hm : r.missed = 9)
    (hp : r.presence ≠ .lost) (ho : r.origin = .pinned) : missed x s = { s with
      nodes := setRow s.nodes p (some { r with missed := 10, presence := .lost })
      events := s.events ||| Event.nodeLost.bit, line := (missed x s).line } ∧
      (missed x s).line.changeCount = s.line.changeCount := by
  have hmiss := missed_eq x s
  have hline := missed_line x s
  rw [takeMiss_polled hj hr, rowMiss_loses hm hp ho] at hmiss hline
  exact ⟨hmiss, hline⟩

theorem missed_counts (hj : s.line.job = .pollCycle) (hr : rowOf s.nodes x.address = some (p, r))
    (hs : ¬ (r.missed = 2 ∧ r.presence = .present)) (hl : ¬ (r.missed = 9 ∧ r.presence ≠ .lost)) : missed x s = { s with
      nodes := setRow s.nodes p (some { r with missed := min (r.missed + 1) 255 }), line := (missed x s).line } ∧
      (missed x s).line.changeCount = s.line.changeCount := by
  have hmiss := missed_eq x s
  have hline := missed_line x s
  rw [takeMiss_polled hj hr, rowMiss_counts hs hl] at hmiss hline
  exact ⟨hmiss, hline⟩

/-- The position of the polled row alone changes. -/
theorem missed_others (hlegal : NodesLegal s.nodes) (h1 : 1 ≤ p) (hrow : rowAt s.nodes p = some r)
    (ha : r.address = x.address) (hj : s.line.job = .pollCycle) :
    ∃ o, (missed x s).nodes = setRow s.nodes p o := by
  have hr : rowOf s.nodes x.address = some (p, r) := by rw [← ha]; exact rowOf_of_rowAt hlegal h1 hrow
  by_cases hs : r.missed = 2 ∧ r.presence = .present
  · obtain ⟨heq, -⟩ := missed_silent hj hr hs.1 hs.2
    exact ⟨_, (congrArg State.nodes heq).trans (by rw [sensingLost_eq])⟩
  · by_cases hl : r.missed = 9 ∧ r.presence ≠ .lost
    · obtain ho | ho := origin_cases r
      · obtain ⟨heq, -⟩ := missed_removes hj hr hl.1 hl.2 ho
        exact ⟨_, (congrArg State.nodes heq).trans (by rw [sensingLost_eq])⟩
      · obtain ⟨heq, -⟩ := missed_loses hj hr hl.1 hl.2 ho
        exact ⟨_, congrArg State.nodes heq⟩
    · obtain ⟨heq, -⟩ := missed_counts hj hr hs hl
      exact ⟨_, congrArg State.nodes heq⟩

end Ends

/-- Settles O39. -/
theorem waitsAndMisses : Obligations.WaitsAndMisses := by
  unfold Obligations.WaitsAndMisses
  intro s x hpower hx hlegal
  refine ⟨fun hp a good => ?_, fun hp hw => ?_, fun c hp hc => ?_⟩
  · have hoff : s.line.txn.map (·.phase) ≠ some .exchange := by
      rw [hx]
      exact fun h => hp (Option.some.inj h)
    have hrun : ∀ f : Txn → State → State, whenRunning (inExchange f) s = s := fun f => by
      rw [whenRunning_on hpower, inExchange_off hoff]
    exact ⟨congrArg Host.Outcome.next (hrun (takeWait a good)), congrArg Host.Outcome.next (hrun attemptFailed)⟩
  · have hexec : exec (.wait x.address true) s = .next (whenRunning (inExchange (takeWait x.address true)) s) := rfl
    rw [hexec, whenRunning_on hpower, inExchange_on hx hp]
    exact congrArg Host.Outcome.next (if_pos ⟨rfl, rfl, hw⟩)
  · rw [exec_fails hpower hx hp hc]
    refine ⟨fun h => by rw [attemptFailed_first h], fun h => ?_⟩
    rw [attemptFailed_second h]
    refine ⟨_, rfl, missed_frame x s, fun hj => ?_, missed_goesOn x s, fun removed hrem => ⟨fun hyes => ?_, fun hno => ?_⟩,
      fun h => (missed_idle h).1, fun hj => ?_, fun hj p r hr => ⟨fun hm hpr => (missed_silent hj hr hm hpr).1,
        fun hm hpr ho => (missed_removes hj hr hm hpr ho).1, fun hcase => ?_⟩, fun hj p r h1 h6 hrow ha => ?_⟩
    · have hjob : (takeMiss x.address s).line.job = s.line.job := by rw [takeMiss_frame]
      obtain ⟨-, -, hne⟩ := proceed_keeps (takeMiss x.address s)
      exact hne (by rw [hjob]; exact hj) x hp
    · obtain ⟨hj, p, r, hr, hm, hpr, ho⟩ := hrem.mp hyes
      exact (missed_removes hj hr hm hpr ho).2
    · by_cases hj : s.line.job = .pollCycle
      · cases hr : rowOf s.nodes x.address with
        | none => exact (missed_idle (Or.inr hr)).2
        | some pr =>
          obtain ⟨p, r⟩ := pr
          by_cases hs : r.missed = 2 ∧ r.presence = .present
          · exact (missed_silent hj hr hs.1 hs.2).2
          · by_cases hl : r.missed = 9 ∧ r.presence ≠ .lost
            · obtain ho | ho := origin_cases r
              · exact absurd (hrem.mpr ⟨hj, p, r, hr, hl.1, hl.2, ho⟩) hno
              · exact (missed_loses hj hr hl.1 hl.2 ho).2
            · exact (missed_counts hj hr hs hl).2
      · exact (missed_idle (Or.inl hj)).2
    · rw [(missed_idle (Or.inl hj)).1]
      exact ⟨rfl, rfl, rfl, rfl⟩
    · obtain ⟨hm, hpr, ho⟩ | ⟨hs, hl⟩ := hcase
      · rw [(missed_loses hj hr hm hpr ho).1]
      · rw [(missed_counts hj hr hs hl).1]
    · have hr : rowOf s.nodes x.address = some (p, r) := by rw [← ha]; exact rowOf_of_rowAt hlegal h1 hrow
      obtain ⟨-, -, -, hroom⟩ := hlegal.2 r (mem_rows hrow)
      refine ⟨fun k hk => ?_, fun hm hpr => ?_, fun hm hpr => ?_, fun hs hl => ?_⟩
      · obtain ⟨o, ho⟩ := missed_others hlegal h1 hrow ha hj
        rw [ho]
        exact (rowAt_setRow s.nodes p o h1 h6).2 k hk
      · obtain ⟨heq, -⟩ := missed_silent hj hr hm hpr
        rw [heq, sensingLost_eq]
        refine ⟨rfl, (rowAt_setRow s.nodes p _ h1 h6).1, ?_, ?_⟩
        · exact congrArg RoomRecord.ring (room_setRoom s r.room _ hroom).1
        · exact congrArg RoomRecord.rise (room_setRoom s r.room _ hroom).1
      · obtain ho | ho := origin_cases r
        · obtain ⟨heq, hline⟩ := missed_removes hj hr hm hpr ho
          refine ⟨by rw [heq, sensingLost_eq], fun _ => ⟨?_, ?_, hline⟩, fun hpin => (nomatch ho.symm.trans hpin)⟩
          · rw [heq, sensingLost_eq]
            exact (rowAt_setRow s.nodes p _ h1 h6).1
          · rw [heq, sensingLost_eq]
            exact congrArg RoomRecord.bound (room_setRoom s r.room _ hroom).1
        · obtain ⟨heq, hline⟩ := missed_loses hj hr hm hpr ho
          refine ⟨by rw [heq], fun hlearned => (nomatch ho.symm.trans hlearned), fun _ => ⟨?_, hline⟩⟩
          rw [heq]
          exact (rowAt_setRow s.nodes p _ h1 h6).1
      · obtain ⟨heq, -⟩ := missed_counts hj hr hs hl
        rw [heq]
        exact ⟨rfl, (rowAt_setRow s.nodes p _ h1 h6).1⟩

end Sys2Proof.Proofs
end

section
/-! SUPPORT. Proofs: the host's requests to the room line (O42). -/

namespace Sys2Proof.Proofs

open Sys2Proof Sys2Proof.Machine

/-! ### Two writes of one position, and two asks for a save -/

theorem setRow_setRow (t : NodeTable) (p : Nat) (a b : Option NodeRow) : setRow (setRow t p a) p b = setRow t p b := by
  unfold setRow
  exact Vector.setIfInBounds_setIfInBounds _

theorem setRow_self {t : NodeTable} {p : Nat} {r : NodeRow} (h : rowAt t p = some r) :
    setRow t p (some r) = t := by
  have hplace := getElem?_of_rowAt h
  obtain ⟨hlt, hget⟩ := Vector.getElem?_eq_some_iff.mp hplace
  unfold setRow
  refine Vector.ext fun i hi => ?_
  obtain rfl | hne := eq_or_ne (p - 1) i
  · rw [Vector.getElem_setIfInBounds_self, hget]
  · rw [Vector.getElem_setIfInBounds_ne hi hne]

/-- An ask that is not refused leaves a write in progress. -/
theorem askSave_writes {s : State} (hc : s.store.closed = false) :
    (askSave s).store.closed = false ∧ (askSave s).store.writing.isSome = true := by
  cases hw : s.store.writing with
  | none => rw [askSave_starts hc hw]; exact ⟨hc, rfl⟩
  | some i =>
    have hsome : s.store.writing.isSome = true := by rw [hw]; rfl
    rw [askSave_pends hc hsome]
    exact ⟨hc, hsome⟩

/-- A second ask finds the first one's write. -/
theorem askSave_again {s t : State} (hc : s.store.closed = false) (ht : t.store = (askSave s).store) :
    (askSave t).store.savePending = true := by
  obtain ⟨hopen, hwrites⟩ := askSave_writes hc
  rw [askSave_pends (ht ▸ hopen) (ht ▸ hwrites)]

/-! ### A row removed (R120, R121, R126) -/

section Removed

variable (p : Nat) (r : NodeRow) (s : State)

theorem removeRow_eq : removeRow p r s = sensingLost r.room true { s with
    nodes := setRow s.nodes p none
    line := { s.line with changeCount := (s.line.changeCount + 1) % 256 }
    rooms := s.rooms.setIfInBounds r.room { s.room r.room with
      bound := false, kind := none, rh := none, temp := none, rise := none, ring := [], sensorError := false } } := rfl

theorem removeRow_sessions : removeRow p r s = { s with
    nodes := setRow s.nodes p none
    line := { s.line with changeCount := (s.line.changeCount + 1) % 256 }
    rooms := s.rooms.setIfInBounds r.room { s.room r.room with
      bound := false, kind := none, rh := none, temp := none, rise := none, ring := [], sensorError := false }
    sessions := (removeRow p r s).sessions } := by
  rw [removeRow_eq, sensingLost_eq]

theorem removeRow_room (hroom : r.room ≤ 6) : ((removeRow p r s).room r.room).bound = false := by
  rw [removeRow_sessions]
  exact congrArg RoomRecord.bound (room_setRoom s r.room _ hroom).1

end Removed

/-! ### A row unpinned (R120) -/

/-- R120: a PINNED row made LEARNED, before its save. -/
def unpinned (p : Nat) (r : NodeRow) (s : State) : State := { s with
  nodes := setRow s.nodes p (some { r with origin := .learned })
  line := { s.line with changeCount := (s.line.changeCount + 1) % 256 } }

theorem unpinRow_lost {p : Nat} {r : NodeRow} (s : State) (h : r.presence = .lost) :
    unpinRow p r s = askSave (removeRow p r (askSave (unpinned p r s))) := if_pos h

theorem unpinRow_present {p : Nat} {r : NodeRow} (s : State) (h : r.presence ≠ .lost) :
    unpinRow p r s = askSave (unpinned p r s) := if_neg h

/-! ### A row pinned (R119) -/

section Pinned

variable (p : Nat) (r : NodeRow) (k : RoomKind) (s : State)

/-- R119: the origin's change, where it changes. -/
def originPinned : State :=
  if r.origin = .pinned then s
  else askSave { s with
    nodes := setRow s.nodes p (some { r with origin := .pinned })
    line := { s.line with changeCount := (s.line.changeCount + 1) % 256 } }

theorem pinRow_eq : pinRow p r k s = if r.kind = k then originPinned p r s else askSave { originPinned p r s with
    nodes := setRow (originPinned p r s).nodes p (some { r with origin := .pinned, kind := k })
    line := { (originPinned p r s).line with changeCount := ((originPinned p r s).line.changeCount + 1) % 256 }
    rooms := (originPinned p r s).rooms.setIfInBounds r.room
      { (originPinned p r s).room r.room with kind := some k, limit := k.limit } } := by
  have horigin : (if r.origin = .pinned then s else askSave (bumpNodes (putRow p { r with origin := .pinned } s))) =
      originPinned p r s := rfl
  unfold pinRow
  dsimp only
  rw [horigin]
  generalize originPinned p r s = a
  rfl

theorem originPinned_frame : originPinned p r s = { s with
    nodes := (originPinned p r s).nodes, line := (originPinned p r s).line, store := (originPinned p r s).store } := by
  unfold originPinned
  split
  · rfl
  · rw [askSave_eq]

theorem pinRow_frame : pinRow p r k s = { s with
    nodes := (pinRow p r k s).nodes, line := (pinRow p r k s).line, rooms := (pinRow p r k s).rooms
    store := (pinRow p r k s).store } := by
  have horigin := originPinned_frame p r s
  rw [pinRow_eq]
  generalize originPinned p r s = a at horigin
  split
  · rw [horigin]
  · rw [askSave_eq, horigin]

variable {p r k s}

theorem originPinned_nodes (hr : rowAt s.nodes p = some r) :
    (originPinned p r s).nodes = setRow s.nodes p (some { r with origin := .pinned }) := by
  unfold originPinned
  split
  next h =>
    rw [← h]
    exact (setRow_self hr).symm
  next => rw [askSave_eq]

theorem originPinned_count (h : r.origin ≠ .pinned) :
    (originPinned p r s).line.changeCount = (s.line.changeCount + 1) % 256 := by
  unfold originPinned
  rw [if_neg h, askSave_eq]

theorem originPinned_same (h : r.origin = .pinned) : originPinned p r s = s := if_pos h

theorem pinRow_nodes (hr : rowAt s.nodes p = some r) :
    (pinRow p r k s).nodes = setRow s.nodes p (some { r with origin := .pinned, kind := k }) := by
  have horigin := originPinned_nodes hr
  rw [pinRow_eq]
  split
  next h => rw [horigin, ← h]
  next =>
    rw [askSave_eq]
    change setRow (originPinned p r s).nodes p _ = _
    rw [horigin, setRow_setRow]

theorem pinRow_count (h : r.origin ≠ .pinned ∨ r.kind ≠ k) : (pinRow p r k s).line.changeCount =
    (s.line.changeCount + (if r.origin = .pinned then 0 else 1) + (if r.kind = k then 0 else 1)) % 256 := by
  rw [pinRow_eq]
  by_cases hk : r.kind = k
  · have ho := h.resolve_right (not_not.mpr hk)
    rw [if_pos hk, if_pos hk, if_neg ho, originPinned_count ho]
  · rw [if_neg hk, if_neg hk, askSave_eq]
    change ((originPinned p r s).line.changeCount + 1) % 256 = _
    by_cases ho : r.origin = .pinned
    · rw [originPinned_same ho, if_pos ho]
    · rw [originPinned_count ho, if_neg ho]
      omega

theorem pinRow_pends (ho : r.origin ≠ .pinned) (hk : r.kind ≠ k) (hc : s.store.closed = false) :
    (pinRow p r k s).store.savePending = true := by
  rw [pinRow_eq, if_neg hk]
  refine askSave_again (s := { s with
    nodes := setRow s.nodes p (some { r with origin := .pinned })
    line := { s.line with changeCount := (s.line.changeCount + 1) % 256 } }) hc ?_
  unfold originPinned
  rw [if_neg ho]

theorem pinRow_same (ho : r.origin = .pinned) (hk : r.kind = k) : pinRow p r k s = s := by
  rw [pinRow_eq, if_pos hk, originPinned_same ho]

end Pinned

/-! ### The owners -/

section Owners

variable {h : State} {a m k : Byte}

theorem ownNodePin_bad (hbad : a = 0 ∨ 31 ≤ a.toNat ∨ m = 0 ∨ 7 ≤ m.toNat ∨ 6 ≤ k.toNat) :
    ownNodePin a m k h = refuse .badValue h := by
  unfold ownNodePin
  cases hkind : RoomKind.ofCode k.toNat with
  | none => rfl
  | some kd =>
    refine if_pos ?_
    obtain rfl | hbig | rfl | hbig | hbig := hbad
    · exact Or.inl rfl
    · exact Or.inr (Or.inl hbig)
    · exact Or.inr (Or.inr (Or.inl rfl))
    · exact Or.inr (Or.inr (Or.inr hbig))
    · rw [ofCode_none hbig] at hkind
      exact nomatch hkind

/-- R119: the checks of a request whose fields are in their ranges. -/
theorem ownNodePin_checks (ha : 1 ≤ a.toNat) (ha' : a.toNat ≤ 30) (hm : 1 ≤ m.toNat) (hm' : m.toNat ≤ 6) {kd : RoomKind}
    (hkind : RoomKind.ofCode k.toNat = some kd) {byA byM : Option (Nat × NodeRow)} (hA : byA = rowOf h.nodes a.toNat)
    (hM : byM = findRow h.nodes fun r => r.room == m.toNat) :
    (∀ p r, byA = some (p, r) → ownNodePin a m k h =
      if r.room = m.toNat then ok (pinRow p r kd h) else refuse .duplicate h) ∧
    (byA = none → byM.isSome = true → ownNodePin a m k h = refuse .duplicate h) ∧
    (byA = none → byM = none → (emptyPos h.nodes = none → ownNodePin a m k h = refuse .tableFull h) ∧
      ∀ p, emptyPos h.nodes = some p → ownNodePin a m k h =
        ok (askSave (createRow p (.unheard a.toNat m.toNat kd) h))) := by
  have hin : ¬ (a.toNat = 0 ∨ 30 < a.toNat ∨ m.toNat = 0 ∨ 6 < m.toNat) := by omega
  unfold ownNodePin
  rw [hkind]
  dsimp only
  rw [if_neg hin, ← hA, ← hM]
  refine ⟨?_, ?_, ?_⟩
  · rintro p r rfl
    rfl
  · rintro rfl hsome
    obtain ⟨pr, rfl⟩ := Option.isSome_iff_exists.mp hsome
    rfl
  · rintro rfl rfl
    refine ⟨fun hfull => ?_, fun p hp => ?_⟩
    · dsimp only
      rw [hfull]
    · dsimp only
      rw [hp]

end Owners

end Sys2Proof.Proofs
end

section
/-! SUPPORT. Proofs: DISCOVER, NODE_PIN, NODE_UNPIN and NODE_FORGET (O42). -/

namespace Sys2Proof.Proofs

open Sys2Proof Sys2Proof.Machine

section Requests

variable {tag : Byte} {s h : State} {q : Request}

theorem exec_discover (hacc : Accepts tag q s) (hh : h = heard tag q s) (hq : q = .discover) :
    (h.line.job ≠ .discovery → h.line.discPending = false → exec (q.toInstr tag) s =
      .next (replied tag q .ok [] { h with line := { h.line with discPending := true } })) ∧
    (h.line.job = .discovery ∨ h.line.discPending = true →
      exec (q.toInstr tag) s = .next (replied tag q .notNow [] h)) := by
  subst hq
  refine ⟨fun hjob hpending => exec_heard_now hacc hh ?_, fun hbusy => exec_heard_now hacc hh ?_⟩
  · exact if_neg (not_or.mpr ⟨hjob, by rw [hpending]; exact nofun⟩)
  · exact if_pos hbusy

/-- R119: what a PIN of its own row's address does. -/
theorem exec_pins {a m k : Byte} {kd : RoomKind} {p : Nat} {r : NodeRow} (hacc : Accepts tag q s) (hh : h = heard tag q s)
    (hq : q = .nodePin a m k) (howner : ownNodePin a m k h = ok (pinRow p r kd h)) (hrow : rowAt h.nodes p = some r) :
    ∃ u, exec (q.toInstr tag) s = .next (replied tag q .ok [] u) ∧
      u = { h with nodes := u.nodes, line := u.line, rooms := u.rooms, store := u.store } ∧
      u.nodes = setRow h.nodes p (some { r with origin := .pinned, kind := kd }) ∧
      (r.origin = .pinned → r.kind = kd → u.store = h.store ∧ u.line = h.line ∧ u.rooms = h.rooms) ∧
      (∀ b, b = (if r.origin = .pinned then h else askSave { h with
          nodes := setRow h.nodes p (some { r with origin := .pinned })
          line := { h.line with changeCount := (h.line.changeCount + 1) % 256 } }) →
        u = if r.kind = kd then b else askSave { b with
          nodes := setRow b.nodes p (some { r with origin := .pinned, kind := kd })
          line := { b.line with changeCount := (b.line.changeCount + 1) % 256 }
          rooms := b.rooms.setIfInBounds r.room { b.room r.room with kind := some kd, limit := kd.limit } }) ∧
      (r.origin ≠ .pinned ∨ r.kind ≠ kd → u.line.changeCount = (h.line.changeCount +
        (if r.origin = .pinned then 0 else 1) + (if r.kind = kd then 0 else 1)) % 256) ∧
      (r.origin ≠ .pinned → r.kind ≠ kd → h.store.closed = false → u.store.savePending = true) := by
  subst hq
  refine ⟨_, exec_heard_now hacc hh howner, pinRow_frame p r kd h, pinRow_nodes hrow, fun ho hk => ?_, fun b hb => ?_,
    pinRow_count, pinRow_pends⟩
  · rw [pinRow_same ho hk]
    exact ⟨rfl, rfl, rfl⟩
  · rw [pinRow_eq, hb]
    rfl

theorem exec_nodePin {a m k : Byte} (hacc : Accepts tag q s) (hh : h = heard tag q s) (hq : q = .nodePin a m k) :
    (a = 0 ∨ 31 ≤ a.toNat ∨ m = 0 ∨ 7 ≤ m.toNat ∨ 6 ≤ k.toNat →
      exec (q.toInstr tag) s = .next (replied tag q .badValue [] h)) ∧
    ∀ u, ∀ r : Result, ownNodePin a m k h = (.now r [], u) → exec (q.toInstr tag) s = .next (replied tag q r [] u) := by
  subst hq
  exact ⟨fun hbad => exec_heard_now hacc hh (ownNodePin_bad hbad), fun u r ho => exec_heard_now hacc hh ho⟩

/-- What NODE_UNPIN and NODE_FORGET share: an address out of its range, and one that no row holds. -/
theorem exec_unpins {a : Byte} (hacc : Accepts tag q s) (hh : h = heard tag q s)
    (hq : q = .nodeUnpin a ∨ q = .nodeForget a) :
    (a = 0 ∨ 31 ≤ a.toNat → exec (q.toInstr tag) s = .next (replied tag q .badValue [] h)) ∧
    (1 ≤ a.toNat → a.toNat ≤ 30 → rowOf h.nodes a.toNat = none →
      exec (q.toInstr tag) s = .next (replied tag q .noSuch [] h)) := by
  have hzero : a = 0 ∨ 31 ≤ a.toNat → a.toNat = 0 ∨ 30 < a.toNat := by
    rintro (rfl | hbig)
    · exact Or.inl rfl
    · exact Or.inr hbig
  obtain rfl | rfl := hq
  · refine ⟨fun hbad => exec_heard_now hacc hh (if_pos (hzero hbad)), fun h1 h30 hnone => exec_heard_now hacc hh ?_⟩
    dsimp only [ownerOf, ownNodeUnpin]
    rw [if_neg (by omega), hnone]
    rfl
  · refine ⟨fun hbad => exec_heard_now hacc hh (if_pos (hzero hbad)), fun h1 h30 hnone => exec_heard_now hacc hh ?_⟩
    dsimp only [ownerOf, ownNodeForget]
    rw [if_neg (by omega), hnone]
    rfl

/-- R120: UNPIN of an address that a row holds. -/
theorem exec_nodeUnpin {a : Byte} {p : Nat} {r : NodeRow} (hacc : Accepts tag q s) (hh : h = heard tag q s)
    (hq : q = .nodeUnpin a) (h1 : 1 ≤ a.toNat) (h30 : a.toNat ≤ 30) (hr : rowOf h.nodes a.toNat = some (p, r)) :
    (r.origin = .learned → exec (q.toInstr tag) s = .next (replied tag q .ok [] h)) ∧
    (r.origin = .pinned → exec (q.toInstr tag) s = .next (replied tag q .ok [] (unpinRow p r h))) := by
  subst hq
  refine ⟨fun ho => exec_heard_now hacc hh ?_, fun ho => exec_heard_now hacc hh ?_⟩
  all_goals
    dsimp only [ownerOf, ownNodeUnpin]
    rw [if_neg (by omega), hr]
    dsimp only
    rw [ho]
    rfl

/-- R121: FORGET of an address that a row holds. -/
theorem exec_nodeForget {a : Byte} {p : Nat} {r : NodeRow} (hacc : Accepts tag q s) (hh : h = heard tag q s)
    (hq : q = .nodeForget a) (h1 : 1 ≤ a.toNat) (h30 : a.toNat ≤ 30) (hr : rowOf h.nodes a.toNat = some (p, r)) :
    exec (q.toInstr tag) s = .next (replied tag q .ok [] (askSave (removeRow p r h))) := by
  subst hq
  refine exec_heard_now hacc hh ?_
  dsimp only [ownerOf, ownNodeForget]
  rw [if_neg (by omega), hr]
  rfl

end Requests

/-- A removed row's place, and the others', of a table in which the row at the place alone may have changed. -/
theorem removeRow_rows {p : Nat} {r : NodeRow} {b h : State} (h1 : 1 ≤ p) (h6 : p ≤ 6)
    (hb : ∀ k, k ≠ p → rowAt b.nodes k = rowAt h.nodes k) :
    rowAt (removeRow p r b).nodes p = none ∧ ∀ k, k ≠ p → rowAt (removeRow p r b).nodes k = rowAt h.nodes k := by
  obtain ⟨hat, hothers⟩ := rowAt_setRow b.nodes p none h1 h6
  rw [removeRow_sessions]
  exact ⟨hat, fun k hk => (hothers k hk).trans (hb k hk)⟩

/-- Settles O42. -/
theorem lineRequests : Obligations.LineRequests := by
  unfold Obligations.LineRequests
  intro tag s q hacc h hh
  refine ⟨fun hq hjob hpending => (exec_discover hacc hh hq).1 hjob hpending,
    fun hq hbusy => (exec_discover hacc hh hq).2 hbusy, fun a m k hq => ?_, fun a hq => ?_⟩
  · obtain ⟨hbad, hnow⟩ := exec_nodePin hacc hh hq
    refine ⟨hbad, fun ha ha' hm hm' kd hkind byA hA byM hM => ?_⟩
    obtain ⟨hrow, hroom, hfree⟩ := ownNodePin_checks ha ha' hm hm' hkind hA hM
    refine ⟨fun p r hpr hne => hnow _ _ ?_, fun hno hyes => hnow _ _ (hroom hno hyes),
      fun hno hno' hfull => hnow _ _ ((hfree hno hno').1 hfull), fun hno hno' p hp => hnow _ _ ((hfree hno hno').2 p hp),
      fun p r hpr hsame => ?_⟩
    · rw [hrow p r hpr, if_neg hne]
      rfl
    · have howner := hrow p r hpr
      rw [if_pos hsame] at howner
      obtain ⟨-, -, hat, -⟩ := findRow_some (hA.symm.trans hpr)
      exact exec_pins hacc hh hq howner hat
  · obtain ⟨hbad, hnone⟩ := exec_unpins hacc hh hq
    refine ⟨hbad, hnone, fun h1 h30 p r hr => ⟨fun hq' ho => (exec_nodeUnpin hacc hh hq' h1 h30 hr).1 ho,
      fun hq' ho hp => ?_, fun hgone => ?_⟩⟩
    · rw [(exec_nodeUnpin hacc hh hq' h1 h30 hr).2 ho, unpinRow_present h hp]
      rfl
    · obtain ⟨hp1, hp6, -, -⟩ := findRow_some hr
      by_cases hforget : q = .nodeForget a
      · refine ⟨removeRow p r h, exec_nodeForget hacc hh hforget h1 h30 hr, ?_, ?_, fun hunpin => ?_,
          (removeRow_rows hp1 hp6 fun _ _ => rfl).1, (removeRow_rows hp1 hp6 fun _ _ => rfl).2, removeRow_room p r h⟩
        · rintro b hb
          rw [if_pos hforget] at hb
          rw [hb]
          exact ⟨by rw [removeRow_sessions], removeRow_eq p r h⟩
        · rw [if_pos hforget, removeRow_sessions]
        · exact absurd (hunpin.symm.trans hforget) nofun
      · have hq' := hq.resolve_right hforget
        obtain ⟨ho, hlost⟩ := hgone.resolve_left hforget
        have hexec := (exec_nodeUnpin hacc hh hq' h1 h30 hr).2 ho
        rw [unpinRow_lost h hlost] at hexec
        have hnodes : (askSave (unpinned p r h)).nodes = setRow h.nodes p (some { r with origin := .learned }) := by
          rw [askSave_eq]
          rfl
        obtain ⟨hat, hothers⟩ := removeRow_rows (r := r) (b := askSave (unpinned p r h)) (h := h) hp1 hp6 fun k hk => by
          rw [hnodes]
          exact (rowAt_setRow h.nodes p _ hp1 hp6).2 k hk
        refine ⟨removeRow p r (askSave (unpinned p r h)), hexec, ?_, ?_, fun _ hc => ?_, hat, hothers,
          removeRow_room p r _⟩
        · rintro b hb
          rw [if_neg hforget] at hb
          subst hb
          refine ⟨?_, removeRow_eq p r _⟩
          rw [removeRow_sessions]
          rfl
        · rw [if_neg hforget, removeRow_sessions, askSave_eq]
          change ((h.line.changeCount + 1) % 256 + 1) % 256 = _
          omega
        · refine askSave_again (s := unpinned p r h) hc ?_
          rw [removeRow_sessions]

end Sys2Proof.Proofs
end

section
/-! SUPPORT. Proofs: the room line's timed rows, its conflicts and the start of its jobs (O37, O38, O41). -/

namespace Sys2Proof.Proofs

open Sys2Proof Sys2Proof.Machine

/-- A row that acts while the part runs. -/
theorem exec_running {c : Instr} {f : State → State} {s t : State} (hpower : s.power = .running)
    (hc : exec c s = .next (whenRunning f s)) (hf : f s = t) : exec c s = .next t := by
  rw [hc, whenRunning_on hpower, hf]

section Timed

variable {s : State} {x : Txn}

theorem sendPoll_low (s : State) : sendPoll true s = { s with line := { s.line with heldLow := true } } := by
  unfold sendPoll
  cases hx : s.line.txn with
  | none => rfl
  | some x => exact if_neg fun h => nomatch h.2

theorem sendPoll_opens (hx : s.line.txn = some x) (hp : x.phase = .due) : sendPoll false s = { s with
    line := { s.line with heldLow := false, txn := some { x with phase := .exchange, ms := 0 } } } := by
  unfold sendPoll
  rw [hx]
  exact if_pos ⟨hp, rfl⟩

theorem sendPoll_idle (h : s.line.txn.map (·.phase) ≠ some .due) :
    sendPoll false s = { s with line := { s.line with heldLow := false } } := by
  unfold sendPoll
  cases hx : s.line.txn with
  | none => rfl
  | some x =>
    refine if_neg fun hdue => h ?_
    rw [hx]
    exact congrArg some hdue.1

end Timed

/-- Settles O37. -/
theorem lineTimedRows : Obligations.LineTimedRows := by
  unfold Obligations.LineTimedRows
  rintro s hpower l rfl
  have hrun : ∀ {c : Instr} {f : State → State} {t : State}, exec c s = .next (whenRunning f s) → f s = t →
      exec c s = .next t := fun hc hf => exec_running hpower hc hf
  refine ⟨hrun rfl rfl, fun x hx => ⟨fun hp => hrun rfl (sendPoll_opens hx hp), fun hp => hrun rfl (endPhase_on hx hp),
    fun hp => hrun rfl (endPhase_on hx hp)⟩, hrun rfl (sendPoll_low s), fun h => hrun rfl (sendPoll_idle h),
    fun h => hrun rfl (endPhase_off h), fun h => hrun rfl (endPhase_off h), fun h => hrun rfl (if_pos h),
    fun h => hrun rfl (if_neg h), fun h h' => hrun rfl (if_pos ⟨h, h'⟩), fun h => hrun rfl (if_neg ?_), hrun rfl rfl,
    fun h => hrun rfl (if_pos h), fun h => hrun rfl (if_neg ?_), fun h h' => ⟨hrun rfl (if_neg ?_), hrun rfl (if_pos ⟨h, h'⟩)⟩,
    fun h h' => ⟨hrun rfl (if_neg ?_), hrun rfl (if_pos ⟨h, h'⟩)⟩, fun h => ⟨hrun rfl (if_neg fun ho => h ho.1),
      hrun rfl (if_neg fun ho => h ho.1)⟩⟩
  · exact fun ⟨hstate, hphase⟩ => h.elim hstate hphase
  · rw [h]
    exact nofun
  · rw [h']
    exact fun ho => nomatch ho.2
  · rw [h']
    exact fun ho => nomatch ho.2

/-! ### Conflicts (R108, R117) -/

theorem addConflict_inactive {s : State} (h : s.line.state ≠ .active) : addConflict s = s := if_neg h

theorem addConflict_counts {s : State} (h : s.line.state = .active) (hn : s.line.conflicts < 4) :
    addConflict s = { s with line := { s.line with conflicts := s.line.conflicts + 1 } } :=
  (if_pos h).trans (if_neg (by omega))

theorem addConflict_faults {s : State} (h : s.line.state = .active) (hn : 4 ≤ s.line.conflicts) :
    addConflict s = enterFault s := (if_pos h).trans (if_pos (by omega))

/-- A conflict on a line that the row has moved on, its state, count, interval, job and asks kept. -/
theorem exec_conflict {c : Instr} {s : State} {l : LineRecord}
    (hc : exec c s = .next (addConflict { s with line := l })) (hstate : l.state = s.line.state)
    (hcount : l.conflicts = s.line.conflicts) (hfault : enterFault { s with line := l } = { s with
        line := { l with
          state := .fault, suspension := s.line.interval, interval := min (2 * s.line.interval) 960, conflicts := 0
          job := .noJob, pos := none, sweep := none, txn := none, lineMs := 0
          callPending := s.line.callPending || s.line.job == .callSweep
          discPending := s.line.discPending || s.line.job == .discovery }
        events := s.events ||| Event.lineFault.bit }) :
    (s.line.state ≠ .active → exec c s = .next { s with line := l }) ∧
      (s.line.state = .active → s.line.conflicts < 4 →
        exec c s = .next { s with line := { l with conflicts := s.line.conflicts + 1 } }) ∧
      (s.line.state = .active → 4 ≤ s.line.conflicts → exec c s = .next { s with
        line := { l with
          state := .fault, suspension := s.line.interval, interval := min (2 * s.line.interval) 960, conflicts := 0
          job := .noJob, pos := none, sweep := none, txn := none, lineMs := 0
          callPending := s.line.callPending || s.line.job == .callSweep
          discPending := s.line.discPending || s.line.job == .discovery }
        events := s.events ||| Event.lineFault.bit }) := by
  rw [← hstate, ← hcount]
  refine ⟨fun h => ?_, fun h hn => ?_, fun h hn => ?_⟩
  · rw [hc, addConflict_inactive h]
  · rw [hc, addConflict_counts h hn]
  · rw [hc, addConflict_faults h hn, hfault]

/-- Settles O41. -/
theorem conflictsAndFault : Obligations.ConflictsAndFault := by
  unfold Obligations.ConflictsAndFault
  intro s hpower
  refine ⟨fun c l hcl => ?_, fun hdue hexchange => exec_running hpower rfl ?_⟩
  · obtain ⟨rfl, rfl⟩ | ⟨rfl, x, hx, hp, rfl⟩ := hcl
    · exact exec_conflict (exec_running hpower rfl rfl) rfl rfl rfl
    · have hconflict : pollConflict s = addConflict (setTxn (x.into .rest) s) := by
        unfold pollConflict
        rw [Option.mem_def.mp hx]
        exact if_pos hp.symm
      exact exec_conflict (exec_running hpower rfl hconflict) rfl rfl rfl
  · unfold pollConflict
    cases hx : s.line.txn with
    | none => rfl
    | some x =>
      rw [hx] at hdue hexchange
      refine if_neg fun hp => hp.elim (fun h => hexchange (congrArg some h)) fun h => hdue (congrArg some h)

/-! ### The start of a job (R109) -/

section JobStarts

variable {s : State} {p a : Nat} {r : NodeRow}

/-- The first row that the job polls. -/
theorem visitRows_first (h1 : 1 ≤ p) (h6 : p ≤ 6) (hr : rowAt s.nodes p = some r) (ht : jobTakes s.line.job r = true)
    (hbefore : ∀ k r', 1 ≤ k → k < p → rowAt s.nodes k = some r' → jobTakes s.line.job r' = false) :
    visitRows 1 s = s.setLine { s.line with pos := some p, txn := some (.start r.address r.seqBit) } :=
  (visitRows_spec 0 s).1 p r h1 h6 hr ht hbefore

theorem visitRows_none (h : ∀ k r', rowAt s.nodes k = some r' → jobTakes s.line.job r' = false) :
    visitRows 1 s = endJob s := (visitRows_spec 0 s).2 fun k r' _ hr => h k r' hr

theorem visitAddresses_first (h1 : 1 ≤ a) (h30 : a ≤ 30) (hfree : rowOf s.nodes a = none)
    (hbefore : ∀ k, 1 ≤ k → k < a → (rowOf s.nodes k).isSome = true) :
    visitAddresses 1 s = s.setLine { s.line with sweep := some a, txn := some (.start a false) } :=
  (visitAddresses_spec 0 s).1 a h1 h30 hfree hbefore

/-- What the idle ACTIVE line starts. -/
theorem jobStart_cases (hstate : s.line.state = .active) (hjob : s.line.job = .noJob) :
    (s.line.callPending = true →
      jobStart s = visitRows 1 (s.setLine { s.line with callPending := false, job := .callSweep })) ∧
    (s.line.callPending = false → s.line.cycleDue = true → jobStart s =
      visitRows 1 (s.setLine { s.line with cycleDue := false, job := .pollCycle, conflicts := 0 })) ∧
    (s.line.callPending = false → s.line.cycleDue = false → s.line.discPending = true → jobStart s =
      visitAddresses 1 (s.setLine
        { s.line with discPending := false, job := .discovery, ignored := 0, discTimer := 0, discMs := 0 })) ∧
    (s.line.callPending = false → s.line.cycleDue = false → s.line.discPending = false → jobStart s = s) := by
  unfold jobStart
  rw [if_pos ⟨hstate, hjob⟩]
  refine ⟨fun h => if_pos h, fun h1 h2 => ?_, fun h1 h2 h3 => ?_, fun h1 h2 h3 => ?_⟩
  · rw [h1, h2]
    rfl
  · rw [h1, h2, h3]
    rfl
  · rw [h1, h2, h3]
    rfl

theorem jobStart_busy (h : s.line.state ≠ .active ∨ s.line.job ≠ .noJob) : jobStart s = s :=
  if_neg fun ⟨hstate, hjob⟩ => h.elim (fun hs => hs hstate) fun hj => hj hjob

end JobStarts

/-- Settles O38. -/
theorem jobsStartInOrder : Obligations.JobsStartInOrder := by
  unfold Obligations.JobsStartInOrder
  rintro s hpower hstate hjob l rfl
  obtain ⟨hsweep, hcycle, hdiscovery, hnothing⟩ := jobStart_cases hstate hjob
  refine ⟨fun p r h1 h6 hr => ⟨fun hcall hlost hbefore => exec_running hpower rfl ?_,
    fun hcall hdue hbefore => exec_running hpower rfl ?_⟩, fun a h1 h30 hfree hbefore hcall hdue hdisc =>
    exec_running hpower rfl ?_, fun hcall hlost => exec_running hpower rfl ?_, fun hcall hdue hempty =>
    exec_running hpower rfl ?_, fun h1 h2 h3 => exec_running hpower rfl (hnothing h1 h2 h3),
    exec_running hpower rfl (jobStart_busy (Or.inl nofun)),
    fun j hj => exec_running hpower rfl (jobStart_busy (Or.inr hj))⟩
  · refine (hsweep hcall).trans (visitRows_first h1 h6 hr ?_ fun k r' hk hlt hr' => ?_)
    · simpa [jobTakes] using hlost
    · simpa [jobTakes] using hbefore k r' hk hlt hr'
  · refine (hcycle hcall hdue).trans (visitRows_first h1 h6 hr rfl fun k r' hk hlt hr' => ?_)
    exact nomatch (hbefore k hk hlt).symm.trans hr'
  · exact (hdiscovery hcall hdue hdisc).trans (visitAddresses_first h1 h30 hfree hbefore)
  · exact (hsweep hcall).trans (visitRows_none fun k r' hr' => by simpa [jobTakes] using hlost k r' hr')
  · exact (hcycle hcall hdue).trans (visitRows_none fun k r' hr' => nomatch (hempty k).symm.trans hr')

end Sys2Proof.Proofs
end

section
/-! SUPPORT. Proofs: what an accepted READING hands on (O40). -/

namespace Sys2Proof.Proofs

open Sys2Proof Sys2Proof.Machine

/-! ### What is handed to the humidity monitor (R111, steps 3 to 6) -/

/-- What the humidity monitor's work on a room keeps: the node table, the line and every event that is set. -/
structure RoomWork (s t : State) : Prop where
  nodes : t.nodes = s.nodes
  line : t.line = s.line
  events : ∀ e, s.hasEvent e = true → t.hasEvent e = true

section Work

variable {s t u : State} {room : Nat}

theorem RoomWork.refl (s : State) : RoomWork s s := ⟨rfl, rfl, fun _ => id⟩

theorem RoomWork.trans (h : RoomWork s t) (h' : RoomWork t u) : RoomWork s u :=
  ⟨h'.nodes.trans h.nodes, h'.line.trans h.line, fun e he => h'.events e (h.events e he)⟩

theorem roomWork_raise (e : Event) (s : State) : RoomWork s (raise e s) := ⟨rfl, rfl, fun v => hasEvent_raise e v⟩

theorem roomWork_openSession (trig : Trigger) (urg : Urgency) (s : State) : RoomWork s (openSession room trig urg s) :=
  ⟨rfl, rfl, fun v => hasEvent_raise .boostOpened v⟩

theorem roomWork_closeSession (why : CloseReason) (s : State) : RoomWork s (closeSession room why s) :=
  ⟨rfl, rfl, fun v => hasEvent_raise .boostClosed v⟩

theorem roomWork_relevel (x y : Session) (s : State) : RoomWork s (relevel x y s) := by
  unfold relevel
  split
  · exact RoomWork.refl s
  · exact ⟨rfl, rfl, fun _ => id⟩

theorem roomWork_newSample (rh : Nat) (temp : Option Int) (s : State) : RoomWork s (newSample room rh temp s) := by
  by_cases hb : (s.room room).bound = true
  · have htaken : RoomWork s (taken room rh temp s) := ⟨rfl, rfl, fun _ => id⟩
    refine htaken.trans ?_
    cases hx : s.session room with
    | none =>
      rw [newSample_closed hb hx]
      unfold judgeTriggers
      dsimp only
      split
      · exact roomWork_openSession _ _ _
      · split
        · exact roomWork_openSession _ _ _
        · exact RoomWork.refl _
    | some x =>
      rw [newSample_open hb hx]
      unfold sampleSession
      dsimp only
      refine RoomWork.trans (t := putSession _ (taken room rh temp s)) ⟨rfl, rfl, fun _ => id⟩ (roomWork_relevel x _ _)
  · unfold newSample
    rw [if_neg hb]
    exact RoomWork.refl s

theorem roomWork_callArrival (room : Nat) (s : State) : RoomWork s (callArrival room s) := by
  unfold callArrival
  split
  · split
    · exact roomWork_openSession _ _ _
    · split
      · exact RoomWork.refl s
      · split
        · exact ⟨rfl, rfl, fun _ => id⟩
        · exact roomWork_closeSession _ _
        · exact RoomWork.refl s
  · exact RoomWork.refl s

theorem roomReturned_eq (room : Nat) (s : State) :
    roomReturned room s = { s with sessions := (roomReturned room s).sessions } := by
  unfold roomReturned
  split
  · rfl
  · split <;> rfl

theorem roomWork_roomReturned (room : Nat) (s : State) : RoomWork s (roomReturned room s) := by
  rw [roomReturned_eq]
  exact ⟨rfl, rfl, fun _ => id⟩

theorem roomWork_handReading (room : Nat) (d : Report) (s : State) : RoomWork s (handReading room d s) := by
  unfold handReading
  split
  · exact ⟨rfl, rfl, fun _ => id⟩
  · exact roomWork_newSample _ _ s

theorem roomWork_handCall (room : Nat) (d : Report) (s : State) : RoomWork s (handCall room d s) := by
  unfold handCall
  split
  · exact (roomWork_callArrival room s).trans (roomWork_raise _ _)
  · exact RoomWork.refl s

/-! ### The room's record -/

theorem room_of_rooms (h : t.rooms = s.rooms) (m : Nat) : t.room m = s.room m := by
  unfold State.room
  rw [h]

theorem callArrival_room (hr : room ≤ 6) (s : State) :
    ∃ why cool, (callArrival room s).room room = { s.room room with lastClose := why, cooldown := cool } := by
  have hkept : ∀ u : State, u.rooms = s.rooms →
      ∃ why cool, u.room room = { s.room room with lastClose := why, cooldown := cool } := fun u h =>
    ⟨(s.room room).lastClose, (s.room room).cooldown, room_of_rooms h room⟩
  unfold callArrival
  split
  · split
    · exact hkept _ rfl
    · split
      · exact hkept _ rfl
      · split
        · exact hkept _ rfl
        · exact ⟨_, _, (closeSession_room hr .cancelled s).1⟩
        · exact hkept _ rfl
  · exact hkept _ rfl

theorem handCall_room (hr : room ≤ 6) (d : Report) (s : State) :
    ∃ why cool, (handCall room d s).room room = { s.room room with lastClose := why, cooldown := cool } := by
  unfold handCall
  split
  · exact callArrival_room hr s
  · exact ⟨_, _, rfl⟩

/-- What a reading makes of a bound room's record. -/
theorem handReading_room (hr : room ≤ 6) (d : Report) (hb : (s.room room).bound = true) :
    ((handReading room d s).room room).sensorError = d.sensorError ∧
      ((handReading room d s).room room).rh = (if d.sensorError then (s.room room).rh else some d.rh) ∧
      ((handReading room d s).room room).bound = true ∧
      ((handReading room d s).room room).kind = (s.room room).kind := by
  unfold handReading
  cases hd : d.sensorError with
  | true =>
    have herror : (roomError room s).room room = { s.room room with sensorError := true } := (room_setRoom s room _ hr).1
    rw [if_pos rfl, if_pos rfl, herror]
    exact ⟨rfl, rfl, hb, rfl⟩
  | false =>
    have hsample : (newSample room d.rh (some d.temp) s).room room = addSample d.rh (some d.temp) (s.room room) := by
      have hrooms := newSample_rooms (rh := d.rh) (temp := some d.temp) hb
      have htaken : (newSample room d.rh (some d.temp) s).room room = (taken room d.rh (some d.temp) s).room room :=
        room_of_rooms hrooms room
      exact htaken.trans (room_setRoom s room _ hr).1
    rw [if_neg nofun, if_neg nofun, hsample]
    exact ⟨rfl, rfl, hb, rfl⟩

end Work

/-! ### A reply of a row (R111) -/

/-- R111, steps 1, 3 and 4: the row as the reading leaves it. -/
def reported (d : Report) (r : NodeRow) : NodeRow :=
  { r with
    missed := 0, presence := .present, seqBit := !r.seqBit
    lastRh := if d.sensorError then r.lastRh else some d.rh, lastT := if d.sensorError then r.lastT else some d.temp
    age := if d.sensorError then r.age else some 0, ageMs := if d.sensorError then r.ageMs else 0
    sensorError := d.sensorError }

theorem readRow_eq (d : Report) (r : NodeRow) :
    readRow d { r with missed := 0, presence := .present, seqBit := !r.seqBit } = reported d r := by
  unfold readRow reported
  cases d.sensorError <;> rfl

/-- R111, steps 1 and 2: the row's report, and its return handed to its room. -/
def rowReported (p : Nat) (r : NodeRow) (d : Report) (s : State) : State :=
  if r.presence = .present then { s with nodes := setRow s.nodes p (some (reported d r)) }
  else roomReturned r.room { s with nodes := setRow s.nodes p (some (reported d r)) }

section Replies

variable {s : State} {p : Nat} {r : NodeRow} {d : Report}

theorem rowReply_eq (p : Nat) (r : NodeRow) (d : Report) (s : State) : rowReply p r d s =
    handCall r.room d (handKind p d (reported d r) (handReading r.room d (rowReported p r d s))) := by
  unfold rowReply
  dsimp only
  rw [readRow_eq]
  rfl

theorem handKind_keeps (h : ¬ (r.origin = .learned ∧ r.kind ≠ d.kind)) (u : State) : handKind p d r u = u := if_neg h

theorem handKind_changes (h : r.origin = .learned ∧ r.kind ≠ d.kind) (u : State) : handKind p d r u = { u with
    nodes := setRow u.nodes p (some { r with kind := d.kind })
    line := { u.line with changeCount := (u.line.changeCount + 1) % 256 }
    rooms := u.rooms.setIfInBounds r.room { u.room r.room with kind := some d.kind, limit := d.kind.limit } } := if_pos h

theorem rowReported_frame (p : Nat) (r : NodeRow) (d : Report) (s : State) : rowReported p r d s = { s with
    nodes := setRow s.nodes p (some (reported d r)), sessions := (rowReported p r d s).sessions } := by
  unfold rowReported
  split
  · rfl
  · rw [roomReturned_eq]

/-- What the reading has changed of the table and the line before a new kind. -/
theorem rowReported_read (p : Nat) (r : NodeRow) (d : Report) (s : State) :
    (handReading r.room d (rowReported p r d s)).nodes = setRow s.nodes p (some (reported d r)) ∧
      (handReading r.room d (rowReported p r d s)).line = s.line := by
  have hwork := roomWork_handReading r.room d (rowReported p r d s)
  have hframe := rowReported_frame p r d s
  exact ⟨hwork.nodes.trans (by rw [hframe]), hwork.line.trans (by rw [hframe])⟩

theorem rowReply_nodes (p : Nat) (r : NodeRow) (d : Report) (s : State) : (rowReply p r d s).nodes =
    setRow s.nodes p (some { reported d r with kind := if r.origin = .learned then d.kind else r.kind }) := by
  obtain ⟨hnodes, -⟩ := rowReported_read p r d s
  rw [rowReply_eq, (roomWork_handCall _ d _).nodes]
  by_cases h : r.origin = .learned ∧ r.kind ≠ d.kind
  · rw [handKind_changes (r := reported d r) h, if_pos h.1]
    change setRow (handReading r.room d (rowReported p r d s)).nodes p _ = _
    rw [hnodes, setRow_setRow]
  · rw [handKind_keeps (r := reported d r) h, hnodes]
    have hkind : (if r.origin = .learned then d.kind else r.kind) = r.kind := by
      split
      next ho => exact (not_not.mp fun hne => h ⟨ho, hne⟩).symm
      next => rfl
    rw [hkind]
    rfl

theorem rowReply_line (p : Nat) (r : NodeRow) (d : Report) (s : State) :
    (rowReply p r d s).line = { s.line with changeCount := (rowReply p r d s).line.changeCount } := by
  obtain ⟨-, hline⟩ := rowReported_read p r d s
  rw [rowReply_eq, (roomWork_handCall _ d _).line]
  by_cases h : r.origin = .learned ∧ r.kind ≠ d.kind
  · rw [handKind_changes (r := reported d r) h]
    dsimp only
    rw [hline]
  · rw [handKind_keeps (r := reported d r) h, hline]

/-- R111, steps 3 and 4: the room's record. -/
theorem rowReply_room (hr : r.room ≤ 6) (hb : (s.room r.room).bound = true) :
    ((rowReply p r d s).room r.room).sensorError = d.sensorError ∧
      ((rowReply p r d s).room r.room).rh = (if d.sensorError then (s.room r.room).rh else some d.rh) := by
  have hsame : (rowReported p r d s).room r.room = s.room r.room := by rw [rowReported_frame]; rfl
  obtain ⟨herror, hrh, -, -⟩ := handReading_room hr d (s := rowReported p r d s) (by rw [hsame]; exact hb)
  rw [hsame] at hrh
  rw [rowReply_eq]
  obtain ⟨why, cool, hcall⟩ := handCall_room hr d (handKind p d (reported d r) (handReading r.room d (rowReported p r d s)))
  rw [hcall]
  by_cases h : r.origin = .learned ∧ r.kind ≠ d.kind
  · have hkind : (handKind p d (reported d r) (handReading r.room d (rowReported p r d s))).room r.room =
        { (handReading r.room d (rowReported p r d s)).room r.room with kind := some d.kind, limit := d.kind.limit } := by
      rw [handKind_changes (r := reported d r) h]
      exact (room_setRoom _ r.room _ hr).1
    rw [hkind]
    exact ⟨herror, hrh⟩
  · rw [handKind_keeps (r := reported d r) h]
    exact ⟨herror, hrh⟩

/-- R111, step 6: a call flag. -/
theorem handCall_event (room : Nat) (u : State) (h : d.call = true) : (handCall room d u).hasEvent .nodeCall = true := by
  unfold handCall
  rw [if_pos h]
  exact raise_hasEvent _ _

theorem handCall_eq (room : Nat) (d : Report) (u : State) : handCall room d u =
    if d.call = true then { callArrival room u with events := (callArrival room u).events ||| Event.nodeCall.bit } else u :=
  rfl

end Replies

end Sys2Proof.Proofs
end

section
/-! SUPPORT. Proofs: an accepted READING within the part (O40). -/

namespace Sys2Proof.Proofs

open Sys2Proof Sys2Proof.Machine

/-! ### A table with an empty position leaves a room free (06, "The node table") -/

/-- The position of the row that holds a room. -/
def placeOf (t : NodeTable) (m : Nat) : Nat := ((findRow t fun r => r.room == m).map Prod.fst).getD 0

theorem placeOf_held {t : NodeTable} {m : Nat} (h : (findRow t fun r => r.room == m).isSome = true) :
    placeOf t m ∈ Finset.Icc 1 6 ∧ ∃ r, rowAt t (placeOf t m) = some r ∧ r.room = m := by
  obtain ⟨⟨p, r⟩, hfind⟩ := Option.isSome_iff_exists.mp h
  obtain ⟨h1, h6, hrow, hroom⟩ := findRow_some hfind
  have hplace : placeOf t m = p := by
    unfold placeOf
    rw [hfind]
    rfl
  rw [hplace]
  exact ⟨Finset.mem_Icc.mpr ⟨h1, h6⟩, r, hrow, by simpa using hroom⟩

/-- Six held rooms take six positions. -/
theorem freeRoom_of_emptyPos {t : NodeTable} {p : Nat} (h : emptyPos t = some p) : ∃ room, freeRoom t = some room := by
  obtain ⟨h1, h6, hempty⟩ := emptyPos_some h
  by_contra hnone
  have hheld : ∀ m ∈ Finset.Icc 1 6, (findRow t fun r => r.room == m).isSome = true := by
    intro m hm
    have hposition : m ∈ positions := by
      obtain ⟨hm1, hm6⟩ := Finset.mem_Icc.mp hm
      simp [positions]
      omega
    have hall := List.find?_eq_none.mp (Option.eq_none_iff_forall_ne_some.mpr fun room hr => hnone ⟨room, hr⟩) m hposition
    simpa [Option.isSome_iff_ne_none] using hall
  have hmaps : ∀ m ∈ Finset.Icc 1 6, placeOf t m ∈ (Finset.Icc 1 6).erase p := by
    intro m hm
    obtain ⟨hin, r, hrow, -⟩ := placeOf_held (hheld m hm)
    refine Finset.mem_erase.mpr ⟨fun hp => ?_, hin⟩
    rw [hp, hempty] at hrow
    exact nomatch hrow
  have hcard : ((Finset.Icc 1 6).erase p).card < (Finset.Icc 1 6).card :=
    Finset.card_erase_lt_of_mem (Finset.mem_Icc.mpr ⟨h1, h6⟩)
  obtain ⟨m, hm, m', hm', hne, hsame⟩ := Finset.exists_ne_map_eq_of_card_lt_of_maps_to hcard hmaps
  obtain ⟨-, r, hrow, hroom⟩ := placeOf_held (hheld m hm)
  obtain ⟨-, r', hrow', hroom'⟩ := placeOf_held (hheld m' hm')
  rw [hsame] at hrow
  obtain rfl := Option.some.inj (hrow.symm.trans hrow')
  exact hne (hroom.symm.trans hroom')

/-! ### A node learned (R113) -/

section Learned

variable {s : State} {p room a : Nat} {d : Report}

/-- R113: the row that a discovery reply makes. -/
def learnedRow (a room : Nat) (d : Report) : NodeRow :=
  { address := a, room := room, kind := d.kind, origin := .learned, presence := .present, missed := 0
    lastRh := if d.sensorError then none else some d.rh, lastT := if d.sensorError then none else some d.temp
    age := if d.sensorError then none else some 0, sensorError := d.sensorError, seqBit := true, ageMs := 0 }

/-- R113: the part with the row created and its room bound. -/
def nodeLearned (a p room : Nat) (d : Report) (s : State) : State := { s with
  nodes := setRow s.nodes p (some (learnedRow a room d))
  line := { s.line with changeCount := (s.line.changeCount + 1) % 256 }
  rooms := s.rooms.setIfInBounds room
    ⟨true, some d.kind, d.kind.limit, none, none, false, [], none, 0, (s.room room).lastClose⟩
  events := s.events ||| Event.nodeLearned.bit }

theorem learnNode_takes (he : emptyPos s.nodes = some p) (hf : freeRoom s.nodes = some room) :
    learnNode a d s = handCall room d (handReading room d (nodeLearned a p room d s)) := by
  have hrow : readRow d { NodeRow.unheard a room d.kind with origin := .learned, presence := .present, seqBit := true } =
      learnedRow a room d := by
    unfold readRow learnedRow
    cases d.sensorError <;> rfl
  unfold learnNode
  rw [he, hf]
  dsimp only
  rw [hrow]
  rfl

theorem learnNode_ignores (he : emptyPos s.nodes = none) :
    learnNode a d s = { s with line := { s.line with ignored := min (s.line.ignored + 1) 255 } } := by
  unfold learnNode
  rw [he]
  rfl

theorem roomWork_learnNode (he : emptyPos s.nodes = some p) (hf : freeRoom s.nodes = some room) :
    RoomWork (nodeLearned a p room d s) (learnNode a d s) := by
  rw [learnNode_takes he hf]
  exact (roomWork_handReading _ _ _).trans (roomWork_handCall _ _ _)

theorem learnNode_room (he : emptyPos s.nodes = some p) (hf : freeRoom s.nodes = some room) :
    ((learnNode a d s).room room).bound = true ∧ ((learnNode a d s).room room).kind = some d.kind := by
  obtain ⟨-, h6, -⟩ := freeRoom_some hf
  have hbound : (nodeLearned a p room d s).room room =
      ⟨true, some d.kind, d.kind.limit, none, none, false, [], none, 0, (s.room room).lastClose⟩ :=
    (room_setRoom s room _ h6).1
  obtain ⟨-, -, hb, hk⟩ := handReading_room h6 d (s := nodeLearned a p room d s) (by rw [hbound])
  obtain ⟨why, cool, hcall⟩ := handCall_room h6 d (handReading room d (nodeLearned a p room d s))
  rw [learnNode_takes he hf, hcall]
  exact ⟨hb, hk.trans (by rw [hbound])⟩

end Learned

/-! ### The outcome of a reply -/

section Outcome

variable {s : State} {p a : Nat} {r : NodeRow} {d : Report}

theorem takeReply_row (hj : s.line.job ≠ .discovery) (hr : rowOf s.nodes a = some (p, r)) :
    takeReply a d s = rowReply p r d s := by
  unfold takeReply
  rw [hr]
  cases h : s.line.job <;> first | exact absurd h hj | rfl

theorem takeReply_learns (hj : s.line.job = .discovery) (hr : rowOf s.nodes a = none) : takeReply a d s = learnNode a d s := by
  unfold takeReply
  rw [hj, hr]

theorem takeReply_dropped (h : s.line.job = .discovery ↔ (rowOf s.nodes a).isSome = true) : takeReply a d s = s := by
  unfold takeReply
  split
  next hj hr => exact absurd (h.mp hj) (by rw [hr]; exact nofun)
  next => rfl
  next hr hj => exact absurd (h.mpr (by rw [hr]; rfl)) hj
  next => rfl

/-- A reply leaves the line but for its two counts. -/
theorem takeReply_line (a : Nat) (d : Report) (s : State) : (takeReply a d s).line = { s.line with
    changeCount := (takeReply a d s).line.changeCount, ignored := (takeReply a d s).line.ignored } := by
  by_cases hj : s.line.job = .discovery
  · cases hr : rowOf s.nodes a with
    | some pr => rw [takeReply_dropped ⟨fun _ => by rw [hr]; rfl, fun _ => hj⟩]
    | none =>
      rw [takeReply_learns hj hr]
      cases he : emptyPos s.nodes with
      | none => rw [learnNode_ignores he]
      | some p =>
        obtain ⟨room, hf⟩ := freeRoom_of_emptyPos he
        rw [(roomWork_learnNode he hf).line]
        rfl
  · cases hr : rowOf s.nodes a with
    | none => rw [takeReply_dropped ⟨fun h => absurd h hj, fun h => by rw [hr] at h; exact nomatch h⟩]
    | some pr =>
      rw [takeReply_row hj hr]
      have hline := rowReply_line pr.1 pr.2 d s
      generalize rowReply pr.1 pr.2 d s = t at hline
      rw [hline]

end Outcome

end Sys2Proof.Proofs
end

section
/-! SUPPORT. Proofs: accepted READINGs (O40). -/

namespace Sys2Proof.Proofs

open Sys2Proof Sys2Proof.Machine

section Accepted

variable {s : State} {x : Txn} {a p : Nat} {r : NodeRow} {d : Report}

/-- R107, R111: a reading taken, and the job's going on. -/
def readingTaken (a : Nat) (d : Report) (s : State) : State := proceed (takeReply a d s)

theorem readingTaken_eq (a : Nat) (d : Report) (s : State) :
    readingTaken a d s = { takeReply a d s with line := (readingTaken a d s).line } := proceed_eq _

theorem readingTaken_counts (a : Nat) (d : Report) (s : State) :
    (readingTaken a d s).line.changeCount = (takeReply a d s).line.changeCount ∧
      (readingTaken a d s).line.ignored = (takeReply a d s).line.ignored := by
  obtain ⟨hcount, hignored, -⟩ := proceed_keeps (takeReply a d s)
  exact ⟨hcount, hignored⟩

theorem readingTaken_nodes (a : Nat) (d : Report) (s : State) :
    (readingTaken a d s).nodes = (takeReply a d s).nodes ∧ (readingTaken a d s).rooms = (takeReply a d s).rooms ∧
      (readingTaken a d s).events = (takeReply a d s).events := by
  rw [readingTaken_eq]
  exact ⟨rfl, rfl, rfl⟩

theorem readingTaken_goesOn (a : Nat) (d : Report) (s : State) : JobGoesOn { s.line with
    changeCount := (readingTaken a d s).line.changeCount, ignored := (readingTaken a d s).line.ignored }
    (readingTaken a d s).nodes (readingTaken a d s).line := by
  have hgo := proceed_goesOn (takeReply a d s)
  obtain ⟨hcount, hignored⟩ := readingTaken_counts a d s
  have hline : (takeReply a d s).line = { s.line with
      changeCount := (readingTaken a d s).line.changeCount, ignored := (readingTaken a d s).line.ignored } := by
    rw [hcount, hignored]
    exact takeReply_line a d s
  rw [hline, ← (readingTaken_nodes a d s).1] at hgo
  exact hgo

/-- A reply that changes neither table, room nor session. -/
theorem readingTaken_idle {l : LineRecord} (h : takeReply a d s = { s with line := l }) :
    readingTaken a d s = { s with line := (readingTaken a d s).line } ∧
      (readingTaken a d s).line.changeCount = l.changeCount ∧ (readingTaken a d s).line.ignored = l.ignored := by
  have htaken := readingTaken_eq a d s
  obtain ⟨hcount, hignored⟩ := readingTaken_counts a d s
  rw [h] at htaken hcount hignored
  exact ⟨htaken, hcount, hignored⟩

/-- The outcome of a reply that takes what it hands on, then a call. -/
theorem readingTaken_hands {e : State} {room : Nat} (h : takeReply a d s = handCall room d e) :
    readingTaken a d s = { (if d.call = true then { callArrival room e with
        events := (callArrival room e).events ||| Event.nodeCall.bit } else e) with line := (readingTaken a d s).line } ∧
      (readingTaken a d s).line.changeCount = e.line.changeCount ∧ (readingTaken a d s).line.ignored = e.line.ignored := by
  have htaken := readingTaken_eq a d s
  obtain ⟨hcount, hignored⟩ := readingTaken_counts a d s
  have hline := (roomWork_handCall room d e).line
  rw [h] at htaken hcount hignored
  rw [hline] at hcount hignored
  exact ⟨htaken, hcount, hignored⟩

/-- R106: an accepted READING. -/
theorem exec_reading {rh kind : Nat} {temp : Int} {err call : Bool} {k : RoomKind} (hpower : s.power = .running)
    (hx : s.line.txn = some x) (hp : x.phase = .exchange) (ha : x.address = a) (hrh : rh ≤ 1000) (hlo : -400 ≤ temp)
    (hhi : temp ≤ 800) (hk : RoomKind.ofCode kind = some k) :
    exec (.reading a rh temp kind err call true) s = .next (readingTaken a ⟨rh, temp, k, err, call⟩ s) := by
  have haccept : acceptable x a rh temp kind err call true = some ⟨rh, temp, k, err, call⟩ := by
    unfold acceptable
    rw [if_pos ⟨rfl, ha, hrh, hlo, hhi⟩, hk]
    rfl
  refine exec_running hpower rfl ?_
  rw [inExchange_on hx hp]
  unfold takeReading
  rw [haccept]
  rfl

/-- The reported row keeps its place, its address and its room, so the table stays legal and still finds it. -/
theorem rowOf_reported (hlegal : NodesLegal s.nodes) (hr : rowOf s.nodes a = some (p, r)) :
    rowOf (setRow s.nodes p (some (reported d r))) a = some (p, reported d r) := by
  obtain ⟨h1, h6, hrow, haddress⟩ := findRow_some hr
  obtain ⟨hapart, hrange⟩ := nodesLegal_iff.mp hlegal
  have hplace := getElem?_of_rowAt hrow
  have hstays : NodesLegal (setRow s.nodes p (some (reported d r))) := by
    refine nodesLegal_setRow hlegal fun b hb => ?_
    obtain rfl := Option.some.inj hb
    exact ⟨hrange (p - 1) r hplace, fun j b hj hat => hapart (p - 1) j r b (Ne.symm hj) hplace hat⟩
  have hfind := rowOf_of_rowAt hstays h1 (rowAt_setRow s.nodes p (some (reported d r)) h1 h6).1
  have haddress' : (reported d r).address = a := beq_iff_eq.mp haddress
  rw [haddress'] at hfind
  exact hfind

/-- R111, step 5: the new kind, as the obligation spells it. -/
theorem handKind_spelled (hlegal : NodesLegal s.nodes) (hr : rowOf s.nodes a = some (p, r)) {rekind : Prop} {e : State}
    (hj : s.line.job ≠ .discovery) (hrekind : rekind ↔ s.line.job ≠ .discovery ∧
      ∃ p r, rowOf s.nodes a = some (p, r) ∧ r.origin = .learned ∧ r.kind ≠ d.kind)
    (hkeeps : ¬rekind → e = handReading r.room d (rowReported p r d s))
    (hchanges : rekind → ∀ p' r', rowOf (handReading r.room d (rowReported p r d s)).nodes a = some (p', r') →
      e = { handReading r.room d (rowReported p r d s) with
        nodes := setRow (handReading r.room d (rowReported p r d s)).nodes p' (some { r' with kind := d.kind })
        line := { (handReading r.room d (rowReported p r d s)).line with
          changeCount := ((handReading r.room d (rowReported p r d s)).line.changeCount + 1) % 256 }
        rooms := (handReading r.room d (rowReported p r d s)).rooms.setIfInBounds r.room
          { (handReading r.room d (rowReported p r d s)).room r.room with kind := some d.kind, limit := d.kind.limit } }) :
    handKind p d (reported d r) (handReading r.room d (rowReported p r d s)) = e := by
  by_cases h : r.origin = .learned ∧ r.kind ≠ d.kind
  · obtain ⟨hnodes, -⟩ := rowReported_read p r d s
    have hfind : rowOf (handReading r.room d (rowReported p r d s)).nodes a = some (p, reported d r) := by
      rw [hnodes]
      exact rowOf_reported hlegal hr
    rw [hchanges (hrekind.mpr ⟨hj, p, r, hr, h.1, h.2⟩) p (reported d r) hfind]
    exact handKind_changes (r := reported d r) h _
  · rw [handKind_keeps (r := reported d r) h, hkeeps fun hyes => ?_]
    obtain ⟨-, p', r', hr', hlearned, hkind⟩ := hrekind.mp hyes
    obtain ⟨rfl, rfl⟩ := Prod.ext_iff.mp (Option.some.inj (hr.symm.trans hr'))
    exact h ⟨hlearned, hkind⟩

end Accepted

/-- Settles O40. -/
theorem readingsTaken : Obligations.ReadingsTaken := by
  unfold Obligations.ReadingsTaken
  intro s x a rh kind temp err call hpower hx hlegal
  refine ⟨fun hp good => ?_, fun hp ha hrh hlo hhi k hk => ?_⟩
  · refine exec_running hpower rfl (inExchange_off ?_)
    rw [hx]
    exact fun h => hp (Option.some.inj h)
  · obtain ⟨d, hd⟩ : ∃ d : Report, d = ⟨rh, temp, k, err, call⟩ := ⟨_, rfl⟩
    obtain ⟨hnodes, hrooms, hevents⟩ := readingTaken_nodes a d s
    obtain ⟨hcount, hignored⟩ := readingTaken_counts a d s
    refine ⟨readingTaken a d s, hd ▸ exec_reading hpower hx hp ha hrh hlo hhi hk, fun hjob => ?_, readingTaken_goesOn a d s,
      fun hcall hrow hj => ?_, fun hj p r h1 h6 hrow haddress => ?_, fun room c hc dd hdd rekind hrekind e hkeeps hchanges => ?_,
      fun hdrop => readingTaken_idle (l := s.line) (takeReply_dropped hdrop), fun hj hnone p he => ?_, fun hj hnone he => ?_⟩
    · have hsame : (takeReply a d s).line.job = s.line.job := by rw [takeReply_line]
      obtain ⟨-, -, hne⟩ := proceed_keeps (takeReply a d s)
      exact hne (by rw [hsame]; exact hjob) x hp
    · obtain ⟨⟨p, r⟩, hr⟩ := Option.isSome_iff_exists.mp hrow
      unfold State.hasEvent
      rw [hevents, takeReply_row hj hr, rowReply_eq]
      exact handCall_event _ _ (by rw [hd]; exact hcall)
    · have hr : rowOf s.nodes a = some (p, r) := by rw [← haddress]; exact rowOf_of_rowAt hlegal h1 hrow
      obtain ⟨-, -, -, hroom⟩ := hlegal.2 r (mem_rows hrow)
      rw [hnodes, takeReply_row hj hr, rowReply_nodes]
      obtain ⟨hat, hothers⟩ := rowAt_setRow s.nodes p
        (some { reported d r with kind := if r.origin = .learned then d.kind else r.kind }) h1 h6
      refine ⟨?_, fun q hq => hothers q hq, fun hb => ?_⟩
      · rw [hat, hd]
        rfl
      · have hreply := rowReply_room (p := p) (d := d) hroom hb
        rw [room_of_rooms hrooms, takeReply_row hj hr]
        rw [hd] at hreply ⊢
        exact hreply
    · have hdd' : dd = handReading room d c := by
        rw [hdd, hd]
        rfl
      clear hdd
      subst hdd'
      obtain ⟨hj, p, r, b, hr, rfl, hb, hc⟩ | ⟨hj, hnone, p, he, hf, hc⟩ := hc
      · have hc' : c = rowReported p r d s := by
          rw [hc, hb, hd]
          rfl
        subst hc'
        have hkind : k = d.kind := by rw [hd]
        rw [hkind] at hrekind hchanges
        have hspelled := handKind_spelled hlegal hr hj hrekind hkeeps hchanges
        have hreply : takeReply a d s = handCall r.room d e := by
          rw [takeReply_row hj hr, rowReply_eq, hspelled]
        obtain ⟨heq, hcount', hignored'⟩ := readingTaken_hands hreply
        refine ⟨?_, hcount', hignored.trans ?_⟩
        · rw [hd] at heq ⊢
          exact heq
        · rw [takeReply_row hj hr, rowReply_line]
      · have hc' : c = nodeLearned a p room d s := by
          rw [hc, hd]
          rfl
        subst hc'
        obtain rfl := hkeeps fun hyes => (hrekind.mp hyes).1 hj
        have hreply : takeReply a d s = handCall room d (handReading room d (nodeLearned a p room d s)) := by
          rw [takeReply_learns hj hnone, learnNode_takes he hf]
        obtain ⟨heq, hcount', hignored'⟩ := readingTaken_hands hreply
        refine ⟨?_, hcount', hignored'.trans ?_⟩
        · rw [hd] at heq ⊢
          exact heq
        · rw [(roomWork_handReading room d _).line]
          rfl
    · obtain ⟨room, hf⟩ := freeRoom_of_emptyPos he
      obtain ⟨h1, h6, -⟩ := emptyPos_some he
      have hwork := roomWork_learnNode (a := a) (d := d) he hf
      obtain ⟨hat, hothers⟩ := rowAt_setRow s.nodes p (some (learnedRow a room d)) h1 h6
      have htable : (readingTaken a d s).nodes = setRow s.nodes p (some (learnedRow a room d)) := by
        rw [hnodes, takeReply_learns hj hnone, hwork.nodes]
        rfl
      obtain ⟨hb, hkind⟩ := learnNode_room (a := a) (d := d) he hf
      refine ⟨?_, ?_, ?_, room, hf, ?_, ?_, ?_⟩
      · unfold State.hasEvent
        rw [hevents, takeReply_learns hj hnone]
        exact hwork.events .nodeLearned (raise_hasEvent .nodeLearned s)
      · rw [hcount, takeReply_learns hj hnone, hwork.line]
        rfl
      · rw [htable]
        exact fun q hq => hothers q hq
      · rw [htable, hat, hd]
        rfl
      · rw [room_of_rooms hrooms, takeReply_learns hj hnone]
        exact hb
      · rw [room_of_rooms hrooms, takeReply_learns hj hnone, hkind, hd]
    · have hidle := readingTaken_idle (d := d) (s := s) (a := a)
        ((takeReply_learns hj hnone).trans (learnNode_ignores he))
      obtain ⟨heq, hcount', hignored'⟩ := hidle
      refine ⟨heq, hcount', ?_, ?_, hignored'⟩
      · rw [heq]
      · rw [heq]

end Sys2Proof.Proofs
end

section
/-! SUPPORT. Proofs: totality, resets and the state after them (O2, O4, O6, O7, O8). -/

namespace Sys2Proof.Proofs

open Sys2Proof Sys2Proof.Machine

/-! ### Every command answers a next state and leaves the queue -/

theorem linked_pending (l : List Instr) : Linked fun s => s.pending = l where

theorem completeScan_pending (s : State) : (completeScan s).pending = s.pending := by
  refine (linked_pending s.pending).completeScan (fun _ _ hu => hu) (fun u hu => ?_) rfl
  rw [finishStartUp_eq]
  exact hu

theorem exec_pending {c : Instr} {s t : State} (ht : exec c s = .next t) : t.pending = s.pending :=
  (linked_pending s.pending).exec (fun u hu => (completeScan_pending u).trans hu) (fun _ _ _ _ => rfl)
    (fun _ _ _ _ _ _ hu => hu) rfl ht

theorem exec_answers (c : Instr) (s : State) : ∃ t, exec c s = .next t := by
  cases c <;> exact ⟨_, rfl⟩

/-- A part that does not run acts at the four rows of its power and reset input alone. -/
theorem exec_still {c : Instr} {s : State} (hpower : s.power ≠ .running)
    (hc : c ∉ [Instr.powerOn, .resetLineAssert, .resetLineRelease, .powerFail]) : exec c s = .next s := by
  have hstill : ∀ f : State → State, exec c s = .next (whenRunning f s) → exec c s = .next s :=
    fun f hf => hf.trans (congrArg Host.Outcome.next (whenRunning_off hpower))
  cases c
  case powerOn => simp at hc
  case resetLineAssert => simp at hc
  case resetLineRelease => simp at hc
  case powerFail => simp at hc
  all_goals exact hstill _ rfl

/-- Settles O2. -/
theorem everyCommandAnswersNext : Obligations.EveryCommandAnswersNext := by
  unfold Obligations.EveryCommandAnswersNext
  intro c s
  obtain ⟨t, ht⟩ := exec_answers c s
  exact ⟨⟨t, ht, exec_pending ht⟩, exec_still⟩

/-! ### Resets (R170, R171) -/

section Resets

variable {s : State}

theorem imageAfterReset_bad (h : s.store.image = none ∨ s.store.writing.isSome = true) : imageAfterReset s.store = none := by
  unfold imageAfterReset
  split
  · rfl
  next hw => exact h.resolve_right hw

theorem imageAfterReset_eq (x : Store) : imageAfterReset x = if x.writing.isSome then none else x.image := rfl

theorem exec_powerOn (h : s.resetLine = false) : exec .powerOn s = .next (startUp .powerOn s) := by
  refine congrArg Host.Outcome.next (if_neg ?_)
  rw [h]
  exact nofun

theorem exec_powerOn_held (h : s.resetLine = true) : exec .powerOn s = .next (holdReset .powerOn s) :=
  congrArg Host.Outcome.next (if_pos h)

theorem exec_release (h : s.power = .held) : exec .resetLineRelease s = .next (startUp s.cause s) :=
  congrArg Host.Outcome.next (if_pos h)

/-- R171, step 1: what a bad image gives is the state after reset. -/
theorem blank_default (pending : List Instr) :
    blank .running false .powerOn none pending = { State.reset with pending := pending } := by
  have hnodes : mapVec loadRow Image.default.rows = State.reset.nodes := by decide
  have hrooms : loadRooms Image.default.rows = State.reset.rooms := by decide
  have hfilters : loadFilter .default .default = FilterRecord.default 900 := by decide
  unfold blank
  dsimp only [Option.getD_none]
  rw [hnodes, hrooms]
  change ({ State.reset with
    filters := ⟨loadFilter .default .default, loadFilter .default .default⟩, pending := pending } : State) = _
  rw [hfilters]
  rfl

end Resets

/-- Settles O4. -/
theorem startUpOnBadImage : Obligations.StartUpOnBadImage := by
  unfold Obligations.StartUpOnBadImage
  intro s hline hbad
  rw [exec_powerOn hline]
  unfold startUp
  rw [imageAfterReset_bad hbad, blank_default]

/-! ### The brownout (R15) -/

/-- R2, R6: a good code of V_SUPPLY. -/
theorem convertChannel_good {raw : Nat} (ch : Channel) (hlo : 16 ≤ raw) (hhi : raw ≤ 4079) (q : Sequencer) :
    convertChannel ch raw q = { q with
      working := q.working.set ch (goodConversion ch raw (convert q.cal ch raw) (q.working.get ch))
      restoredRaised := q.restoredRaised || restores (q.working.get ch) } := by
  unfold convertChannel
  rw [classify_good hlo hhi]

theorem takeConversion_brownout {raw : Nat} {s : State} (hnext : s.seq.next = some .vSupply) (hlo : 16 ≤ raw)
    (hhi : raw ≤ 4079) (hv : convert s.seq.cal .vSupply raw < 168) :
    takeConversion raw s = startUp .brownout { s with seq := { convertChannel .vSupply raw s.seq with next := none } } := by
  unfold takeConversion
  rw [hnext]
  refine if_pos ?_
  rw [convertChannel_good .vSupply hlo hhi]
  exact decide_eq_true hv

/-- Settles O6. -/
theorem resetsActAlike : Obligations.ResetsActAlike := by
  unfold Obligations.ResetsActAlike
  intro s u hu
  obtain rfl : startUp .powerOn s = u := Host.Outcome.next.inj ((exec_powerOn (s := { s with resetLine := false }) rfl).symm.trans hu)
  refine ⟨fun hheld => exec_release hheld, fun hpower hclosed hleaving => exec_running hpower rfl ?_,
    fun hpower hnext raw hlo hhi hv => exec_running hpower rfl (takeConversion_brownout hnext hlo hhi hv)⟩
  unfold frameSent
  unfold replyLeaving at hleaving
  split
  next h =>
    rw [h] at hleaving
    exact nomatch hleaving
  next fr rest h =>
    rw [h] at hleaving
    have hcls : fr.cls = .slotReply := by simpa using hleaving
    dsimp only
    rw [hcls]
    exact if_pos hclosed

/-- Settles O7. -/
theorem resetHeldAndPowerLost : Obligations.ResetHeldAndPowerLost := by
  unfold Obligations.ResetHeldAndPowerLost
  intro s
  have hholds : ∀ cause, ∀ t, t = holdReset cause s → t.power = .held ∧ t.resetLine = true ∧ t.cause = cause ∧
      t.alertLow = false ∧ t.events = 0#30 ∧ t.link = .reset ∧ t.sessions = [] ∧ t.fans = ⟨.reset, .reset⟩ ∧
      t.store.writing = none ∧ (t.store.image = if s.store.writing.isSome then none else s.store.image) ∧
      ∃ u, exec .resetLineRelease t = .next u ∧ u.power = .running ∧ u.resetLine = false ∧ u.cause = cause := by
    rintro cause t rfl
    exact ⟨rfl, rfl, rfl, rfl, rfl, rfl, rfl, rfl, rfl, rfl, _, exec_release rfl, rfl, rfl, rfl⟩
  refine ⟨fun c cause hc => ⟨holdReset cause s, ?_, hholds cause _ rfl⟩, fun h => congrArg Host.Outcome.next (if_neg h),
    fun h => congrArg Host.Outcome.next (if_neg h), losePower s, rfl, rfl, rfl, rfl, rfl, rfl, rfl, rfl, rfl, rfl⟩
  obtain ⟨rfl, hpower, rfl⟩ | ⟨rfl, hline, rfl⟩ := hc
  · exact congrArg Host.Outcome.next (if_pos hpower)
  · exact exec_powerOn_held hline

/-- Settles O8. -/
theorem resetMeetsTheInvariants : Obligations.ResetMeetsTheInvariants := by
  unfold Obligations.ResetMeetsTheInvariants
  exact ⟨fun _ h => (nomatch h), by decide, by decide, by decide, by decide, by decide, by decide, by decide, by decide, by decide,
    by decide⟩

/-! ### A timed entry's expiry (R49) -/

theorem slot_some {d : DemandTable} {k : Nat} {e : DemandEntry} (h : d.slot k = some e) : 1 ≤ k ∧ k ≤ 4 := by
  unfold DemandTable.slot at h
  split at h
  · exact nomatch h
  · obtain ⟨hlt, -⟩ := Vector.getElem?_eq_some_iff.mp (Option.join_eq_some_iff.mp h)
    omega

/-- Settles O20. -/
theorem demandExpiry : Obligations.DemandExpiry := by
  unfold Obligations.DemandExpiry
  intro slot s hpower
  refine ⟨fun e he hexp hms => ?_, fun hnone => ?_, fun e he hnot => ?_⟩
  · have hdue : expiryDue s.demand slot = true := by simp [expiryDue, he, hexp, hms]
    obtain ⟨h1, h4⟩ := slot_some he
    obtain ⟨hgone, hothers⟩ := slot_setTimed s.demand slot none h1 h4
    refine ⟨_, exec_running hpower rfl (expireSlot_on hdue), rfl, hgone, hothers, writeDemand_fan _ s,
      resolved_raise _ (resolved_writeDemand _ s), rfl⟩
  · exact exec_running hpower rfl (expireSlot_off (by simp [expiryDue, hnone]))
  · refine exec_running hpower rfl (expireSlot_off ?_)
    obtain hexp | hms := hnot
    · simp [expiryDue, he, hexp]
    · simp [expiryDue, he, hms]

end Sys2Proof.Proofs
end

section
/-! SUPPORT. Proofs: scans and their conversions (O9). -/

namespace Sys2Proof.Proofs

open Sys2Proof Sys2Proof.Machine

/-! ### The filter (R5) -/

section Filter

variable (f v : Int)

/-- A truncated part of a difference lies between 0 and the difference. -/
theorem quot_between (x : Int) {n : Int} (hn : 0 < n) : min 0 x ≤ quot x n ∧ quot x n ≤ max 0 x := by
  unfold quot
  obtain hx | hx := Int.le_total 0 x
  · have h0 := Int.tdiv_nonneg hx hn.le
    have h1 := Int.tdiv_le_self n hx
    omega
  · have h0 := Int.tdiv_nonneg (a := -x) (b := n) (by omega) hn.le
    have h1 := Int.tdiv_le_self n (a := -x) (by omega)
    rw [Int.neg_tdiv] at h0 h1
    omega

theorem quot_small {x n : Int} (h : |x| < n) : quot x n = 0 := by
  obtain ⟨hlo, hhi⟩ := abs_lt.mp h
  unfold quot
  obtain hx | hx := Int.le_total 0 x
  · exact Int.tdiv_eq_zero_of_lt hx hhi
  · have h0 := Int.tdiv_eq_zero_of_lt (a := -x) (b := n) (by omega) (by omega)
    rw [Int.neg_tdiv] at h0
    omega

theorem filterDivisor_pos (ch : Channel) : 0 < filterDivisor ch := by
  cases ch <;> decide

theorem filterToward_between (ch : Channel) : min f v ≤ filterToward ch f v ∧ filterToward ch f v ≤ max f v := by
  have h := quot_between (v - f) (filterDivisor_pos ch)
  unfold filterToward
  omega

/-- A difference below the divisor is not followed. -/
theorem filterToward_stays {ch : Channel} (h : |v - f| < filterDivisor ch) : filterToward ch f v = f := by
  unfold filterToward
  rw [quot_small h, add_zero]

theorem filterToward_by {ch : Channel} {n : Int} (hn : filterDivisor ch = n) :
    filterToward ch f v = f + Int.tdiv (v - f) n ∧ (|v - f| ≤ n - 1 → filterToward ch f v = f) :=
  ⟨by rw [← hn]; rfl, fun h => filterToward_stays f v (by omega)⟩

end Filter

/-! ### A conversion's record (R2, R6, R7) -/

section Conversions

variable {raw : Nat} {ch : Channel}

theorem filteredAfter_eq (ch : Channel) (value : Int) (r : ChannelRecord) :
    filteredAfter ch value r = if r.validity = .invalid then value else (r.filtered.map fun f => filterToward ch f value).getD value := by
  unfold filteredAfter
  cases r.validity <;> cases r.filtered <;> rfl

theorem convertChannel_faulty (h : raw < 16 ∨ 4080 ≤ raw) (q : Sequencer) : convertChannel ch raw q = { q with
    working := q.working.set ch (faultyConversion raw (if raw < 16 then .openFault else .shortFault) (q.working.get ch))
    faultRaised := q.faultRaised || faults (q.working.get ch) } := by
  unfold convertChannel classify
  by_cases hopen : raw < 16
  · rw [if_pos hopen, if_pos hopen]
  · rw [if_neg hopen, if_neg hopen, if_pos (h.resolve_left hopen)]

theorem faultyConversion_eq (raw : Nat) (k : FaultKind) (r : ChannelRecord) : faultyConversion raw k r = { r with
    raw := raw, faultKind := k, faultCount := min (r.faultCount + 1) 3
    validity := if r.validity = .invalid ∨ r.filtered = none ∨ 2 ≤ r.faultCount then .invalid else .held } := by
  have hthird : min (r.faultCount + 1) 3 = 3 ↔ 2 ≤ r.faultCount := by omega
  unfold faultyConversion
  simp only [hthird, Option.isNone_iff_eq_none]

end Conversions

/-- Settles O9. -/
theorem scansConvertInTurn : Obligations.ScansConvertInTurn := by
  unfold Obligations.ScansConvertInTurn
  refine ⟨fun ch hch f v => filterToward_by f v ?_, fun ch hch f v => filterToward_by f v ?_, fun f v => ?_,
    fun ch f v => filterToward_between f v ch, fun s hpower hnext => ?_, fun ch raw s hpower hnext hlast => ⟨fun hlo hhi => ?_,
    fun hbad => ?_⟩⟩
  · fin_cases hch <;> rfl
  · fin_cases hch <;> rfl
  · have h := (filterToward_by f v (ch := .vSupply) rfl).1
    rw [h]
    change f + Int.tdiv (v - f) 1 = v
    rw [Int.tdiv_one]
    omega
  · rw [exec_scanStart hpower]
    unfold scanStart
    rw [hnext]
  · rw [exec_conversion hpower, takeConversion_inner raw hnext hlast, convertChannel_good ch hlo hhi]
    have hfiltered := filteredAfter_eq ch (convert s.seq.cal ch raw) (s.seq.working.get ch)
    unfold goodConversion
    rw [hfiltered]
    cases (s.seq.working.get ch).filtered <;> rfl
  · rw [exec_conversion hpower, takeConversion_inner raw hnext hlast, convertChannel_faulty hbad, faultyConversion_eq]
    rfl

end Sys2Proof.Proofs
end

section
/-! SUPPORT. Proofs: the publication of a scan (O11). -/

namespace Sys2Proof.Proofs

open Sys2Proof Sys2Proof.Machine

/-! ### Events raised where a condition holds -/

theorem raiseIf_bits (b : Bool) (e : Event) (s : State) :
    raiseIf b e s = { s with events := s.events ||| (if b then e.bit else 0#30) } := by
  cases b
  · rw [raiseIf_false, if_neg nofun, BitVec.or_zero]
  · rfl

/-! ### SUPPLY_LOW (R13, R14) -/

section SupplyLow

variable {q : Sequencer} {v : Int}

theorem supplyLowUpdate_eq (q : Sequencer) : supplyLowUpdate q =
    { q with supplyLow := (supplyLowUpdate q).supplyLow, recovery := (supplyLowUpdate q).recovery } := by
  unfold supplyLowUpdate supplyLowStep
  split
  · split_ifs <;> rfl
  · rfl

theorem supplyLowUpdate_good (hk : q.published.vSupply.faultKind = .noFault)
    (hv : q.published.vSupply.engineering = some v) : supplyLowUpdate q = supplyLowStep v q := by
  unfold supplyLowUpdate
  rw [hk, hv]

theorem supplyLowUpdate_faulty (hk : q.published.vSupply.faultKind ≠ .noFault) : supplyLowUpdate q = q := by
  unfold supplyLowUpdate
  split
  next h _ => exact absurd h hk
  next => rfl

theorem supplyLowStep_low (hv : v < 204) : supplyLowStep v q = { q with supplyLow := true, recovery := 0 } := if_pos hv

theorem supplyLowStep_high (hv : 204 ≤ v) (hl : q.supplyLow = false) : supplyLowStep v q = q :=
  (if_neg (not_lt.mpr hv)).trans (if_pos hl)

theorem supplyLowStep_between (hv : 204 ≤ v) (hr : v < 216) (hl : q.supplyLow = true) :
    supplyLowStep v q = { q with recovery := 0 } :=
  (if_neg (not_lt.mpr hv)).trans ((if_neg (by rw [hl]; exact nofun)).trans (if_pos hr))

theorem supplyLowStep_recovers (hr : 216 ≤ v) (hl : q.supplyLow = true) : supplyLowStep v q = { q with
    supplyLow := decide (q.recovery + 1 < 10), recovery := if q.recovery + 1 < 10 then q.recovery + 1 else 0 } := by
  refine (if_neg (by change ¬ v < 204; omega)).trans ((if_neg (by rw [hl]; exact nofun)).trans ((if_neg (not_lt.mpr hr)).trans ?_))
  by_cases h : q.recovery + 1 < 10
  · rw [if_neg (by omega), if_pos h, decide_eq_true h, ← hl]
  · rw [if_pos (by omega), if_neg h, decide_eq_false h]

end SupplyLow

/-! ### The interlock between evaluations (R84) -/

theorem setDuty_zero_eq (f : FrostRecord) : f.setDuty 0 = { f with duty := 0, output := false } := by
  simp [FrostRecord.setDuty]

theorem preheatCheck_passes {s : State} (h : interlock s.frost.stage s.fans.supply s.seq.published.tPre s.seq.supplyLow
    s.settings.preheatFitted s.frost.block = true) : preheatCheck s = s := if_pos h

theorem preheatCheck_drops {s : State} (h : ¬ interlock s.frost.stage s.fans.supply s.seq.published.tPre s.seq.supplyLow
    s.settings.preheatFitted s.frost.block = true) :
    preheatCheck s = { s with frost := { s.frost with duty := 0, output := false } } := by
  rw [← setDuty_zero_eq]
  exact if_neg h

/-! ### The publication (R8, R13, R14) -/

section Publication

variable (s : State)

/-- The sequencer once the working copy is published, before SUPPLY_LOW. -/
def copied (q : Sequencer) : Sequencer := { q with published := q.working, next := none }

/-- R13: SUPPLY_LOW starts. -/
def lowStarts (before after : Sequencer) : Bool := after.supplyLow && !before.supplyLow

theorem updateSupplyLow_bits : updateSupplyLow s = { s with
    seq := supplyLowUpdate s.seq
    events := s.events ||| (if lowStarts s.seq (supplyLowUpdate s.seq) then Event.supplyLow.bit else 0#30)
    frost := { s.frost with duty := (updateSupplyLow s).frost.duty, output := (updateSupplyLow s).frost.output } } := by
  unfold updateSupplyLow lowStarts
  dsimp only
  split
  next h =>
    rw [h, Bool.and_not_self, if_neg nofun, BitVec.or_zero]
  next h =>
    have hstarts : ((supplyLowUpdate s.seq).supplyLow && !s.seq.supplyLow) = (supplyLowUpdate s.seq).supplyLow := by
      revert h
      cases (supplyLowUpdate s.seq).supplyLow <;> cases s.seq.supplyLow <;> simp
    rw [hstarts, preheatCheck_eq, raiseIf_bits]

/-- R8: the working copy published, with the sensor events of its scan. -/
def scanned : State := { s with
  seq := copied s.seq
  events := s.events ||| (if s.seq.faultRaised then Event.sensorFault.bit else 0#30) |||
    (if s.seq.restoredRaised then Event.sensorRestored.bit else 0#30) }

theorem publish_scanned : publish s = updateSupplyLow (scanned s) := by
  unfold publish
  dsimp only
  rw [raiseIf_bits, raiseIf_bits]
  rfl

theorem publish_bits : publish s = { s with
    seq := supplyLowUpdate (copied s.seq)
    events := s.events ||| (if s.seq.faultRaised then Event.sensorFault.bit else 0#30) |||
      (if s.seq.restoredRaised then Event.sensorRestored.bit else 0#30) |||
      (if lowStarts s.seq (supplyLowUpdate (copied s.seq)) then Event.supplyLow.bit else 0#30)
    frost := { s.frost with duty := (publish s).frost.duty, output := (publish s).frost.output } } := by
  have h := updateSupplyLow_bits (scanned s)
  rw [← publish_scanned] at h
  exact h

/-- Where SUPPLY_LOW does not change, a publication leaves the preheater. -/
theorem publish_frost (h : (supplyLowUpdate (copied s.seq)).supplyLow = s.seq.supplyLow) : (publish s).frost = s.frost := by
  rw [publish_scanned]
  unfold updateSupplyLow
  dsimp only
  rw [if_pos (show (supplyLowUpdate (scanned s).seq).supplyLow = (scanned s).seq.supplyLow from h)]
  rfl

end Publication

/-! ### The flow estimates at a scan's end (R24) -/

section Estimates

variable (s : State)

/-- R24: both fans' estimates. -/
def bothEstimated : State := formEstimate .extract (formEstimate .supply s)

theorem scanArrivals_bothEstimated : scanArrivals s = (frostEvaluate (bothEstimated s)).1 := rfl

theorem bothEstimated_eq : bothEstimated s = { s with
    fans := ⟨estimate s.settings s.seq.published .supply s.fans.supply, estimate s.settings s.seq.published .extract s.fans.extract⟩
    frost := { s.frost with duty := (bothEstimated s).frost.duty, output := (bothEstimated s).frost.output } } := by
  unfold bothEstimated
  rw [formEstimate_eq, formEstimate_eq]
  rfl

theorem bothEstimated_fan (st : Stream) :
    (bothEstimated s).fans.get st = estimate s.settings s.seq.published st (s.fans.get st) := by
  rw [bothEstimated_eq]
  cases st <;> rfl

/-- R84: the supply estimate tests the interlock. -/
theorem bothEstimated_frost : (bothEstimated s).frost =
    if interlock s.frost.stage (estimate s.settings s.seq.published .supply s.fans.supply) s.seq.published.tPre s.seq.supplyLow
      s.settings.preheatFitted s.frost.block then s.frost else { s.frost with duty := 0, output := false } := by
  have hextract : (bothEstimated s).frost = (formEstimate .supply s).frost := rfl
  rw [hextract]
  unfold formEstimate preheatCheckFor
  dsimp only
  split
  next h => rw [preheatCheck_passes h]; rfl
  next h => rw [preheatCheck_drops h]; rfl

end Estimates

end Sys2Proof.Proofs
end

section
/-! SUPPORT. Proofs: the last conversion of a scan (O11). -/

namespace Sys2Proof.Proofs

open Sys2Proof Sys2Proof.Machine

section Last

variable {raw : Nat} {s : State}

theorem convertChannel_frame (ch : Channel) (raw : Nat) (q : Sequencer) : convertChannel ch raw q = { q with
    working := (convertChannel ch raw q).working, faultRaised := (convertChannel ch raw q).faultRaised
    restoredRaised := (convertChannel ch raw q).restoredRaised } := by
  unfold convertChannel
  dsimp only
  split <;> rfl

/-- R2, R7: a code of V_SUPPLY that is not good. -/
theorem vSupply_faulty (h : ¬ (16 ≤ raw ∧ raw ≤ 4079)) (q : Sequencer) :
    (convertChannel .vSupply raw q).working.vSupply.faultKind ≠ .noFault := by
  rw [convertChannel_faulty (by omega)]
  dsimp only [PerChannel.set]
  rw [faultyConversion_eq]
  dsimp only
  split <;> exact nofun

theorem vSupply_good (h : 16 ≤ raw ∧ raw ≤ 4079) (q : Sequencer) :
    (convertChannel .vSupply raw q).working.vSupply.faultKind = .noFault ∧
      (convertChannel .vSupply raw q).working.vSupply.engineering = some (convert q.cal .vSupply raw) := by
  rw [convertChannel_good .vSupply h.1 h.2]
  exact ⟨rfl, rfl⟩

/-- R15: no brownout. -/
theorem brownout_none {q : Sequencer} (h : 16 ≤ raw ∧ raw ≤ 4079 → 168 ≤ convert q.cal .vSupply raw) :
    brownout ((convertChannel .vSupply raw q).working.get .vSupply) = false := by
  by_cases hgood : 16 ≤ raw ∧ raw ≤ 4079
  · rw [convertChannel_working_good hgood.1 hgood.2]
    exact brownout_goodConversion (h hgood) _ _ _
  · unfold brownout
    rw [Bool.and_eq_false_iff]
    exact Or.inl (beq_false_of_ne (vSupply_faulty hgood q))

/-- The part with the last code of a scan taken. -/
def converted (raw : Nat) (s : State) : State :=
  { s with seq := { convertChannel .vSupply raw s.seq with next := none } }

theorem exec_last (hpower : s.power = .running) (hnext : s.seq.next = some .vSupply)
    (h : 16 ≤ raw ∧ raw ≤ 4079 → 168 ≤ convert s.seq.cal .vSupply raw) :
    exec (.conversion raw) s = .next (completeScan (converted raw s)) := by
  rw [exec_conversion hpower, takeConversion_last hnext (brownout_none h)]
  rfl

theorem completeScan_later {a : State} (h : a.startingUp = false) :
    completeScan a = (frostEvaluate (bothEstimated (publish a))).1 := by
  unfold completeScan
  rw [h]
  rfl

theorem completeScan_first {a : State} (h : a.startingUp = true) :
    completeScan a = (frostEvaluate (bothEstimated (finishStartUp (publish a)))).1 := by
  unfold completeScan
  rw [h]
  rfl

/-- R13, R14: SUPPLY_LOW and its recovery count after the publication, by the rail's value. -/
theorem supplyLow_cases (raw : Nat) (s : State) {z : Sequencer} (hz : z = supplyLowUpdate (copied (converted raw s).seq)) {v : Int}
    (hv : v = convert s.seq.cal .vSupply raw) {good : Prop} (hgood : good ↔ 16 ≤ raw ∧ raw ≤ 4079) :
    (good → v < 204 → z.supplyLow = true ∧ z.recovery = 0) ∧
    (good → 204 ≤ v → s.seq.supplyLow = false → z.supplyLow = false ∧ z.recovery = s.seq.recovery) ∧
    (good → 204 ≤ v → v < 216 → s.seq.supplyLow = true → z.supplyLow = true ∧ z.recovery = 0) ∧
    (good → 216 ≤ v → s.seq.supplyLow = true → z.supplyLow = decide (s.seq.recovery + 1 < 10) ∧
      z.recovery = if s.seq.recovery + 1 < 10 then s.seq.recovery + 1 else 0) ∧
    (¬good → z.supplyLow = s.seq.supplyLow ∧ z.recovery = s.seq.recovery) := by
  have hlow : (copied (converted raw s).seq).supplyLow = s.seq.supplyLow := by
    change (convertChannel .vSupply raw s.seq).supplyLow = _
    rw [convertChannel_frame]
  have hrecovery : (copied (converted raw s).seq).recovery = s.seq.recovery := by
    change (convertChannel .vSupply raw s.seq).recovery = _
    rw [convertChannel_frame]
  have hstep : good → z = supplyLowStep v (copied (converted raw s).seq) := by
    intro h
    obtain ⟨hk, he⟩ := vSupply_good (hgood.mp h) s.seq
    rw [hz, hv]
    exact supplyLowUpdate_good hk he
  rw [← hlow, ← hrecovery]
  refine ⟨fun h hlt => ?_, fun h hge hl => ?_, fun h hge hlt hl => ?_, fun h hge hl => ?_, fun h => ?_⟩
  · rw [hstep h, supplyLowStep_low hlt]
    exact ⟨rfl, rfl⟩
  · rw [hstep h, supplyLowStep_high hge hl]
    exact ⟨hl, rfl⟩
  · rw [hstep h, supplyLowStep_between hge hlt hl]
    exact ⟨hl, rfl⟩
  · rw [hstep h, supplyLowStep_recovers hge hl]
    exact ⟨rfl, rfl⟩
  · rw [hz, supplyLowUpdate_faulty (vSupply_faulty (mt hgood.mpr h) s.seq)]
    exact ⟨rfl, rfl⟩

/-- What the publication leaves before the frost evaluation. -/
theorem published_frame (raw : Nat) (s : State) {q z : Sequencer} (hq : q = convertChannel .vSupply raw s.seq)
    (hz : z = supplyLowUpdate (copied (converted raw s).seq)) :
    bothEstimated (publish (converted raw s)) = { s with
      seq := { q with published := q.working, next := none, supplyLow := z.supplyLow, recovery := z.recovery }
      fans := (bothEstimated (publish (converted raw s))).fans
      frost := { s.frost with
        duty := (bothEstimated (publish (converted raw s))).frost.duty
        output := (bothEstimated (publish (converted raw s))).frost.output }
      events := s.events ||| (if q.faultRaised then Event.sensorFault.bit else 0#30) |||
        (if q.restoredRaised then Event.sensorRestored.bit else 0#30) |||
        (if z.supplyLow = true ∧ s.seq.supplyLow = false then Event.supplyLow.bit else 0#30) } := by
  have hseq : z = { q with published := q.working, next := none, supplyLow := z.supplyLow, recovery := z.recovery } := by
    rw [hz, supplyLowUpdate_eq, hq]
    rfl
  have hstarts : lowStarts (converted raw s).seq z = true ↔ z.supplyLow = true ∧ s.seq.supplyLow = false := by
    have hlow : (converted raw s).seq.supplyLow = s.seq.supplyLow := by
      change (convertChannel .vSupply raw s.seq).supplyLow = _
      rw [convertChannel_frame]
    unfold lowStarts
    rw [hlow, Bool.and_eq_true, Bool.not_eq_true']
  have hpublish := publish_bits (converted raw s)
  have hboth := bothEstimated_eq (publish (converted raw s))
  rw [← hz] at hpublish
  simp only [hstarts] at hpublish
  generalize bothEstimated (publish (converted raw s)) = u at hboth ⊢
  generalize publish (converted raw s) = p at hpublish hboth
  subst hq
  rw [hseq] at hpublish
  rw [hboth, hpublish]
  rfl

end Last

end Sys2Proof.Proofs
end

section
/-! SUPPORT. Proofs: the last conversion's publication and SUPPLY_LOW_RECOVERY (O11). -/

namespace Sys2Proof.Proofs

open Sys2Proof Sys2Proof.Machine

section Published

variable {raw : Nat} {s : State}

/-- R24: the estimate, with the pressures of the published records. -/
theorem estimate_spelled (x : Settings) (p : PerChannel ChannelRecord) (st : Stream) (f : FanRecord)
    {c : ChannelRecord × ChannelRecord} (hc : c = if st = .supply then (p.dpFs, p.dpXs) else (p.dpFe, p.dpXe))
    {press : ChannelRecord → Nat} (hp : press = fun r => if r.validity = .invalid then 0 else (r.filtered.getD 0).toNat) :
    estimate x p st f = { f with
      qMeas := min (f.n * x.fanKn / 256 - (press c.1 + press c.2) * x.fanKp / 64) 1200
      loop := if c.1.validity = .invalid ∨ c.2.validity = .invalid then .openLoop else .closed } := by
  subst hc hp
  cases st <;> rfl

/-- R84: the preheater after the estimates, by the interlock as they leave it. -/
theorem published_preheat {p : State} {q : Sequencer} (hpublished : p.seq.published = q.working) (hfans : p.fans = s.fans)
    (hsettings : p.settings = s.settings) (hfrost : p.frost = { s.frost with duty := p.frost.duty, output := p.frost.output })
    {holds : Prop} (hholds : holds ↔ (s.frost.stage = .watch ∨ s.frost.stage = .shed ∨ s.frost.stage = .recover) ∧
      (s.fans.supply.state = .ramping ∨ s.fans.supply.state = .steady) ∧ 150 ≤ (bothEstimated p).fans.supply.qMeas ∧
      q.working.tPre.validity = .valid ∧ p.seq.supplyLow = false ∧ s.settings.preheatFitted = true ∧ s.frost.block = 0) :
    (¬holds → (bothEstimated p).frost = { s.frost with duty := 0, output := false }) ∧
      (holds → (bothEstimated p).frost = p.frost) := by
  have hstage : p.frost.stage = s.frost.stage := by rw [hfrost]
  have hblock : p.frost.block = s.frost.block := by rw [hfrost]
  have hsupply : (bothEstimated p).fans.supply = estimate p.settings p.seq.published .supply p.fans.supply :=
    bothEstimated_fan p .supply
  have hlock : holds ↔ interlock p.frost.stage (estimate p.settings p.seq.published .supply p.fans.supply)
      p.seq.published.tPre p.seq.supplyLow p.settings.preheatFitted p.frost.block = true := by
    rw [hholds, interlock_iff, ← hsupply, hstage, hblock, hsettings, hpublished, running_iff, hsupply, hfans]
    exact Iff.rfl
  rw [bothEstimated_frost]
  refine ⟨fun h => ?_, fun h => if_pos (hlock.mp h)⟩
  rw [if_neg (mt hlock.mpr h), hfrost]

/-- The sequencer that the publication leaves. -/
def lastSeq (raw : Nat) (s : State) : Sequencer := supplyLowUpdate (copied (converted raw s).seq)

/-- The part that the frost evaluation of the last conversion meets. -/
def lastEstimated (raw : Nat) (s : State) : State := bothEstimated (publish (converted raw s))

theorem lastSeq_eq (raw : Nat) (s : State) : lastSeq raw s = { convertChannel .vSupply raw s.seq with
    published := (convertChannel .vSupply raw s.seq).working, next := none
    supplyLow := (lastSeq raw s).supplyLow, recovery := (lastSeq raw s).recovery } := by
  unfold lastSeq
  rw [supplyLowUpdate_eq]
  rfl

/-- What the publication keeps of what the estimates and the interlock read. -/
theorem published_keeps (raw : Nat) (s : State) : (publish (converted raw s)).seq = lastSeq raw s ∧
    (publish (converted raw s)).fans = s.fans ∧ (publish (converted raw s)).settings = s.settings ∧
    (publish (converted raw s)).frost = { s.frost with
      duty := (publish (converted raw s)).frost.duty, output := (publish (converted raw s)).frost.output } := by
  have hpublish := publish_bits (converted raw s)
  generalize publish (converted raw s) = p at hpublish
  rw [hpublish]
  exact ⟨rfl, rfl, rfl, rfl⟩

theorem published_frost (h : (lastSeq raw s).supplyLow = s.seq.supplyLow) : (publish (converted raw s)).frost = s.frost := by
  refine publish_frost (converted raw s) ?_
  change (lastSeq raw s).supplyLow = (convertChannel .vSupply raw s.seq).supplyLow
  rw [h, convertChannel_frame]

theorem lastEstimated_fan (raw : Nat) (s : State) (st : Stream) : (lastEstimated raw s).fans.get st =
    estimate s.settings (convertChannel .vSupply raw s.seq).working st (s.fans.get st) := by
  obtain ⟨hseq, hfans, hsettings, -⟩ := published_keeps raw s
  unfold lastEstimated
  rw [bothEstimated_fan, hseq, hfans, hsettings, lastSeq_eq]

theorem lastEstimated_preheat (raw : Nat) (s : State) {holds : Prop} (hholds : holds ↔
      (s.frost.stage = .watch ∨ s.frost.stage = .shed ∨ s.frost.stage = .recover) ∧
      (s.fans.supply.state = .ramping ∨ s.fans.supply.state = .steady) ∧ 150 ≤ (lastEstimated raw s).fans.supply.qMeas ∧
      (convertChannel .vSupply raw s.seq).working.tPre.validity = .valid ∧ (lastSeq raw s).supplyLow = false ∧
      s.settings.preheatFitted = true ∧ s.frost.block = 0) :
    (¬holds → (lastEstimated raw s).frost = { s.frost with duty := 0, output := false }) ∧
      (holds → s.seq.supplyLow = false → (lastEstimated raw s).frost = s.frost) := by
  obtain ⟨hseq, hfans, hsettings, hfrost⟩ := published_keeps raw s
  have hpublished : (publish (converted raw s)).seq.published = (convertChannel .vSupply raw s.seq).working := by
    rw [hseq, lastSeq_eq]
  obtain ⟨hdrops, hpasses⟩ := published_preheat hpublished hfans hsettings hfrost (holds := holds)
    (by rw [hseq]; exact hholds)
  refine ⟨hdrops, fun h hl => (hpasses h).trans (published_frost ?_)⟩
  obtain ⟨-, -, -, -, hz, -, -⟩ := hholds.mp h
  rw [hz, hl]

theorem frostEvaluate_seq (u : State) : (frostEvaluate u).1.seq = u.seq := by rw [frostEvaluate_eq]

theorem lastEstimated_seq (raw : Nat) (s : State) : (frostEvaluate (lastEstimated raw s)).1.seq = lastSeq raw s := by
  obtain ⟨hseq, -⟩ := published_keeps raw s
  rw [frostEvaluate_seq]
  unfold lastEstimated
  rw [bothEstimated_eq]
  exact hseq

/-- An event raised at the publication is set after the evaluation. -/
theorem lastEstimated_event {e : Event} {v : BitVec 30} (hv : v.getLsbD e.num = true)
    (h : ∃ a b, (lastEstimated raw s).events = a ||| v ||| b) : (frostEvaluate (lastEstimated raw s)).1.hasEvent e = true := by
  obtain ⟨a, b, hevents⟩ := h
  refine frostEvaluate_keeps_event _ e ?_
  unfold State.hasEvent
  rw [hevents, BitVec.getLsbD_or, BitVec.getLsbD_or, hv, Bool.or_true, Bool.true_or]

end Published

/-- R14: the publication that ends SUPPLY_LOW. -/
theorem recoverSupply_recovers {s : State} {v : Int} (hlow : s.seq.supplyLow = true) (hrecovery : s.seq.recovery = 9)
    (hk : s.seq.published.vSupply.faultKind = .noFault) (hv : s.seq.published.vSupply.engineering = some v) (hge : 216 ≤ v) :
    recoverSupply s = { s with
      seq := { s.seq with supplyLow := false, recovery := 0 }
      frost := { s.frost with duty := (recoverSupply s).frost.duty, output := (recoverSupply s).frost.output } } := by
  have hupdate : supplyLowUpdate s.seq = { s.seq with supplyLow := false, recovery := 0 } := by
    rw [supplyLowUpdate_good hk hv, supplyLowStep_recovers hge hlow, hrecovery]
    rfl
  have hrecovers : recoverSupply s = updateSupplyLow s := if_pos ⟨hlow, by rw [hupdate]⟩
  have hbits := updateSupplyLow_bits s
  unfold lowStarts at hbits
  rw [hupdate] at hbits
  rw [hrecovers]
  generalize updateSupplyLow s = t at hbits
  rw [hbits]
  dsimp only
  rw [Bool.false_and, if_neg nofun, BitVec.or_zero]

theorem eventBit_num (e : Event) : e.bit.getLsbD e.num = true := by
  cases e <;> decide

/-- Settles O11. -/
theorem lastConversionPublishes : Obligations.LastConversionPublishes := by
  unfold Obligations.LastConversionPublishes
  refine ⟨fun raw s hpower hrun hnext hrail => ?_, fun s v hpower hlow hrecovery hk hv hge =>
    ⟨_, exec_running hpower rfl rfl, recoverSupply_recovers hlow hrecovery hk hv hge⟩⟩
  intro q v good
  have hframe := published_frame raw s (q := q) rfl (z := lastSeq raw s) rfl
  obtain ⟨hlow, hhigh, hbetween, hrecovers, hfaulty⟩ := supplyLow_cases raw s (z := lastSeq raw s) rfl (v := v) rfl
    (good := good) Iff.rfl
  have hexec : exec (.conversion raw) s = .next (frostEvaluate (lastEstimated raw s)).1 := by
    rw [exec_last hpower hnext hrail, completeScan_later (a := converted raw s) hrun]
    rfl
  have hevents := congrArg State.events hframe
  refine ⟨(frostEvaluate (lastEstimated raw s)).1, lastEstimated raw s, hexec, rfl, ?_, fun st c hc press hpress => ?_,
    fun holds hholds => ?_, ?_, ?_, ?_, fun hf => ?_, fun hr => ?_, fun hg hv => ?_, ?_, ?_, ?_, ?_, fun st => ?_⟩
  · rw [lastEstimated_seq]
    exact hframe
  · rw [lastEstimated_fan]
    exact estimate_spelled _ _ _ _ hc hpress
  · rw [lastEstimated_seq] at hholds
    exact lastEstimated_preheat raw s hholds
  · have hevaluated := frostEvaluate_eq (lastEstimated raw s)
    have hseq := lastEstimated_seq raw s
    generalize (frostEvaluate (lastEstimated raw s)).1 = t at hevaluated hseq ⊢
    unfold lastEstimated at hevaluated
    rw [hframe] at hevaluated
    rw [hevaluated]
  · rw [lastEstimated_seq, lastSeq_eq]
  · rw [lastEstimated_seq, lastSeq_eq]
  · rw [if_pos hf, BitVec.or_assoc] at hevents
    exact lastEstimated_event (eventBit_num .sensorFault) ⟨_, _, hevents⟩
  · rw [if_pos hr] at hevents
    exact lastEstimated_event (eventBit_num .sensorRestored) ⟨_, _, hevents⟩
  · rw [lastEstimated_seq]
    obtain ⟨hl, h0⟩ := hlow hg hv
    refine ⟨hl, h0, fun hbefore => ?_⟩
    rw [if_pos (And.intro hl hbefore), ← BitVec.or_zero (x := _ ||| Event.supplyLow.bit)] at hevents
    exact lastEstimated_event (eventBit_num .supplyLow) ⟨_, _, hevents⟩
  · rw [lastEstimated_seq]
    exact hhigh
  · rw [lastEstimated_seq]
    exact hbetween
  · rw [lastEstimated_seq]
    exact hrecovers
  · rw [lastEstimated_seq]
    exact hfaulty
  · rw [frostEvaluate_fan, lastEstimated_fan]
    refine ⟨rfl, ?_⟩
    change (if _ then LoopMode.openLoop else LoopMode.closed) = LoopMode.openLoop ↔ _
    split
    next h => exact ⟨fun _ => h, fun _ => rfl⟩
    next h => exact ⟨nofun, fun h' => absurd h' h⟩

end Sys2Proof.Proofs
end

section
/-! SUPPORT. Proofs: the first scan's end (O5). -/

namespace Sys2Proof.Proofs

open Sys2Proof Sys2Proof.Machine

/-! ### The alert line (R164) -/

theorem alertLow_iff (s : State) : s.alertLow = true ↔
    s.power = .running ∧ ∃ i < 30, s.events.getLsbD i = true ∧ s.mask.getLsbD i = true := by
  unfold State.alertLow
  rw [Bool.and_eq_true, beq_iff_eq, bne_iff_ne]
  refine and_congr_right fun _ => ⟨fun h => ?_, fun ⟨i, hi, he, hm⟩ h => ?_⟩
  · by_contra hnone
    refine h (BitVec.eq_of_getLsbD_eq fun i hi => ?_)
    rw [BitVec.getLsbD_and, BitVec.getLsbD_zero, Bool.and_eq_false_iff]
    by_contra hboth
    push Not at hboth
    exact hnone ⟨i, hi, by simpa using hboth.1, by simpa using hboth.2⟩
  · have hbit := congrArg (fun v => v.getLsbD i) h
    simp [he, hm] at hbit

/-- A flag set under a full mask lowers the alert line. -/
theorem alertLow_of_hasEvent {s : State} {e : Event} (hpower : s.power = .running) (hmask : s.mask = BitVec.allOnes 30)
    (he : s.hasEvent e = true) : s.alertLow = true := by
  have hlt : e.num < 30 := by cases e <;> decide
  exact (alertLow_iff s).mpr ⟨hpower, e.num, hlt, he, by rw [hmask, BitVec.getLsbD_allOnes, decide_eq_true hlt]⟩

/-! ### An evaluation's resolution (R63, step 6) -/

theorem evaluated_resolution (u : State) :
    ((frostEvaluate u).1.frost.stage ≠ u.frost.stage ∨ (frostEvaluate u).1.frost.w ≠ u.frost.w →
        HandedOn u (frostEvaluate u).1) ∧
      ((frostEvaluate u).1.frost.stage = u.frost.stage → (frostEvaluate u).1.frost.w = u.frost.w →
        (frostEvaluate u).1.fans = u.fans ∧ (frostEvaluate u).1.res = u.res) := by
  have hruled := ruled_rules u
  rw [hruled.frost]
  exact ⟨hruled.handedOn, hruled.quiet⟩

/-- An evaluation that keeps the stage, the window and the allowance keeps a resolution in force. -/
theorem evaluated_resolved {u : State} (hstage : (frostEvaluate u).1.frost.stage = u.frost.stage)
    (hw : (frostEvaluate u).1.frost.w = u.frost.w) (ha : (frostEvaluate u).1.frost.allowance = u.frost.allowance)
    (h : Resolved u) : Resolved (frostEvaluate u).1 := by
  obtain ⟨hfans, hres⟩ := (evaluated_resolution u).2 hstage hw
  have heq := frostEvaluate_eq u
  have hfrost : (frostEvaluate u).1.frost = { (frostEvaluate u).1.frost with
      stage := u.frost.stage, w := u.frost.w, allowance := u.frost.allowance } := by
    rw [← hstage, ← hw, ← ha]
  generalize (frostEvaluate u).1 = t at heq hfrost hfans hres ⊢
  rw [hfans, hres] at heq
  generalize t.frost = f at heq hfrost
  rw [heq, hfrost]
  exact h

/-! ### The first evaluation after a start-up (R63, R80) -/

section First

variable {u : State} {rx0 : Option Nat} {a : Nat}

theorem first_normal (hpower : u.power = .running) (hfrost : u.frost = .reset rx0 a)
    (hv : u.seq.published.tExh.validity ≠ .invalid) : (frostEvaluate u).1.frost.mode = .normal ∧
      (frostEvaluate u).1.frost.w = 16 ∧ (frostEvaluate u).1.frost.s = 16 ∧
      ((frostEvaluate u).1.frost.stage = if u.seq.published.tExh.value ≤ guardNow u then .watch else .idle) ∧
      ((frostEvaluate u).1.frost.stage = .idle → (frostEvaluate u).1.frost.allowance = u.frost.allowance) := by
  have hG : GuardsNormally u := ⟨hpower, by rw [hfrost]; rfl, hv⟩
  have hidle : u.frost.stage = .idle := by rw [hfrost]; rfl
  have hw : u.frost.w = 16 := by rw [hfrost]; rfl
  have hs : u.frost.s = 16 := by rw [hfrost]; rfl
  have hnoIcing : ¬ IcingFound u := fun ⟨_, h⟩ => by
    rw [hfrost] at h
    exact absurd (show 3 ≤ 0 from h) (by decide)
  have hnoCold : ¬ DeepColdFound u := fun ⟨_, h⟩ => by
    rw [hfrost] at h
    exact absurd (show 899 ≤ 0 from h) (by decide)
  obtain ⟨g, ms, hruled, -, -, hmode⟩ := evaluated_carries u
  rw [if_neg hv] at hmode
  have hmode' : (frostEvaluate u).1.frost.mode = .normal := by
    rw [hruled.frost]
    exact hmode
  obtain ⟨-, -, hwatches, hgoes⟩ := evaluated_guard hG (Or.inl hidle) hnoIcing hnoCold rfl
  have hvalue : u.seq.published.tExh.filtered.getD 0 = u.seq.published.tExh.value := rfl
  rw [hvalue] at hwatches hgoes
  by_cases hle : u.seq.published.tExh.value ≤ guardNow u
  · obtain ⟨hst, hw', hs', -⟩ := hwatches hidle (by omega)
    rw [if_pos hle]
    exact ⟨hmode', hw'.trans hw, hs'.trans hs, hst, fun h => absurd (hst.symm.trans h) nofun⟩
  · obtain ⟨⟨hst, -, hw', hs', -, ha, -⟩, -⟩ := hgoes (Or.inl ⟨hidle, by omega⟩)
    rw [if_neg hle]
    exact ⟨hmode', hw'.trans hw, hs'.trans hs, hst.trans hidle, fun _ => ha⟩

theorem first_degraded (hfrost : u.frost = .reset rx0 a) (hv : u.seq.published.tExh.validity = .invalid) :
    (frostEvaluate u).1.frost.mode = .degraded ∧ (frostEvaluate u).1.hasEvent .frostDegraded = true ∧
      ((frostEvaluate u).1.frost.stage = if u.seq.published.tOut.validity = .invalid ∨ u.seq.published.tOut.value ≤ -30 then
        .shed else .idle) ∧
      ((frostEvaluate u).1.frost.stage = .idle → (frostEvaluate u).1.frost.w = 16 ∧
        (frostEvaluate u).1.frost.allowance = u.frost.allowance) := by
  have hm : u.frost.mode = .normal := by rw [hfrost]; rfl
  have hidle : u.frost.stage = .idle := by rw [hfrost]; rfl
  obtain ⟨g, ms, hruled, -, -, hmode⟩ := evaluated_carries u
  rw [if_pos hv] at hmode
  have hmode' : (frostEvaluate u).1.frost.mode = .degraded := by
    rw [hruled.frost]
    exact hmode
  obtain ⟨hevent, -, hguard, -⟩ := evaluated_enters hm hv
  obtain ⟨hsheds, hidles⟩ := hguard (Or.inl hidle)
  refine ⟨hmode', hevent, ?_, fun hst => ?_⟩
  · by_cases hc : OutsideCold u
    · rw [if_pos hc]
      exact (hsheds hc).1
    · rw [if_neg hc]
      exact (hidles hc).1
  · have hc : ¬ OutsideCold u := fun hc => absurd ((hsheds hc).1.symm.trans hst) nofun
    obtain ⟨-, hw, -⟩ := hidles hc
    have hallow : (timed u).allowance = u.frost.allowance := by rw [timed_eq]
    have hstage := (timed_stage u).trans hidle
    have hnocold := mt (coldCondition_iff u).mp hc
    have hruled := ruled_enters hm hv (enterDegraded_idles (Or.inl hstage) hnocold)
      (degradedRules_idle_stays (degradedIdle_at _ _).1 hnocold)
    refine ⟨hw, ?_⟩
    rw [hruled.frost]
    unfold FrostRecord.degradedIdle
    rw [if_pos (show (lost (timed u)).stage = .idle from hstage)]
    exact hallow

/-- The first evaluation saves nothing and keeps the reference. -/
theorem first_keeps (hpower : u.power = .running) (hfrost : u.frost = .reset rx0 a) (hoff : u.fans.extract.state = .off) :
    (frostEvaluate u).1.store = u.store ∧ (frostEvaluate u).1.frost.rx0 = rx0 := by
  have hcount : u.frost.learnCount = 0 := by rw [hfrost]; rfl
  have hactive : u.frost.learnActive = rx0.isNone := by rw [hfrost]; rfl
  have hrx : u.frost.rx0 = rx0 := by rw [hfrost]; rfl
  obtain ⟨-, -, hstore⟩ := frostFrame_evaluate hpower
  have hno : ¬ Qualifies u := fun ⟨_, _, hsteady, _⟩ => absurd (hoff.symm.trans hsteady) nofun
  obtain ⟨hsettled, hbreaks, -⟩ := evaluated_learns u
  refine ⟨hstore.resolve_right fun ⟨_, h15, _⟩ => by omega, ?_⟩
  cases h : rx0 with
  | none =>
    rw [h] at hrx
    exact (hbreaks (Or.inr hrx) hno).2.1.trans hrx
  | some r =>
    rw [h] at hrx hactive
    exact (hsettled hactive (by rw [hrx]; rfl)).2.1.trans hrx

end First

end Sys2Proof.Proofs
end

section
/-! SUPPORT. Proofs: start-ups from a good image, and their first scan's end (O5). -/

namespace Sys2Proof.Proofs

open Sys2Proof Sys2Proof.Machine

/-! ### What a good image gives (R171, step 1) -/

section Loaded

variable {rows : List (Option StoredRow)} {k : Nat}

theorem loadFilter_eq (x : Settings) (f : StoredFilter) {l : Option Nat}
    (hl : l = f.rf0.bind fun r0 => f.rAvg.map fun a => min (max (a * 100 / r0) 50) 999) : loadFilter x f =
      { state := f.state, rf0 := f.rf0, rAvg := f.rAvg, loading := l, learnCount := 0, learnSum := 0
        lastResistance := none, lastOutcome := .noSample, dose := f.dose, doseAcc := 0, hours := f.hours, runSeconds := 0
        ceiling := if f.state = .blocked then min (max (x.qRated * 200 / l.getD 100) x.qMinRun) x.qRated else x.qRated } := by
  subst hl
  obtain ⟨state, rf0, rAvg, dose, hours⟩ := f
  cases rf0 <;> cases rAvg <;> rfl

/-- What a row gives its room. -/
theorem kindIn_some {r : Option StoredRow} {kd : RoomKind}
    (h : (r.bind fun x => if x.room = k then some x.kind else none) = some kd) : ∃ x, r = some x ∧ x.room = k ∧ x.kind = kd := by
  obtain ⟨x, rfl, hx⟩ := Option.bind_eq_some_iff.mp h
  split at hx
  next hroom => exact ⟨x, rfl, hroom, Option.some.inj hx⟩
  next => exact nomatch hx

theorem loadRoom_bound {r : StoredRow} (hr : some r ∈ rows) (hroom : r.room = k)
    (honly : ∀ r', some r' ∈ rows → r'.room = k → r' = r) : loadRoom rows k = .ofKind r.kind := by
  have hfound : rows.findSome? (fun r => r.bind fun x => if x.room = k then some x.kind else none) = some r.kind := by
    cases hfind : rows.findSome? (fun r => r.bind fun x => if x.room = k then some x.kind else none) with
    | none =>
      have hnone := List.findSome?_eq_none_iff.mp hfind (some r) hr
      simp [hroom] at hnone
    | some kd =>
      obtain ⟨o, ho, hkd⟩ := List.exists_of_findSome?_eq_some hfind
      obtain ⟨x, rfl, hx, rfl⟩ := kindIn_some hkd
      rw [honly x ho hx]
  unfold loadRoom
  rw [hfound]

theorem loadRoom_unbound (h : ∀ r, some r ∈ rows → r.room ≠ k) : loadRoom rows k = .unbound := by
  have hnone : rows.findSome? (fun r => r.bind fun x => if x.room = k then some x.kind else none) = none := by
    refine List.findSome?_eq_none_iff.mpr fun o ho => ?_
    cases o with
    | none => rfl
    | some x => exact if_neg (h x ho)
  unfold loadRoom
  rw [hnone]

end Loaded

section Started

variable {power : Power} {line : Bool} {cause : ResetCause} {i : Image} {pending : List Instr}

theorem blank_room {k : Nat} (h1 : 1 ≤ k) (h6 : k ≤ 6) :
    (blank power line cause (some i) pending).room k = loadRoom i.rows.toList k := by
  obtain rfl | rfl | rfl | rfl | rfl | rfl : k = 1 ∨ k = 2 ∨ k = 3 ∨ k = 4 ∨ k = 5 ∨ k = 6 := by omega
  all_goals rfl

/-- R171, step 1: a start-up that finds a good image loads it. -/
theorem startedFrom_blank (cause : ResetCause) (i : Image) (pending : List Instr) :
    StartedFrom cause i pending (blank .running false cause (some i) pending) := by
  unfold StartedFrom
  refine ⟨rfl, rfl, rfl, rfl, rfl, rfl, rfl, rfl, rfl, rfl, rfl, rfl, ?_, rfl, fun k h1 h6 => ⟨?_, fun hnone => ?_⟩, rfl, rfl, rfl,
    rfl, rfl, rfl, rfl, rfl, by simp [State.alertLow, blank], rfl, rfl, rfl⟩
  · rintro st f rfl l hl
    have hl' : l = (i.filters.get st).rf0.bind fun r0 => (i.filters.get st).rAvg.map fun a =>
        min (max (a * 100 / r0) 50) 999 := by
      rw [hl]
      cases (i.filters.get st).rf0 <;> cases (i.filters.get st).rAvg <;> rfl
    have hload := loadFilter_eq i.settings (i.filters.get st) hl'
    cases st <;> exact hload
  · intro r hr hroom honly limit hlimit
    rw [blank_room h1 h6, loadRoom_bound hr hroom honly]
    have hkind : limit = r.kind.limit := by
      simp only [List.mem_cons, List.not_mem_nil, or_false, Prod.mk.injEq] at hlimit
      obtain ⟨h, rfl⟩ | ⟨h, rfl⟩ | ⟨h, rfl⟩ | ⟨h, rfl⟩ | ⟨h, rfl⟩ | ⟨h, rfl⟩ | ⟨h, rfl⟩ := hlimit <;> rw [h] <;> rfl
    rw [hkind]
    rfl
  · rw [blank_room h1 h6, loadRoom_unbound hnone]
    rfl

end Started

/-! ### The first scan's end (R171, steps 3 to 8) -/

section FirstScan

variable {s : State}

/-- Steps 3 to 8 leave both fans OFF, at the targets of the first resolution. -/
theorem finishStartUp_fan (s : State) (st : Stream) :
    (finishStartUp s).fans.get st = { FanRecord.reset with qTarget := ((finishStartUp s).fans.get st).qTarget } := by
  have hfans : (finishStartUp s).fans = (resolve (settleBlocks s)).fans := by
    unfold finishStartUp
    dsimp only
    rw [State.setLine_fans, raiseIf_fans, raise_fans]
  have hoff : (settleBlocks s).fans.get st = .reset := by cases st <;> rfl
  have hfan := resolve_fan (settleBlocks s) st
  rw [hoff] at hfan
  rw [hfans]
  exact hfan

theorem finishStartUp_events (s : State) : (finishStartUp s).hasEvent .resetDone = true ∧
    (s.store.imageGood = false → (finishStartUp s).hasEvent .settingsLost = true) := by
  constructor
  · cases h : s.store.imageGood with
    | true =>
      have hevents : (finishStartUp s).events = (raise .resetDone (resolve (settleBlocks s))).events := by
        unfold finishStartUp
        rw [h]
        rfl
      unfold State.hasEvent
      rw [hevents]
      exact raise_hasEvent _ _
    | false =>
      have hevents : (finishStartUp s).events = (raise .settingsLost (raise .resetDone (resolve (settleBlocks s)))).events := by
        unfold finishStartUp
        rw [h]
        rfl
      unfold State.hasEvent
      rw [hevents]
      exact hasEvent_raise _ _ (raise_hasEvent _ _)
  · intro h
    have hevents : (finishStartUp s).events = (raise .settingsLost (raise .resetDone (resolve (settleBlocks s)))).events := by
      unfold finishStartUp
      rw [h]
      rfl
    unfold State.hasEvent
    rw [hevents]
    exact raise_hasEvent _ _

/-- An idle frost record's duty is off, and the estimates leave it. -/
theorem bothEstimated_idle {p : State} {rx0 : Option Nat} {a : Nat} (hfrost : p.frost = .reset rx0 a) :
    (bothEstimated p).frost = p.frost := by
  rw [bothEstimated_frost, hfrost]
  split <;> rfl

/-- The estimates keep a resolution in force. -/
theorem bothEstimated_resolved {p : State} {rx0 : Option Nat} {a : Nat} (hfrost : p.frost = .reset rx0 a) (h : Resolved p) :
    Resolved (bothEstimated p) := by
  have heq := bothEstimated_eq p
  have hidle := bothEstimated_idle hfrost
  rw [hidle] at heq
  rw [heq]
  exact h

/-- R24: the estimate of a fan that has not turned. -/
theorem estimate_still (x : Settings) (p : PerChannel ChannelRecord) (st : Stream) (q : Nat) :
    estimate x p st { FanRecord.reset with qTarget := q } = { FanRecord.reset with
      qTarget := q
      loop := if (streamPressures p st).1.validity = .invalid ∨ (streamPressures p st).2.validity = .invalid then
        .openLoop else .closed } := by
  have hflow : flowOf FanRecord.reset.n x.fanKn (pressureOf (streamPressures p st).1 + pressureOf (streamPressures p st).2)
      x.fanKp = 0 := by
    simp [flowOf, FanRecord.reset]
  unfold estimate
  dsimp only
  rw [hflow]
  rfl

/-- The part that the first evaluation meets. -/
def firstEstimated (raw : Nat) (s : State) : State := bothEstimated (finishStartUp (publish (converted raw s)))

theorem finished_frost (raw : Nat) (s : State) :
    (finishStartUp (publish (converted raw s))).frost = .reset s.frost.rx0 s.settings.aNormal := by
  obtain ⟨-, -, hsettings, hfrost⟩ := published_keeps raw s
  have hrx : (publish (converted raw s)).frost.rx0 = s.frost.rx0 := by rw [hfrost]
  rw [finishStartUp_eq, ← hsettings, ← hrx]
  rfl

/-- What steps 3 to 8 and the estimates leave before the first evaluation. -/
theorem firstEstimated_frame (raw : Nat) (s : State) : firstEstimated raw s = { s with
    startingUp := false, fansOffAt := s.clock, seq := lastSeq raw s, fans := (firstEstimated raw s).fans
    res := (firstEstimated raw s).res, frost := .reset s.frost.rx0 s.settings.aNormal
    events := (firstEstimated raw s).events
    demand := { s.demand with
      hostBase := ⟨min s.settings.demandBase s.settings.qRated, none, false, 0, 0⟩, airing := none, fallback := none }
    mode := ⟨.run, 0, none, 0⟩, superv := ⟨if s.settings.supervisionInterval = 0 then .off else .ok, 0, 0⟩
    sessions := s.sessions.map fun x => { x with held := false }
    line := { s.line with discPending := true } } := by
  have hboth := bothEstimated_eq (finishStartUp (publish (converted raw s)))
  have hfrost := (bothEstimated_idle (finished_frost raw s)).trans (finished_frost raw s)
  have hfinish := finishStartUp_eq (publish (converted raw s))
  have hpublish := publish_bits (converted raw s)
  unfold firstEstimated
  generalize bothEstimated (finishStartUp (publish (converted raw s))) = u at hboth hfrost ⊢
  generalize finishStartUp (publish (converted raw s)) = f at hboth hfinish
  generalize publish (converted raw s) = p at hfinish hpublish
  have hu : u = { u with frost := .reset s.frost.rx0 s.settings.aNormal } := by rw [← hfrost]
  rw [hfinish, hpublish] at hboth
  rw [hu, hboth]
  rfl

theorem firstEstimated_fan (raw : Nat) (s : State) (st : Stream) : ∃ q, (firstEstimated raw s).fans.get st =
    { FanRecord.reset with
      qTarget := q
      loop := if (streamPressures (convertChannel .vSupply raw s.seq).working st).1.validity = .invalid ∨
        (streamPressures (convertChannel .vSupply raw s.seq).working st).2.validity = .invalid then .openLoop else .closed } := by
  obtain ⟨hseq, -⟩ := published_keeps raw s
  have hpublished : (finishStartUp (publish (converted raw s))).seq.published = (convertChannel .vSupply raw s.seq).working := by
    rw [finishStartUp_eq]
    change (publish (converted raw s)).seq.published = _
    rw [hseq, lastSeq_eq]
  refine ⟨((finishStartUp (publish (converted raw s))).fans.get st).qTarget, ?_⟩
  unfold firstEstimated
  rw [bothEstimated_fan, finishStartUp_fan, hpublished]
  exact estimate_still _ _ st _

theorem firstEstimated_resolved (raw : Nat) (s : State) :
    Resolved (firstEstimated raw s) ∧ (firstEstimated raw s).res.count = (s.res.count + 1) % 65536 := by
  obtain ⟨hresolved, hcount⟩ := resolved_finishStartUp (publish (converted raw s))
  refine ⟨bothEstimated_resolved (finished_frost raw s) hresolved, ?_⟩
  have hres : (publish (converted raw s)).res = s.res := by rw [publish_bits]; rfl
  unfold firstEstimated
  rw [bothEstimated_eq]
  exact hcount.trans (by rw [hres])

end FirstScan

/-- The conversion that ends a start-up's first scan. -/
theorem startUpEnds_first {raw : Nat} {s : State} (hpower : s.power = .running) :
    StartUpEnds (convertChannel .vSupply raw s.seq) s (frostEvaluate (firstEstimated raw s)).1 := by
  have hframe := firstEstimated_frame raw s
  have hfans := firstEstimated_fan raw s
  obtain ⟨hresolved, hcount⟩ := firstEstimated_resolved raw s
  have hevents : (firstEstimated raw s).events = (finishStartUp (publish (converted raw s))).events := by
    unfold firstEstimated
    rw [bothEstimated_eq]
  obtain ⟨hdone, hlost⟩ := finishStartUp_events (publish (converted raw s))
  have hgood : (publish (converted raw s)).store = s.store := by rw [publish_bits]; rfl
  rw [hgood] at hlost
  have hkeeps := frostEvaluate_keeps_event (firstEstimated raw s)
  generalize firstEstimated raw s = u at hframe hfans hresolved hcount hevents hkeeps ⊢
  have hrunning : u.power = .running := by rw [hframe]; exact hpower
  have hfrost : u.frost = .reset s.frost.rx0 s.settings.aNormal := by rw [hframe]
  have hpublished : u.seq.published = (convertChannel .vSupply raw s.seq).working := by rw [hframe, lastSeq_eq]
  have hset : ∀ e, (finishStartUp (publish (converted raw s))).hasEvent e = true → (frostEvaluate u).1.hasEvent e = true :=
    fun e he => hkeeps e (by unfold State.hasEvent at he ⊢; rw [hevents]; exact he)
  have hoff : u.fans.extract.state = .off := by
    obtain ⟨q, hq⟩ := hfans .extract
    exact (congrArg FanRecord.state hq).trans rfl
  obtain ⟨hstore, hrx⟩ := first_keeps hrunning hfrost hoff
  have hevaluated := frostEvaluate_eq u
  have hmask : (frostEvaluate u).1.mask = s.mask := by rw [frostEvaluate_eq, hframe]
  have htpower : (frostEvaluate u).1.power = .running := by rw [frostEvaluate_eq]; exact hrunning
  have htseq : (frostEvaluate u).1.seq = lastSeq raw s := by rw [frostEvaluate_seq, hframe]
  have hidle : (frostEvaluate u).1.frost.stage = .idle → (frostEvaluate u).1.frost.w = u.frost.w ∧
      (frostEvaluate u).1.frost.allowance = u.frost.allowance := by
    intro hst
    by_cases hv : u.seq.published.tExh.validity = .invalid
    · obtain ⟨-, -, -, hstays⟩ := first_degraded hfrost hv
      obtain ⟨hw, ha⟩ := hstays hst
      exact ⟨hw.trans (by rw [hfrost]; rfl), ha⟩
    · obtain ⟨-, hw, -, -, ha⟩ := first_normal hrunning hfrost hv
      exact ⟨hw.trans (by rw [hfrost]; rfl), ha hst⟩
  have hustage : u.frost.stage = .idle := by rw [hfrost]; rfl
  obtain ⟨hhands, hquiet⟩ := evaluated_resolution u
  unfold StartUpEnds
  refine ⟨?_, by rw [htseq, lastSeq_eq], by rw [htseq, lastSeq_eq], fun st => ?_, ?_, ?_, hset _ hdone, fun h => hset _ (hlost h),
    fun h => alertLow_of_hasEvent htpower (hmask.trans h) (hset _ hdone), hrx, fun hv => ?_, fun hv => ?_⟩
  · generalize (frostEvaluate u).1 = t at hevaluated hstore htseq ⊢
    rw [hstore, hframe] at hevaluated
    conv_lhs => rw [hevaluated]
    rw [htseq]
  · obtain ⟨q, hq⟩ := hfans st
    rw [frostEvaluate_fan, hq]
  · by_cases hst : (frostEvaluate u).1.frost.stage = .idle
    · obtain ⟨hw, ha⟩ := hidle hst
      exact evaluated_resolved (hst.trans hustage.symm) hw ha hresolved
    · exact (hhands (Or.inl (by rw [hustage]; exact hst))).2
  · by_cases hst : (frostEvaluate u).1.frost.stage = .idle
    · rw [if_pos hst, (hquiet (hst.trans hustage.symm) (hidle hst).1).2, hcount]
    · rw [if_neg hst, (hhands (Or.inl (by rw [hustage]; exact hst))).1, hcount]
      omega
  · rw [← hpublished] at hv ⊢
    obtain ⟨hm, hw, hs, hst, -⟩ := first_normal hrunning hfrost hv
    exact ⟨hm, hw, hs, hst⟩
  · rw [← hpublished] at hv ⊢
    obtain ⟨hm, hevent, hst, -⟩ := first_degraded hfrost hv
    exact ⟨hm, hevent, hst⟩

/-- Settles O5. -/
theorem startUpLoadsTheImage : Obligations.StartUpLoadsTheImage := by
  unfold Obligations.StartUpLoadsTheImage
  refine ⟨fun s i himage hwriting => ?_, fun raw s hpower hrun hnext hrail => ⟨_, ?_, startUpEnds_first hpower⟩⟩
  · have hload : imageAfterReset s.store = some i := by rw [imageAfterReset_eq, hwriting]; exact himage
    have hstart : ∀ cause, StartedFrom cause i s.pending (startUp cause s) := fun cause => by
      unfold startUp
      rw [hload]
      exact startedFrom_blank cause i s.pending
    exact ⟨fun hline => ⟨_, exec_powerOn hline, hstart _⟩, fun hheld => ⟨_, exec_release hheld, hstart _⟩⟩
  · rw [exec_last hpower hnext hrail, completeScan_first (a := converted raw s) hrun]
    rfl

end Sys2Proof.Proofs
end

section
/-! SUPPORT. Proofs: the passing of a millisecond (O1). -/

namespace Sys2Proof.Proofs

open Sys2Proof Sys2Proof.Machine

/-! ### Timers -/

theorem getElem?_mapVec {α β : Type} {n : Nat} (f : α → β) (v : Vector α n) (i : Nat) : (mapVec f v)[i]? = v[i]?.map f := by
  simp [mapVec, ← Vector.getElem?_toList]

theorem entry_tick_eq (e : DemandEntry) : e.tick = if e.expiry = none then e
    else if 999 ≤ e.ms ∧ 2 ≤ e.expiry.getD 0 then { e with expiry := e.expiry.map (· - 1), ms := 0 }
    else { e with ms := min (e.ms + 1) 1000 } := by
  unfold DemandEntry.tick
  cases h : e.expiry with
  | none => rfl
  | some n =>
    rw [if_neg nofun]
    exact if_congr (by simp; omega) rfl rfl

theorem row_tick_eq (r : NodeRow) : r.tick = if r.age = none then r
    else if 999 ≤ r.ageMs then { r with age := r.age.map fun a => min (a + 1) 65534, ageMs := 0 }
    else { r with ageMs := r.ageMs + 1 } := by
  unfold NodeRow.tick
  cases h : r.age with
  | none => rfl
  | some a =>
    rw [if_neg nofun]
    exact if_congr (by omega) rfl rfl

/-- The line's ticks, its state's timers apart. -/
theorem line_tick_eq (l : LineRecord) : l.tickDiscovery.tickState.tickTxn = { l with
    discTimer := if 999 ≤ l.discMs then min (l.discTimer + 1) 86400 else l.discTimer
    discMs := if 999 ≤ l.discMs then 0 else l.discMs + 1
    suspension := l.tickState.suspension, restart := l.tickState.restart, lineMs := l.tickState.lineMs
    txn := l.txn.map fun x => { x with ms := min (x.ms + 1) 100 } } := by
  have hdisc : l.tickDiscovery = { l with
      discTimer := if 999 ≤ l.discMs then min (l.discTimer + 1) 86400 else l.discTimer
      discMs := if 999 ≤ l.discMs then 0 else l.discMs + 1 } := by
    unfold LineRecord.tickDiscovery
    by_cases h : 999 ≤ l.discMs
    · rw [if_pos h, if_pos h, if_pos (by omega)]
    · rw [if_neg h, if_neg h, if_neg (by omega)]
  rw [hdisc]
  unfold LineRecord.tickTxn LineRecord.tickState
  dsimp only
  cases l.state with
  | active => rfl
  | fault =>
    dsimp only
    split <;> rfl
  | off =>
    dsimp only
    split
    · rfl
    · split <;> rfl

theorem tickState_active {l : LineRecord} (h : l.state = .active) : l.tickState = l := by
  unfold LineRecord.tickState
  rw [h]

theorem tickState_fault {l : LineRecord} (h : l.state = .fault) : l.tickState = { l with
    suspension := if 999 ≤ l.lineMs then l.suspension - 1 else l.suspension
    lineMs := if 999 ≤ l.lineMs then 0 else l.lineMs + 1 } := by
  unfold LineRecord.tickState
  rw [h]
  dsimp only
  by_cases hms : 999 ≤ l.lineMs
  · rw [if_pos hms, if_pos hms, if_pos (by omega), ← h]
  · rw [if_neg hms, if_neg hms, if_neg (by omega), ← h]

theorem tickState_restarts {l : LineRecord} (h : l.state = .off) (hp : l.powered = false) : l.tickState = { l with
    restart := if 999 ≤ l.lineMs then l.restart - 1 else l.restart
    lineMs := if 999 ≤ l.lineMs then 0 else l.lineMs + 1 } := by
  unfold LineRecord.tickState
  rw [h]
  dsimp only
  rw [if_neg (by rw [hp]; exact nofun)]
  by_cases hms : 999 ≤ l.lineMs
  · rw [if_pos hms, if_pos hms, if_pos (by omega), ← h]
  · rw [if_neg hms, if_neg hms, if_neg (by omega), ← h]

theorem tickState_settles {l : LineRecord} (h : l.state = .off) (hp : l.powered = true) :
    l.tickState = { l with lineMs := min (l.lineMs + 1) 100 } := by
  unfold LineRecord.tickState
  rw [h]
  dsimp only
  rw [if_pos hp]

theorem completes_iff (s : State) (n : Nat) : completes s n = true ↔ (s.clock + 1) % n = 0 := beq_iff_eq

theorem anyFlow_iff (s : State) : anyFlow s = true ↔ 0 < s.fans.supply.qMeas ∨ 0 < s.fans.extract.qMeas := by
  simp [anyFlow]

theorem countRunning_eq (s : State) : countRunning s =
    if (s.clock + 1) % 1000 = 0 ∧ (0 < s.fans.supply.qMeas ∨ 0 < s.fans.extract.qMeas) ∧ s.store.fanRunning < 3599 then
      s.store.fanRunning + 1 else s.store.fanRunning := by
  unfold countRunning
  simp only [completes_iff, anyFlow_iff]

/-- Every timer one millisecond on, as it stands in each record. -/
theorem advance_eq (s : State) : advance s = { s with
    clock := s.clock + 1
    fans := ⟨s.fans.supply.tick, s.fans.extract.tick⟩
    demand := { s.demand with timed := mapVec (Option.map DemandEntry.tick) s.demand.timed }
    frost := { s.frost with windowMs := min (s.frost.windowMs + 1) 10000 }
    line := { s.line with
      discTimer := if 999 ≤ s.line.discMs then min (s.line.discTimer + 1) 86400 else s.line.discTimer
      discMs := if 999 ≤ s.line.discMs then 0 else s.line.discMs + 1
      suspension := s.line.tickState.suspension, restart := s.line.tickState.restart, lineMs := s.line.tickState.lineMs
      txn := s.line.txn.map fun x => { x with ms := min (x.ms + 1) 100 } }
    nodes := mapVec (Option.map NodeRow.tick) s.nodes
    link := { s.link with silence := min (s.link.silence + 1) 1000, txMs := min (s.link.txMs + 1) 1000 }
    store := { s.store with
      writeMs := min (s.store.writeMs + 1) 180
      fanRunning := if (s.clock + 1) % 1000 = 0 ∧ (0 < s.fans.supply.qMeas ∨ 0 < s.fans.extract.qMeas) ∧
        s.store.fanRunning < 3599 then s.store.fanRunning + 1 else s.store.fanRunning } } := by
  unfold advance
  rw [line_tick_eq, countRunning_eq]
  rfl

theorem advance_slot (s : State) (k : Nat) : (advance s).demand.slot k = (s.demand.slot k).map DemandEntry.tick := by
  unfold DemandTable.slot
  split
  · rfl
  · change ((mapVec (Option.map DemandEntry.tick) s.demand.timed)[k - 1]?).join = _
    rw [getElem?_mapVec]
    cases s.demand.timed[k - 1]? <;> rfl

theorem advance_row (s : State) (p : Nat) : rowAt (advance s).nodes p = (rowAt s.nodes p).map NodeRow.tick := by
  unfold rowAt
  split
  · rfl
  · change ((mapVec (Option.map NodeRow.tick) s.nodes)[p - 1]?).join = _
    rw [getElem?_mapVec]
    cases s.nodes[p - 1]? <;> rfl

/-! ### The rows that fall due -/

section Due

variable {b s : State} {c : Instr}

theorem mem_rowsIf {cond : Bool} {rows : List Instr} : c ∈ rowsIf cond rows ↔ c ∈ rows ∧ cond = true := by
  unfold rowsIf
  cases cond <;> simp

theorem exists_stream (p : Stream → Prop) : (∃ st, p st) ↔ p .supply ∨ p .extract := by
  constructor
  · rintro ⟨st, h⟩
    cases st
    · exact Or.inl h
    · exact Or.inr h
  · rintro (h | h)
    · exact ⟨_, h⟩
    · exact ⟨_, h⟩

theorem mem_dueFans : c ∈ dueFans b s ↔ (c = .scanStart ∧ b.clock % 1000 = 0) ∨
    (∃ st, c = .pwmPeriod st ∧ (s.fans.get st).duty ≠ (s.fans.get st).applied) ∨
    (∃ st, c = .tachAbsence st ∧ (s.fans.get st).absence = some 2000) ∨ ∃ st, c = .controlStep st ∧ controlDue s = true := by
  simp only [dueFans, List.mem_append, mem_rowsIf, List.mem_cons, List.not_mem_nil, or_false, beq_iff_eq, bne_iff_ne,
    exists_stream, PerStream.get, or_assoc, or_and_right]

theorem mem_dueAir : c ∈ dueAir b s ↔ (∃ k, c = .demandExpiry k ∧ k ≤ 4 ∧ 1 ≤ k ∧ expiryDue s.demand k = true) ∨
    (c = .preheatWindow ∧ completes b 10000 = true) ∨
    (c = .preheatOnTimeEnd ∧ s.frost.output = true ∧ s.frost.duty < 100 ∧ s.frost.duty * 100 ≤ s.frost.windowMs) ∨
    (∃ st, c = .filterSample st ∧ completes b 60000 = true) ∨ ∃ st, c = .accumulationStep st ∧ completes b 1000 = true := by
  have hslots : c ∈ ([1, 2, 3, 4].filter (expiryDue s.demand)).map Instr.demandExpiry ↔
      ∃ k, c = .demandExpiry k ∧ k ≤ 4 ∧ 1 ≤ k ∧ expiryDue s.demand k = true := by
    rw [List.mem_map]
    refine exists_congr fun k => ?_
    have hk : k ∈ [1, 2, 3, 4] ↔ k ≤ 4 ∧ 1 ≤ k := by simp; omega
    rw [List.mem_filter, hk, eq_comm (a := Instr.demandExpiry k), and_comm, and_assoc]
  simp only [dueAir, List.mem_append, hslots, mem_rowsIf, List.mem_cons, List.not_mem_nil, or_false, exists_stream,
    Bool.and_eq_true, decide_eq_true_eq, and_assoc, or_assoc, or_and_right]

theorem mem_dueTxn {l : LineRecord} : c ∈ dueTxn l ↔ ∃ x ∈ l.txn, (c = .replyWindowClose ∧ x.phase = .exchange ∧ 40 ≤ x.ms) ∨
    (c = .waitGapEnd ∧ x.phase = .gap ∧ 90 ≤ x.ms) ∨ (c = .conflictRestEnd ∧ x.phase = .rest ∧ 100 ≤ x.ms) := by
  unfold dueTxn
  cases l.txn with
  | none => simp
  | some x => cases hp : x.phase <;> simp [hp, mem_rowsIf]

theorem mem_dueLineTimers : c ∈ dueLineTimers b s ↔ (c = .pollCycleDue ∧ completes b 30000 = true) ∨ c ∈ dueTxn s.line ∨
    (c = .suspensionEnd ∧ s.line.state = .fault ∧ s.line.suspension = 0) ∨
    (c = .discoveryTimerExpiry ∧ 86400 ≤ s.line.discTimer ∧ s.line.discPending = false ∧ s.line.job ≠ .discovery) ∨
    (c = .lineRestart ∧ s.line.state = .off ∧ s.line.powered = false ∧ s.line.restart = 0) ∨
    (c = .lineSettleEnd ∧ s.line.state = .off ∧ s.line.powered = true ∧ 100 ≤ s.line.lineMs) := by
  simp only [dueLineTimers, List.mem_append, mem_rowsIf, List.mem_cons, List.not_mem_nil, or_false, Bool.and_eq_true,
    beq_iff_eq, bne_iff_ne, decide_eq_true_eq, Bool.not_eq_true', and_assoc, or_assoc]

theorem mem_dueLine (hjob : c ≠ .jobStart) (hpoll : c ≠ .poll false) : c ∈ dueLine b s ↔ c ∈ dueLineTimers b s := by
  simp [dueLine, mem_rowsIf, hjob, hpoll]

theorem mem_dueHouse : c ∈ dueHouse b ↔ (c = .room0Sample ∧ completes b 30000 = true) ∨
    ((c = .sessionStep ∨ c = .modeStep) ∧ completes b 1000 = true) := by
  simp only [dueHouse, List.mem_append, mem_rowsIf, List.mem_cons, List.not_mem_nil, or_false]

theorem frameGone_iff (l : Link) : frameGone l = true ↔ ∃ fr ∈ l.tx.head?, (fr.body.length + 3) * 25 ≤ l.txMs * 48 := by
  unfold frameGone
  cases l.tx <;> simp

theorem mem_dueLink : c ∈ dueLink b s ↔ (c = .interByteGap ∧ s.link.rx ≠ .hunting ∧ 10 ≤ s.link.silence) ∨
    (c = .frameSent ∧ frameGone s.link = true) ∨
    (c = .saveWriteComplete ∧ s.store.writing.isSome = true ∧ 180 ≤ s.store.writeMs) ∨
    (c = .fanRunningHour ∧ runningHour b = true) := by
  simp only [dueLink, List.mem_append, mem_rowsIf, List.mem_cons, List.not_mem_nil, or_false, Bool.and_eq_true,
    bne_iff_ne, decide_eq_true_eq, or_assoc]

/-- A command that no request of the host spells. -/
def NoRequest (c : Instr) : Prop := ∀ (q : Request) (tag : Byte), q.toInstr tag ≠ c

theorem mem_due (hc : NoRequest c) : c ∈ due b s ↔
    c ∈ dueFans b s ∨ c ∈ dueAir b s ∨ c ∈ dueLine b s ∨ c ∈ dueHouse b ∨ c ∈ dueLink b s := by
  have hrequest : c ∉ dueRequest s.link := by
    intro h
    unfold dueRequest at h
    split at h
    · split at h
      · exact hc _ _ (List.mem_singleton.mp h).symm
      · exact nomatch h
    · exact nomatch h
  simp only [due, List.mem_append, hrequest, false_or, or_assoc]

theorem due_request {x : Slot} {q : Request} (hx : s.link.slot = some x) (hq : x.request = some q) (hp : x.phase = .waiting) :
    (due b s).head? = some (q.toInstr x.tag) := by
  have hrequest : dueRequest s.link = [q.toInstr x.tag] := by
    unfold dueRequest
    rw [hx]
    dsimp only
    rw [hq, hp]
  simp only [due, hrequest, List.cons_append, List.head?_cons]

end Due

end Sys2Proof.Proofs
end

section
/-! SUPPORT. Proofs: a step of the part (O1). -/

namespace Sys2Proof.Proofs

open Sys2Proof Sys2Proof.Machine

/-- The rows that a timer brings, which no request of the host spells. -/
def fallsDue : Instr → Bool
  | .scanStart | .controlStep _ | .pwmPeriod _ | .tachAbsence _ | .demandExpiry _ | .preheatWindow | .preheatOnTimeEnd
  | .filterSample _ | .accumulationStep _ | .pollCycleDue | .room0Sample | .sessionStep | .modeStep | .replyWindowClose
  | .waitGapEnd | .conflictRestEnd | .suspensionEnd | .discoveryTimerExpiry | .lineRestart | .lineSettleEnd | .interByteGap
  | .frameSent | .saveWriteComplete | .fanRunningHour => true
  | _ => false

theorem noRequest_of_fallsDue {c : Instr} (h : fallsDue c = true) : NoRequest c := by
  rintro q tag rfl
  cases q <;> exact nomatch h

/-- The part after a millisecond. -/
def ticked (s : State) : State := { advance s with pending := due s (advance s) }

theorem step_idle {s : State} (hempty : s.pending = []) (hpower : s.power = .running) : step s = .next (ticked s) := by
  unfold step
  rw [hempty]
  exact congrArg Host.Outcome.next (whenRunning_on hpower)

theorem step_still {s : State} (hempty : s.pending = []) (hpower : s.power ≠ .running) : step s = .next s := by
  unfold step
  rw [hempty]
  exact congrArg Host.Outcome.next (whenRunning_off hpower)

/-- A timed row is due where its group of rows brings it. -/
theorem mem_ticked {s : State} {c : Instr} (hc : NoRequest c) : c ∈ (ticked s).pending ↔
    c ∈ dueFans s (advance s) ∨ c ∈ dueAir s (advance s) ∨ c ∈ dueLine s (advance s) ∨ c ∈ dueHouse s ∨
      c ∈ dueLink s (advance s) := mem_due hc

theorem controlDue_iff (s : State) : controlDue (advance s) = true ↔
    s.startingUp = false ∧ s.fansOffAt ≤ s.clock ∧ (s.clock + 1 - s.fansOffAt) % 1000 = 0 := by
  have hclock : (advance s).clock = s.clock + 1 := rfl
  have hrun : (advance s).startingUp = s.startingUp := rfl
  have hoff : (advance s).fansOffAt = s.fansOffAt := rfl
  unfold controlDue
  rw [hclock, hrun, hoff]
  simp only [Bool.and_eq_true, Bool.not_eq_true', decide_eq_true_eq, beq_iff_eq, Nat.lt_succ_iff, and_assoc]

theorem expiryDue_iff (d : DemandTable) (k : Nat) :
    expiryDue d k = true ↔ ∃ e ∈ d.slot k, e.expiry = some 1 ∧ 1000 ≤ e.ms := by
  unfold expiryDue
  cases d.slot k <;> simp

theorem expiryDue_timed (d : DemandTable) (k : Nat) :
    (1 ≤ k ∧ expiryDue d k = true) ↔ ∃ e ∈ d.slot k, e.expiry = some 1 ∧ 1000 ≤ e.ms := by
  refine (and_iff_right_of_imp fun h => ?_).trans (expiryDue_iff d k)
  obtain ⟨e, he, -⟩ := (expiryDue_iff d k).mp h
  exact (slot_some he).1

theorem runningHour_iff (s : State) : runningHour s = true ↔
    (s.clock + 1) % 1000 = 0 ∧ (0 < s.fans.supply.qMeas ∨ 0 < s.fans.extract.qMeas) ∧ 3599 ≤ s.store.fanRunning := by
  unfold runningHour
  rw [Bool.and_eq_true, Bool.and_eq_true, completes_iff, anyFlow_iff, decide_eq_true_eq, and_assoc]

/-- Each timed row with the moment at which it is due. -/
theorem mem_ticked_rows {s : State} {c : Instr} (h : fallsDue c = true) : c ∈ (ticked s).pending ↔
    ((c = .scanStart ∧ s.clock % 1000 = 0) ∨
      (∃ st, c = .pwmPeriod st ∧ ((advance s).fans.get st).duty ≠ ((advance s).fans.get st).applied) ∨
      (∃ st, c = .tachAbsence st ∧ ((advance s).fans.get st).absence = some 2000) ∨
      ∃ st, c = .controlStep st ∧ controlDue (advance s) = true) ∨
    ((∃ k, c = .demandExpiry k ∧ k ≤ 4 ∧ 1 ≤ k ∧ expiryDue (advance s).demand k = true) ∨
      (c = .preheatWindow ∧ completes s 10000 = true) ∨
      (c = .preheatOnTimeEnd ∧ (advance s).frost.output = true ∧ (advance s).frost.duty < 100 ∧
        (advance s).frost.duty * 100 ≤ (advance s).frost.windowMs) ∨
      (∃ st, c = .filterSample st ∧ completes s 60000 = true) ∨ ∃ st, c = .accumulationStep st ∧ completes s 1000 = true) ∨
    ((c = .pollCycleDue ∧ completes s 30000 = true) ∨ c ∈ dueTxn (advance s).line ∨
      (c = .suspensionEnd ∧ (advance s).line.state = .fault ∧ (advance s).line.suspension = 0) ∨
      (c = .discoveryTimerExpiry ∧ 86400 ≤ (advance s).line.discTimer ∧ (advance s).line.discPending = false ∧
        (advance s).line.job ≠ .discovery) ∨
      (c = .lineRestart ∧ (advance s).line.state = .off ∧ (advance s).line.powered = false ∧ (advance s).line.restart = 0) ∨
      (c = .lineSettleEnd ∧ (advance s).line.state = .off ∧ (advance s).line.powered = true ∧
        100 ≤ (advance s).line.lineMs)) ∨
    ((c = .room0Sample ∧ completes s 30000 = true) ∨ ((c = .sessionStep ∨ c = .modeStep) ∧ completes s 1000 = true)) ∨
    (c = .interByteGap ∧ (advance s).link.rx ≠ .hunting ∧ 10 ≤ (advance s).link.silence) ∨
    (c = .frameSent ∧ frameGone (advance s).link = true) ∨
    (c = .saveWriteComplete ∧ (advance s).store.writing.isSome = true ∧ 180 ≤ (advance s).store.writeMs) ∨
    (c = .fanRunningHour ∧ runningHour s = true) := by
  have hline : c ∈ dueLine s (advance s) ↔ c ∈ dueLineTimers s (advance s) := by
    refine mem_dueLine ?_ ?_
    · rintro rfl
      exact nomatch h
    · rintro rfl
      exact nomatch h
  exact (mem_ticked (noRequest_of_fallsDue h)).trans (or_congr mem_dueFans (or_congr mem_dueAir
    (or_congr (hline.trans mem_dueLineTimers) (or_congr mem_dueHouse mem_dueLink))))

section Fields

variable (s : State)

@[simp] theorem ticked_fans : (ticked s).fans = (advance s).fans := rfl
@[simp] theorem ticked_demand : (ticked s).demand = (advance s).demand := rfl
@[simp] theorem ticked_frost : (ticked s).frost = (advance s).frost := rfl
@[simp] theorem ticked_line_eq : (ticked s).line = (advance s).line := rfl
@[simp] theorem ticked_link : (ticked s).link = (advance s).link := rfl
@[simp] theorem ticked_store : (ticked s).store = (advance s).store := rfl
@[simp] theorem advance_frost_output : (advance s).frost.output = s.frost.output := rfl
@[simp] theorem advance_frost_duty : (advance s).frost.duty = s.frost.duty := rfl
@[simp] theorem advance_link_rx : (advance s).link.rx = s.link.rx := rfl
@[simp] theorem advance_link_tx : (advance s).link.tx = s.link.tx := rfl
@[simp] theorem advance_store_writing : (advance s).store.writing = s.store.writing := rfl

@[simp] theorem advance_duty (st : Stream) : ((advance s).fans.get st).duty = (s.fans.get st).duty := by cases st <;> rfl
@[simp] theorem advance_applied (st : Stream) : ((advance s).fans.get st).applied = (s.fans.get st).applied := by
  cases st <;> rfl

@[simp] theorem advance_line_state : (advance s).line.state = s.line.state := by rw [advance_eq]
@[simp] theorem advance_line_powered : (advance s).line.powered = s.line.powered := by rw [advance_eq]
@[simp] theorem advance_line_discPending : (advance s).line.discPending = s.line.discPending := by rw [advance_eq]
@[simp] theorem advance_line_heldLow : (advance s).line.heldLow = s.line.heldLow := by rw [advance_eq]
@[simp] theorem advance_line_job : (advance s).line.job = s.line.job := by rw [advance_eq]

end Fields

/-- The rows of the clock that join the queue: each row stands once in `mem_ticked_rows`, with its moment. -/
theorem ticked_due (s : State) (c : Instr) (due : Prop) :
    ((c = .scanStart ∧ (due ↔ s.clock % 1000 = 0)) ∨
      (∃ st, c = .controlStep st ∧ (due ↔ s.startingUp = false ∧ s.fansOffAt ≤ s.clock ∧
        (s.clock + 1 - s.fansOffAt) % 1000 = 0)) ∨
      (∃ st, c = .pwmPeriod st ∧ (due ↔ (s.fans.get st).duty ≠ (s.fans.get st).applied)) ∨
      (∃ st, c = .tachAbsence st ∧ (due ↔ ((ticked s).fans.get st).absence = some 2000)) ∨
      (∃ k, c = .demandExpiry k ∧ (due ↔ k ≤ 4 ∧ ∃ e ∈ (ticked s).demand.slot k, e.expiry = some 1 ∧ 1000 ≤ e.ms)) ∨
      (c = .preheatWindow ∧ (due ↔ (s.clock + 1) % 10000 = 0)) ∨
      (c = .preheatOnTimeEnd ∧ (due ↔ s.frost.output = true ∧ s.frost.duty < 100 ∧
        s.frost.duty * 100 ≤ (ticked s).frost.windowMs)) ∨
      (∃ st, (c = .filterSample st ∧ (due ↔ (s.clock + 1) % 60000 = 0)) ∨
        (c = .accumulationStep st ∧ (due ↔ (s.clock + 1) % 1000 = 0))) ∨
      ((c = .pollCycleDue ∨ c = .room0Sample) ∧ (due ↔ (s.clock + 1) % 30000 = 0)) ∨
      ((c = .sessionStep ∨ c = .modeStep) ∧ (due ↔ (s.clock + 1) % 1000 = 0)) ∨
      (∃ ph ms, ((c = .replyWindowClose ∧ ph = .exchange ∧ ms = 40) ∨ (c = .waitGapEnd ∧ ph = .gap ∧ ms = 90) ∨
        (c = .conflictRestEnd ∧ ph = .rest ∧ ms = 100)) ∧ (due ↔ ∃ x ∈ (ticked s).line.txn, x.phase = ph ∧ ms ≤ x.ms)) ∨
      (c = .suspensionEnd ∧ (due ↔ s.line.state = .fault ∧ (ticked s).line.suspension = 0)) ∨
      (c = .discoveryTimerExpiry ∧ (due ↔ 86400 ≤ (ticked s).line.discTimer ∧ s.line.discPending = false ∧
        s.line.job ≠ .discovery)) ∨
      (c = .lineRestart ∧ (due ↔ s.line.state = .off ∧ s.line.powered = false ∧ (ticked s).line.restart = 0)) ∨
      (c = .lineSettleEnd ∧ (due ↔ s.line.state = .off ∧ s.line.powered = true ∧ 100 ≤ (ticked s).line.lineMs)) ∨
      (c = .interByteGap ∧ (due ↔ s.link.rx ≠ .hunting ∧ 10 ≤ (ticked s).link.silence)) ∨
      (c = .frameSent ∧ (due ↔ ∃ fr ∈ s.link.tx.head?, (fr.body.length + 3) * 25 ≤ (ticked s).link.txMs * 48)) ∨
      (c = .saveWriteComplete ∧ (due ↔ s.store.writing.isSome = true ∧ 180 ≤ (ticked s).store.writeMs)) ∨
      (c = .fanRunningHour ∧ (due ↔ (s.clock + 1) % 1000 = 0 ∧
        (0 < s.fans.supply.qMeas ∨ 0 < s.fans.extract.qMeas) ∧ 3599 ≤ s.store.fanRunning))) →
    (c ∈ (ticked s).pending ↔ due) := by
  rintro (⟨rfl, hdue⟩ | ⟨st, rfl, hdue⟩ | ⟨st, rfl, hdue⟩ | ⟨st, rfl, hdue⟩ | ⟨k, rfl, hdue⟩ | ⟨rfl, hdue⟩ | ⟨rfl, hdue⟩ |
    ⟨st, ⟨rfl, hdue⟩ | ⟨rfl, hdue⟩⟩ | ⟨rfl | rfl, hdue⟩ | ⟨rfl | rfl, hdue⟩ |
    ⟨ph, ms, ⟨rfl, rfl, rfl⟩ | ⟨rfl, rfl, rfl⟩ | ⟨rfl, rfl, rfl⟩, hdue⟩ | ⟨rfl, hdue⟩ | ⟨rfl, hdue⟩ | ⟨rfl, hdue⟩ |
    ⟨rfl, hdue⟩ | ⟨rfl, hdue⟩ | ⟨rfl, hdue⟩ | ⟨rfl, hdue⟩ | ⟨rfl, hdue⟩)
  all_goals
    rw [hdue, mem_ticked_rows rfl]
    simp [mem_dueTxn, completes_iff, controlDue_iff, expiryDue_timed, frameGone_iff, runningHour_iff]

/-- The rows of the line that its job brings. -/
theorem ticked_job {s : State} (hstate : s.line.state = .active) (hjob : s.line.job = .noJob)
    (hwait : s.line.callPending = true ∨ s.line.cycleDue = true ∨ s.line.discPending = true) :
    .jobStart ∈ (ticked s).pending := by
  have hwaits : jobWaiting (advance s).line = true := by
    rw [advance_eq]
    simpa [jobWaiting, hstate, hjob, or_assoc] using hwait
  have hline : .jobStart ∈ dueLine s (advance s) := by simp [dueLine, mem_rowsIf, hwaits]
  exact (mem_ticked fun q tag h => by cases q <;> exact nomatch h).mpr (.inr (.inr (.inl hline)))

theorem ticked_poll {s : State} (hfree : s.line.heldLow = false) (hdue : (s.line.txn.map (·.phase)) = some .due) :
    .poll false ∈ (ticked s).pending := by
  have hpoll : pollDue (advance s).line = true := by
    rw [advance_eq]
    obtain ⟨x, hx, hphase⟩ := Option.map_eq_some_iff.mp hdue
    simp [pollDue, hx, hphase]
  have hline : .poll false ∈ dueLine s (advance s) := by simp [dueLine, mem_rowsIf, hpoll, hfree]
  exact (mem_ticked fun q tag h => by cases q <;> exact nomatch h).mpr (.inr (.inr (.inl hline)))

theorem ticked_fan (s : State) (st : Stream) : (ticked s).fans.get st =
    { s.fans.get st with absence := (s.fans.get st).absence.map fun a => min (a + 1) 2000 } := by
  cases st <;> rfl

/-- A millisecond of the running part, record by record. -/
theorem ticked_frame (s : State) : ticked s = { s with
    clock := s.clock + 1, fans := (ticked s).fans, demand := { s.demand with timed := (ticked s).demand.timed }
    frost := { s.frost with windowMs := min (s.frost.windowMs + 1) 10000 }
    line := { s.line with
      discTimer := if 999 ≤ s.line.discMs then min (s.line.discTimer + 1) 86400 else s.line.discTimer
      discMs := if 999 ≤ s.line.discMs then 0 else s.line.discMs + 1
      suspension := (ticked s).line.suspension, restart := (ticked s).line.restart, lineMs := (ticked s).line.lineMs
      txn := s.line.txn.map fun x => { x with ms := min (x.ms + 1) 100 } }
    nodes := (ticked s).nodes
    link := { s.link with silence := min (s.link.silence + 1) 1000, txMs := min (s.link.txMs + 1) 1000 }
    store := { s.store with
      writeMs := min (s.store.writeMs + 1) 180
      fanRunning := if (s.clock + 1) % 1000 = 0 ∧ (0 < s.fans.supply.qMeas ∨ 0 < s.fans.extract.qMeas) ∧
        s.store.fanRunning < 3599 then s.store.fanRunning + 1 else s.store.fanRunning }
    pending := (ticked s).pending } := by
  unfold ticked
  rw [advance_eq]

/-- The timers of the line's state. -/
theorem ticked_lineState (s : State) : (ticked s).line.suspension = s.line.tickState.suspension ∧
    (ticked s).line.restart = s.line.tickState.restart ∧ (ticked s).line.lineMs = s.line.tickState.lineMs := by
  rw [ticked_line_eq, advance_eq]
  exact ⟨rfl, rfl, rfl⟩

/-- Settles O1: a step runs the front command, and with none a millisecond passes for a part that runs. -/
theorem stepRunsFrontCommand : Obligations.StepRunsFrontCommand := by
  unfold Obligations.StepRunsFrontCommand
  refine ⟨fun c rest s => rfl, fun s hempty => ⟨step_still hempty, fun hpower => ⟨ticked s, step_idle hempty hpower,
    ticked_frame s, ticked_fan s, fun k => ?slot, fun p => ?row, fun hstate => ?active, fun hstate => ?fault,
    fun hstate hpowered => ?restart, fun hstate hpowered => ?settle, fun x q hx hq hphase => ?request,
    ticked_job, ticked_poll, ticked_due s⟩⟩⟩
  case slot => exact (advance_slot s k).trans (congrArg (Option.map · _) (funext entry_tick_eq))
  case row => exact (advance_row s p).trans (congrArg (Option.map · _) (funext row_tick_eq))
  case active =>
    have htick := ticked_lineState s
    rwa [tickState_active hstate] at htick
  case fault =>
    obtain ⟨hsuspension, hrestart, hms⟩ := ticked_lineState s
    rw [hsuspension, hrestart, hms, tickState_fault hstate]
    exact ⟨rfl, rfl, rfl⟩
  case restart =>
    have htick := ticked_lineState s
    rwa [tickState_restarts hstate hpowered] at htick
  case settle =>
    have htick := ticked_lineState s
    rwa [tickState_settles hstate hpowered] at htick
  case request => exact due_request (s := advance s) hx hq hphase

end Sys2Proof.Proofs
end

section
/-! SUPPORT. Proofs: SET_MODE by the mode named and the mode in force (O48). -/

namespace Sys2Proof.Proofs

open Sys2Proof Sys2Proof.Machine

section

variable {h : State} {m : Mode}

/-! ### RUN and QUIET named -/

theorem inStandby_cases (x : Mode) : (x.inStandby = true ∧ (x = .standby ∨ x = .standbyEntry)) ∨
    (x.inStandby = false ∧ (x = .run ∨ x = .quiet)) := by
  cases x <;> simp [Mode.inStandby]

theorem chooseRunning_same (hm : m.inStandby = false) (hsame : h.mode.mode = m) : chooseRunning m h = h := by
  unfold chooseRunning
  subst hsame
  split <;> simp_all [Mode.inStandby]

theorem chooseRunning_running (hin : h.mode.mode.inStandby = false) (hother : h.mode.mode ≠ m) :
    chooseRunning m h = changeMode m h := by
  unfold chooseRunning
  split <;> simp_all [Mode.inStandby, eq_comm]

theorem chooseRunning_entry (hentry : h.mode.mode = .standbyEntry) : chooseRunning m h = unholdSessions (changeMode m h) := by
  unfold chooseRunning
  rw [hentry]

theorem chooseRunning_standby (hstandby : h.mode.mode = .standby) : chooseRunning m h = leaveStandby m h := by
  unfold chooseRunning
  rw [hstandby]

/-- Standby left with no burst live. -/
theorem leaveStandby_still (hstill : h.mode.airing = 0) : leaveStandby m h =
    unholdSessions (changeMode m { h with mode := { h.mode with nextAiring := none, elapsed := 0 } }) := by
  unfold leaveStandby
  rw [if_neg (by omega)]

theorem leaveStandby_airing (hburst : 0 < h.mode.airing) : leaveStandby m h =
    unholdSessions (changeMode m { endBurst h with mode := { (endBurst h).mode with nextAiring := none, elapsed := 0 } }) := by
  unfold leaveStandby
  rw [if_pos hburst]

theorem changeMode_fan (m : Mode) (s : State) (st : Stream) : (changeMode m s).fans.get st =
    { s.fans.get st with qTarget := ((changeMode m s).fans.get st).qTarget } := by
  cases st <;> rfl

theorem resolved_unholds (m : Mode) (s : State) : Resolved (unholdSessions (changeMode m s)) := resolved_resolve _

/-- What leaving STANDBY does, with a burst live and with none. -/
theorem leaveStandby_leaves (m : Mode) (h : State) : ∃ u, leaveStandby m h = u ∧
    u = { h with mode := ⟨m, 0, none, 0⟩, demand := u.demand, fans := u.fans, res := u.res, sessions := u.sessions } ∧
    Resolved u ∧ (∀ st, u.fans.get st = { h.fans.get st with qTarget := (u.fans.get st).qTarget }) ∧
    u.demand = (if 0 < h.mode.airing then
      { h.demand with airing := none, changeCount := (h.demand.changeCount + 1) % 256 } else h.demand) ∧
    u.res.count = (h.res.count + if 0 < h.mode.airing then 2 else 1) % 65536 ∧
    u.sessions = h.sessions.map fun x => { x with held := false } := by
  refine ⟨_, rfl, ?_⟩
  by_cases hburst : 0 < h.mode.airing
  · rw [leaveStandby_airing hburst, if_pos hburst, if_pos hburst]
    refine ⟨rfl, resolved_unholds m _, fun st => by cases st <;> rfl, rfl, ?_, rfl⟩
    show ((h.res.count + 1) % 65536 + 1) % 65536 = _
    omega
  · have hstill : h.mode.airing = 0 := by omega
    rw [leaveStandby_still hstill, if_neg hburst, if_neg hburst]
    have hrecord : (⟨m, 0, none, 0⟩ : ModeRecord) = ⟨m, 0, none, h.mode.airing⟩ := by rw [hstill]
    rw [hrecord]
    exact ⟨rfl, resolved_unholds m _, fun st => by cases st <;> rfl, rfl, rfl, rfl⟩

/-! ### STANDBY named -/

theorem fanUnsettled_iff (s : State) : fanUnsettled s = true ↔
    ∃ st, (s.fans.get st).state = .starting ∨ (s.fans.get st).state = .ramping := by
  simp only [fanUnsettled, Bool.or_eq_true, beq_iff_eq, exists_stream, PerStream.get, or_assoc]

theorem defrosting_iff (s : State) : defrosting s = true ↔
    s.frost.stage = .defrost ∨ s.frost.stage = .hold ∨ s.frost.stage = .lock := by
  simp only [defrosting, Bool.or_eq_true, beq_iff_eq, or_assoc]

theorem bothOff_iff (s : State) : bothOff s = true ↔ s.fans.supply.state = .off ∧ s.fans.extract.state = .off := by
  simp only [bothOff, Bool.and_eq_true, beq_iff_eq]

/-- STANDBY begins at once where both fans are OFF. -/
theorem enterStandby_begins (hoff : bothOff h = true) :
    enterStandby h = beginStandby (holdSessions (changeMode .standbyEntry h)) :=
  if_pos (show bothOff (holdSessions (changeMode .standbyEntry h)) = true from hoff)

theorem enterStandby_waits (hoff : bothOff h = false) :
    enterStandby h = holdSessions (changeMode .standbyEntry h) :=
  if_neg (by rw [show bothOff (holdSessions (changeMode .standbyEntry h)) = false from hoff]; exact nofun)

/-- The airing interval as it stands for scheduling. -/
theorem beginStandby_mode (s : State) : (beginStandby s).mode =
    ⟨.standby, 0, some (if s.seq.published.rhExt.validity = .invalid ∨ 650 ≤ s.seq.published.rhExt.filtered.getD 0 then
      s.settings.airingInterval / 2 else s.settings.airingInterval), 0⟩ := rfl

end

/-- SET_MODE's reply to RUN or QUIET. -/
theorem ownSetMode_running {code : Byte} {m : Mode} (h : State)
    (hcode : (code = 0 ∧ m = .run) ∨ (code = 1 ∧ m = .quiet)) :
    ownSetMode code h = (.now .ok (u8 (chooseRunning m h).mode.mode.code), chooseRunning m h) ∧ m.inStandby = false := by
  obtain ⟨rfl, rfl⟩ | ⟨rfl, rfl⟩ := hcode
  · exact ⟨rfl, rfl⟩
  · exact ⟨rfl, rfl⟩

/-- What RUN or QUIET does in another mode. -/
theorem chooseRunning_changes {h : State} {m : Mode} (hother : h.mode.mode ≠ m) :
    ∃ u, chooseRunning m h = u ∧
      u = { h with mode := u.mode, demand := u.demand, fans := u.fans, res := u.res, sessions := u.sessions } ∧
      u.mode.mode = m ∧ Resolved u ∧
      (∀ st, u.fans.get st = { h.fans.get st with qTarget := (u.fans.get st).qTarget }) ∧
      u.demand = (if h.mode.mode = .standby ∧ 0 < h.mode.airing then
        { h.demand with airing := none, changeCount := (h.demand.changeCount + 1) % 256 } else h.demand) ∧
      (h.mode.mode ≠ .standby → u.mode = { h.mode with mode := m } ∧ u.demand = h.demand ∧
        u.res.count = (h.res.count + 1) % 65536) ∧
      (h.mode.mode = .standby → u.mode = ⟨m, 0, none, 0⟩ ∧ (0 < h.mode.airing → u.demand.airing = none) ∧
        u.res.count = (h.res.count + if 0 < h.mode.airing then 2 else 1) % 65536) ∧
      u.sessions = if h.mode.mode.inStandby then h.sessions.map fun x => { x with held := false } else h.sessions := by
  obtain ⟨hin, hstandby | hentry⟩ | ⟨hin, -⟩ := inStandby_cases h.mode.mode
  · obtain ⟨u, hu, hframe, hresolved, hfans, hdemand, hcount, hsessions⟩ := leaveStandby_leaves m h
    have hmode : u.mode = ⟨m, 0, none, 0⟩ := by rw [hframe]
    refine ⟨u, (chooseRunning_standby hstandby).trans hu, ?_, congrArg ModeRecord.mode hmode, hresolved, hfans, ?_,
      fun hne => absurd hstandby hne, fun _ => ⟨hmode, fun hburst => ?_, hcount⟩, ?_⟩
    · rw [hmode]
      exact hframe
    · simpa only [hstandby, true_and] using hdemand
    · rw [hdemand, if_pos hburst]
    · rw [if_pos hin]
      exact hsessions
  · have hne : h.mode.mode ≠ .standby := by rw [hentry]; exact nofun
    refine ⟨_, chooseRunning_entry hentry, rfl, rfl, resolved_resolve _, changeMode_fan m h, ?_,
      fun _ => ⟨rfl, rfl, rfl⟩, fun hstandby => absurd hstandby hne, ?_⟩
    · rw [if_neg fun hboth => hne hboth.1]
      rfl
    · rw [if_pos hin]
      rfl
  · have hne : h.mode.mode ≠ .standby := fun hstandby => by rw [hstandby] at hin; exact nomatch hin
    refine ⟨_, chooseRunning_running hin hother, rfl, rfl, resolved_resolve _, changeMode_fan m h, ?_,
      fun _ => ⟨rfl, rfl, rfl⟩, fun hstandby => absurd hstandby hne, ?_⟩
    · rw [if_neg fun hboth => hne hboth.1]
      rfl
    · rw [if_neg (by rw [hin]; exact nofun)]
      rfl

/-- What naming STANDBY does to a part that may enter it. -/
theorem enterStandby_enters (h : State) : ∃ u, enterStandby h = u ∧
    u = { h with mode := u.mode, fans := u.fans, res := u.res, sessions := u.sessions, events := u.events } ∧
    u.sessions = h.sessions.map (fun x => { x with held := true, shortCount := 0 }) ∧ Resolved u ∧
    (∀ st, u.fans.get st = { h.fans.get st with qTarget := (u.fans.get st).qTarget }) ∧
    (∀ wait, wait = (if h.seq.published.rhExt.validity = .invalid ∨ 650 ≤ h.seq.published.rhExt.filtered.getD 0 then
        h.settings.airingInterval / 2 else h.settings.airingInterval) →
      h.fans.supply.state = .off → h.fans.extract.state = .off → u.mode = ⟨.standby, 0, some wait, 0⟩) ∧
    u.res.count = (h.res.count +
      if h.fans.supply.state = .off ∧ h.fans.extract.state = .off then 2 else 1) % 65536 ∧
    (h.fans.supply.state = .off ∧ h.fans.extract.state = .off → u.mode.mode = .standby ∧ u.mode.elapsed = 0 ∧
      u.mode.airing = 0 ∧ u.mode.nextAiring.isSome = true ∧ u.events = h.events ||| Event.modeChanged.bit) ∧
    (h.fans.supply.state ≠ .off ∨ h.fans.extract.state ≠ .off →
      u.mode = { h.mode with mode := .standbyEntry } ∧ u.events = h.events) := by
  refine ⟨_, rfl, ?_⟩
  by_cases hoff : h.fans.supply.state = .off ∧ h.fans.extract.state = .off
  · rw [enterStandby_begins ((bothOff_iff h).mpr hoff), if_pos hoff]
    refine ⟨rfl, rfl, resolved_resolve _, fun st => by cases st <;> rfl, ?_, ?_, fun _ => ⟨rfl, rfl, rfl, rfl, rfl⟩,
      fun hon => ?_⟩
    · rintro wait rfl - -
      exact beginStandby_mode _
    · show ((h.res.count + 1) % 65536 + 1) % 65536 = _
      omega
    · exact (not_or.mpr ⟨not_not.mpr hoff.1, not_not.mpr hoff.2⟩ hon).elim
  · have hwaits : bothOff h = false := by simpa only [Bool.not_eq_true] using mt (bothOff_iff h).mp hoff
    rw [enterStandby_waits hwaits, if_neg hoff]
    exact ⟨rfl, rfl, resolved_resolve _, changeMode_fan .standbyEntry h, fun _ _ hs he => absurd ⟨hs, he⟩ hoff, rfl,
      fun hboth => absurd hboth hoff, fun _ => ⟨rfl, rfl⟩⟩

/-- Settles O48: RUN or QUIET by the mode in force, and STANDBY by its checks in their order. -/
theorem setMode : Obligations.SetMode := by
  unfold Obligations.SetMode
  intro tag code s q hq hacc h hh
  subst hq
  have hserve {r : Result} {p : List Byte} {u : State} (howner : ownSetMode code h = (.now r p, u)) :
      exec (.setMode tag code) s = .next (replied tag (.setMode code) r p u) := exec_heard_now hacc hh howner
  have hstandby (hcode : code = 2) : ownSetMode code h = chooseStandby h := by
    subst hcode
    rfl
  refine ⟨fun hlarge => ?_, fun m hm => ?_, fun hcode hin => ?_, fun hcode hin hbusy => ?_, fun hcode hin hfans hd hho hl => ?_⟩
  · have hnone : modeOf code = none := by
      unfold modeOf
      have h0 : code ≠ 0 := by rintro rfl; exact absurd hlarge (by decide)
      have h1 : code ≠ 1 := by rintro rfl; exact absurd hlarge (by decide)
      have h2 : code ≠ 2 := by rintro rfl; exact absurd hlarge (by decide)
      rw [if_neg h0, if_neg h1, if_neg h2]
    refine hserve ?_
    unfold ownSetMode
    rw [hnone]
    rfl
  · obtain ⟨howner, hrun⟩ := ownSetMode_running h hm
    refine ⟨fun hsame => hserve ?_, fun hother => ?_⟩
    · rw [howner, chooseRunning_same hrun hsame, hsame]
    · obtain ⟨u, hu, hframe, hmode, hrest⟩ := chooseRunning_changes hother
      refine ⟨u, hserve ?_, hframe, hmode, hrest⟩
      rw [howner, hu, hmode]
  · exact hserve ((hstandby hcode).trans (if_pos hin))
  · refine hserve ((hstandby hcode).trans ?_)
    unfold chooseStandby
    rw [if_neg (by rw [hin]; exact nofun)]
    by_cases hf : fanUnsettled h = true
    · rw [if_pos hf]
      rfl
    · have hfrost := hbusy.resolve_left fun hst => hf ((fanUnsettled_iff h).mpr hst)
      rw [if_neg hf, if_pos ((defrosting_iff h).mpr hfrost)]
      rfl
  · obtain ⟨u, hu, hrest⟩ := enterStandby_enters h
    refine ⟨u, hserve ((hstandby hcode).trans ?_), hrest⟩
    have hsettled : ¬ fanUnsettled h = true := by
      rw [fanUnsettled_iff]
      rintro ⟨st, hst | hst⟩
      · exact (hfans st).1 hst
      · exact (hfans st).2 hst
    have hfrost : ¬ defrosting h = true := by
      rw [defrosting_iff]
      rintro (hst | hst | hst)
      · exact hd hst
      · exact hho hst
      · exact hl hst
    unfold chooseStandby
    rw [if_neg (by rw [hin]; exact nofun), if_neg hsettled, if_neg hfrost, hu]
    rfl

end Sys2Proof.Proofs
end

section
/-! SUPPORT. Proofs: the mode step, its supervision and its mode's work (O49, O50). -/

namespace Sys2Proof.Proofs

open Sys2Proof Sys2Proof.Machine

/-! ### Supervision's work (R152, R153) -/

/-- The step at which the host is declared lost. -/
abbrev LosesHost (s : State) : Prop := s.superv.state = .probing ∧ 3 ≤ s.superv.probes

/-- What supervision's work of a mode step does. -/
structure Supervises (s a : State) : Prop where
  frame : a = { s with
    superv := a.superv, demand := a.demand, fans := a.fans, res := a.res, link := a.link, events := a.events }
  fans : ∀ st, a.fans.get st = { s.fans.get st with qTarget := (a.fans.get st).qTarget }
  loses : LosesHost s → a.demand = { s.demand with
      fallback := some ⟨s.settings.qFallback, none, false, s.uptime, 0⟩, changeCount := (s.demand.changeCount + 1) % 256 } ∧
    Resolved a ∧ a.hasEvent .hostLost = true
  keeps : ¬ LosesHost s → a.demand = s.demand ∧ a.res = s.res ∧ a.fans = s.fans

section Supervision

variable {s : State}

theorem enqueueAlive_eq (k : Nat) (s : State) : enqueueAlive k s = { s with link := (enqueueAlive k s).link } := by
  unfold enqueueAlive
  split <;> rfl

theorem enqueueAlive_tx (k : Nat) (s : State) : (enqueueAlive k s).link.tx = if waitingOf .notice s = 0 then
    s.link.tx ++ [⟨.notice, aliveBody k s.mode.mode s.alertLow⟩] else s.link.tx := by
  unfold enqueueAlive
  split <;> rfl

theorem superviseStep_counts (hok : s.superv.state = .ok) (hearly : s.superv.silence + 1 < s.settings.supervisionInterval) :
    superviseStep s = ({ s with superv := { s.superv with silence := s.superv.silence + 1 } }, []) := by
  unfold superviseStep
  rw [hok]
  exact if_neg (by omega)

theorem superviseStep_probes (hok : s.superv.state = .ok) (hdue : s.settings.supervisionInterval ≤ s.superv.silence + 1) :
    superviseStep s = (enqueueAlive 1 { s with superv := ⟨.probing, s.superv.silence + 1, 1⟩ }, [.probingStart]) := by
  unfold superviseStep
  rw [hok]
  exact if_pos hdue

theorem superviseStep_repeats (hprobing : s.superv.state = .probing) (hmore : s.superv.probes < 3) : superviseStep s =
    (enqueueAlive (s.superv.probes + 1) { s with superv := { s.superv with probes := s.superv.probes + 1 } }, [.alive]) := by
  unfold superviseStep
  rw [hprobing]
  exact if_pos hmore

theorem superviseStep_loses (h : LosesHost s) : superviseStep s = (declareLost s, [.hostLost]) := by
  obtain ⟨hprobing, hlast⟩ := h
  unfold superviseStep
  rw [hprobing]
  exact if_neg (by omega)

theorem superviseStep_rests (h : s.superv.state = .lost ∨ s.superv.state = .off) : superviseStep s = (s, []) := by
  unfold superviseStep
  obtain h | h := h <;> rw [h]

theorem supervises_quiet {a : State} (hlost : ¬ LosesHost s)
    (ha : a = { s with superv := a.superv, link := a.link }) : Supervises s a := by
  obtain ⟨hdemand, hres, hfans⟩ : a.demand = s.demand ∧ a.res = s.res ∧ a.fans = s.fans := by
    rw [ha]
    exact ⟨rfl, rfl, rfl⟩
  refine ⟨?_, fun st => by rw [hfans], fun h => absurd h hlost, fun _ => ⟨hdemand, hres, hfans⟩⟩
  rw [hdemand, hres, hfans]
  have hevents : a.events = s.events := by rw [ha]
  rw [hevents]
  exact ha

theorem supervises_alive {v : Supervision} (k : Nat) (hlost : ¬ LosesHost s) :
    Supervises s (enqueueAlive k { s with superv := v }) := by
  refine supervises_quiet hlost ?_
  rw [enqueueAlive_eq]

theorem supervises_declareLost (h : LosesHost s) : Supervises s (declareLost s) where
  frame := rfl
  fans st := by cases st <;> rfl
  loses _ := ⟨rfl, resolved_resolve _, raise_hasEvent _ _⟩
  keeps hnot := absurd h hnot

theorem supervises (s : State) : Supervises s (superviseStep s).1 := by
  by_cases hlost : LosesHost s
  · rw [superviseStep_loses hlost]
    exact supervises_declareLost hlost
  · cases hstate : s.superv.state with
    | ok =>
      by_cases hdue : s.settings.supervisionInterval ≤ s.superv.silence + 1
      · rw [superviseStep_probes hstate hdue]
        exact supervises_alive 1 hlost
      · rw [superviseStep_counts hstate (by omega)]
        exact supervises_quiet hlost rfl
    | probing =>
      have hmore : s.superv.probes < 3 := by
        by_contra hlast
        exact hlost ⟨hstate, by omega⟩
      rw [superviseStep_repeats hstate hmore]
      exact supervises_alive _ hlost
    | lost =>
      rw [superviseStep_rests (.inl hstate)]
      exact supervises_quiet hlost rfl
    | off =>
      rw [superviseStep_rests (.inr hstate)]
      exact supervises_quiet hlost rfl

end Supervision

/-! ### The mode's work (R147 to R150) -/

/-- What the mode's work of a mode step does. -/
structure ModeWorks (a t : State) : Prop where
  frame : t = { a with
    mode := t.mode, demand := t.demand, fans := t.fans, res := t.res, sessions := t.sessions, events := t.events }
  fans : ∀ st, t.fans.get st = { a.fans.get st with qTarget := (t.fans.get st).qTarget }
  demand : t.demand = a.demand ∨ (t.demand = { a.demand with
      airing := t.demand.airing, changeCount := (a.demand.changeCount + 1) % 256 } ∧
    (AiringLegal a → t.demand.airing ≠ a.demand.airing))
  still : t.mode.mode = a.mode.mode → t.demand = a.demand → t.res = a.res ∧ t.fans = a.fans
  resolved : Resolved a → Resolved t
  events : ∀ e, a.hasEvent e = true → t.hasEvent e = true

section Work

variable {a : State}

/-- The standby count of a step in STANDBY. -/
def standbyTimed (a : State) : State := { a with mode := { a.mode with elapsed := a.mode.elapsed + 1 } }

theorem modeWork_running (h : a.mode.mode = .run ∨ a.mode.mode = .quiet) : modeWork a = (a, []) := by
  unfold modeWork
  obtain h | h := h <;> rw [h]

theorem modeWork_waits (hentry : a.mode.mode = .standbyEntry) (hoff : ¬ bothOff a = true) : modeWork a = (a, []) := by
  unfold modeWork
  rw [hentry]
  exact if_neg hoff

theorem modeWork_begins (hentry : a.mode.mode = .standbyEntry) (hoff : bothOff a = true) :
    modeWork a = (beginStandby a, [.standbyBegin]) := by
  unfold modeWork
  rw [hentry]
  exact if_pos hoff

theorem modeWork_limit (hstandby : a.mode.mode = .standby) (hlimit : 43199 ≤ a.mode.elapsed) :
    modeWork a = (raise .modeChanged (leaveStandby .run (standbyTimed a)), [.standbyLimit]) := by
  unfold modeWork
  rw [hstandby]
  exact if_pos (show 43200 ≤ a.mode.elapsed + 1 by omega)

theorem modeWork_airs (hstandby : a.mode.mode = .standby) (hearly : a.mode.elapsed < 43199) :
    modeWork a = airingStep (standbyTimed a) := by
  unfold modeWork
  rw [hstandby]
  exact if_neg (show ¬ 43200 ≤ a.mode.elapsed + 1 by omega)

theorem airingStep_ends (hlast : a.mode.airing = 1) : airingStep a = (endBurst a, [.burstEnd]) :=
  (if_pos (by omega)).trans (if_pos hlast)

theorem airingStep_goesOn (hmore : 2 ≤ a.mode.airing) :
    airingStep a = ({ a with mode := { a.mode with airing := a.mode.airing - 1 } }, []) :=
  (if_pos (by omega)).trans (if_neg (by omega))

theorem airingStep_unscheduled (hidle : a.mode.airing = 0) (hnext : a.mode.nextAiring = none) : airingStep a = (a, []) := by
  refine (if_neg (by omega)).trans ?_
  unfold waitStep
  rw [hnext]

theorem airingStep_starts {n : Nat} (hidle : a.mode.airing = 0) (hnext : a.mode.nextAiring = some n) (hdue : n ≤ 1) :
    airingStep a = (startBurst { a with mode := { a.mode with nextAiring := some 0 } }, [.burstStart]) := by
  refine (if_neg (by omega)).trans ?_
  unfold waitStep
  rw [hnext]
  exact if_pos hdue

theorem airingStep_waits {n : Nat} (hidle : a.mode.airing = 0) (hnext : a.mode.nextAiring = some n) (hearly : 2 ≤ n) :
    airingStep a = ({ a with mode := { a.mode with nextAiring := some (n - 1) } }, []) := by
  refine (if_neg (by omega)).trans ?_
  unfold waitStep
  rw [hnext]
  exact if_neg (by omega)

/-- Timers of the mode record alone. -/
theorem modeWorks_timers {m : ModeRecord} (hm : m.mode = a.mode.mode) : ModeWorks a { a with mode := m } where
  frame := rfl
  fans _ := rfl
  demand := .inl rfl
  still _ _ := ⟨rfl, rfl⟩
  resolved h := by
    obtain ⟨m, elapsed, next, airing⟩ := m
    obtain rfl : m = a.mode.mode := hm
    exact h
  events _ h := h

theorem modeWorks_begin (hentry : a.mode.mode = .standbyEntry) : ModeWorks a (beginStandby a) where
  frame := rfl
  fans st := by cases st <;> rfl
  demand := .inl rfl
  still hsame _ := absurd hsame (by rw [hentry]; exact nofun)
  resolved _ := resolved_resolve _
  events e h := hasEvent_raise .modeChanged e h

/-- A burst that ends removes an entry, one that starts brings one. -/
theorem airing_ends (hburst : 0 < a.mode.airing) (h : AiringLegal a) : none ≠ a.demand.airing := by
  obtain ⟨-, hentry, -⟩ := h
  intro hnone
  rw [← hnone] at hentry
  exact absurd (hentry.mpr hburst) nofun

theorem airing_starts {e : DemandEntry} (hidle : a.mode.airing = 0) (h : AiringLegal a) : some e ≠ a.demand.airing := by
  obtain ⟨-, hentry, -⟩ := h
  intro hsome
  rw [← hsome, hidle] at hentry
  exact absurd (hentry.mp rfl) (by omega)

theorem modeWorks_endBurst (hburst : 0 < a.mode.airing) : ModeWorks a (endBurst (standbyTimed a)) where
  frame := rfl
  fans st := by cases st <;> rfl
  demand := .inr ⟨rfl, airing_ends hburst⟩
  still _ hsame := by
    have hcount : (a.demand.changeCount + 1) % 256 = a.demand.changeCount := congrArg DemandTable.changeCount hsame
    omega
  resolved _ := resolved_resolve _
  events _ h := h

theorem modeWorks_startBurst {m : ModeRecord} (hidle : a.mode.airing = 0) : ModeWorks a (startBurst { a with mode := m }) where
  frame := rfl
  fans st := by cases st <;> rfl
  demand := .inr ⟨rfl, airing_starts hidle⟩
  still _ hsame := by
    have hcount : (a.demand.changeCount + 1) % 256 = a.demand.changeCount := congrArg DemandTable.changeCount hsame
    omega
  resolved _ := resolved_resolve _
  events _ h := h

theorem modeWorks_leave (hstandby : a.mode.mode = .standby) :
    ModeWorks a (raise .modeChanged (leaveStandby .run (standbyTimed a))) := by
  obtain ⟨u, hu, hframe, hresolved, hfans, hdemand, -, -⟩ := leaveStandby_leaves .run (standbyTimed a)
  rw [hu]
  have hmode : u.mode = ⟨.run, 0, none, 0⟩ := by rw [hframe]
  have hevents : u.events = a.events := by rw [hframe]; rfl
  exact {
    frame := by rw [hframe]; rfl
    fans := hfans
    demand := by
      by_cases hburst : 0 < (standbyTimed a).mode.airing
      · rw [if_pos hburst] at hdemand
        refine .inr ⟨?_, fun hlegal => ?_⟩
        · rw [raise_demand, hdemand]
          rfl
        · rw [raise_demand, hdemand]
          exact airing_ends hburst hlegal
      · exact .inl (hdemand.trans (if_neg hburst))
    still := fun hsame _ => by
      rw [raise_mode, hmode, hstandby] at hsame
      exact nomatch hsame
    resolved := fun _ => resolved_raise _ hresolved
    events := fun e h => hasEvent_raise .modeChanged e (by unfold State.hasEvent at *; rwa [hevents]) }

theorem modeWorks_airing (a : State) : ModeWorks a (airingStep (standbyTimed a)).1 := by
  by_cases hidle : a.mode.airing = 0
  · cases hnext : a.mode.nextAiring with
    | none =>
      rw [airingStep_unscheduled (a := standbyTimed a) hidle hnext]
      exact modeWorks_timers rfl
    | some n =>
      by_cases hdue : n ≤ 1
      · rw [airingStep_starts (a := standbyTimed a) hidle hnext hdue]
        exact modeWorks_startBurst hidle
      · rw [airingStep_waits (a := standbyTimed a) hidle hnext (by omega)]
        exact modeWorks_timers rfl
  · by_cases hlast : a.mode.airing = 1
    · rw [airingStep_ends (a := standbyTimed a) hlast]
      exact modeWorks_endBurst (by omega)
    · rw [airingStep_goesOn (a := standbyTimed a) (show 2 ≤ a.mode.airing by omega)]
      exact modeWorks_timers rfl

theorem modeWorks (a : State) : ModeWorks a (modeWork a).1 := by
  cases hmode : a.mode.mode with
  | run =>
    rw [modeWork_running (.inl hmode)]
    exact modeWorks_timers rfl
  | quiet =>
    rw [modeWork_running (.inr hmode)]
    exact modeWorks_timers rfl
  | standbyEntry =>
    by_cases hoff : bothOff a = true
    · rw [modeWork_begins hmode hoff]
      exact modeWorks_begin hmode
    · rw [modeWork_waits hmode hoff]
      exact modeWorks_timers rfl
  | standby =>
    by_cases hlimit : 43199 ≤ a.mode.elapsed
    · rw [modeWork_limit hmode hlimit]
      exact modeWorks_leave hmode
    · rw [modeWork_airs hmode (by omega)]
      exact modeWorks_airing a

end Work

/-! ### The rows of a mode step -/

theorem exec_modeStep {s : State} (hpower : s.power = .running) :
    exec .modeStep s = .next (modeWork (superviseStep s).1).1 :=
  exec_running (f := fun s => (modeStep s).1) hpower rfl rfl

/-- A row that names an occasion of a mode step is that step. -/
theorem exec_mode_marked {s : State} {c : Instr} {m : ModeMark} (hpower : s.power = .running)
    (hc : exec c s = .next (whenRunning (whenMarked m modeStep) s))
    (hm : m ∈ (superviseStep s).2 ∨ m ∈ (modeWork (superviseStep s).1).2) :
    exec c s = .next (modeWork (superviseStep s).1).1 :=
  exec_running hpower hc (whenMarked_on (List.mem_append.mpr hm))

/-- Settles O50: supervision's work by its state, which the mode's work leaves. -/
theorem supervisionRows : Obligations.SupervisionRows := by
  unfold Obligations.SupervisionRows
  intro s hpower
  have hworks := modeWorks (superviseStep s).1
  have hsuperv : (modeWork (superviseStep s).1).1.superv = (superviseStep s).1.superv := by rw [hworks.frame]
  have hlink : (modeWork (superviseStep s).1).1.link = (superviseStep s).1.link := by rw [hworks.frame]
  refine ⟨_, exec_modeStep hpower, fun notice hnotice => ?_⟩
  rw [hsuperv, hlink]
  refine ⟨fun hok hearly => ?_, fun hok hdue => ⟨exec_mode_marked hpower rfl (.inl ?_), ?_⟩,
    fun hprobing hmore => ⟨exec_mode_marked hpower rfl (.inl ?_), ?_⟩, fun hprobing hlast => ?_, fun hrest => ?_,
    fun hmode => ?_⟩
  · rw [superviseStep_counts hok hearly]
    exact ⟨rfl, rfl⟩
  · rw [superviseStep_probes hok hdue]
    exact List.mem_singleton.mpr rfl
  · rw [superviseStep_probes hok hdue, hnotice]
    refine ⟨?_, enqueueAlive_tx 1 _⟩
    rw [enqueueAlive_eq]
  · rw [superviseStep_repeats hprobing hmore]
    exact List.mem_singleton.mpr rfl
  · rw [superviseStep_repeats hprobing hmore, hnotice]
    refine ⟨?_, enqueueAlive_tx _ _⟩
    rw [enqueueAlive_eq]
  · obtain ⟨hdemand, hresolved, hevent⟩ := (supervises s).loses ⟨hprobing, hlast⟩
    have hrow : exec .hostLost s = .next (modeWork (superviseStep s).1).1 := by
      refine exec_mode_marked hpower rfl (.inl ?_)
      rw [superviseStep_loses ⟨hprobing, hlast⟩]
      exact List.mem_singleton.mpr rfl
    refine ⟨hrow, ?_, ?_, hworks.events _ hevent, ?_, hworks.resolved hresolved⟩
    · rw [superviseStep_loses ⟨hprobing, hlast⟩]
      rfl
    · rw [superviseStep_loses ⟨hprobing, hlast⟩]
      rfl
    · obtain hsame | ⟨hsame, -⟩ := hworks.demand
      · rw [hsame, hdemand]
      · rw [hsame, hdemand]
  · rw [superviseStep_rests hrest]
    exact ⟨rfl, rfl⟩
  · have hkeeps : (superviseStep s).1.mode = s.mode := by rw [(supervises s).frame]
    rw [modeWork_running (by rwa [hkeeps])]
    refine ⟨hkeeps, ?_⟩
    rw [(supervises s).frame]

end Sys2Proof.Proofs
end

section
/-! SUPPORT. Proofs: standby waits, begins, airs and reaches its limit (O49). -/

namespace Sys2Proof.Proofs

open Sys2Proof Sys2Proof.Machine

theorem superviseStep_marks {s : State} {m : ModeMark} (hm : m ∈ (superviseStep s).2) :
    m = .probingStart ∨ m = .alive ∨ m = .hostLost := by
  unfold superviseStep at hm
  split at hm
  · split at hm
    · exact .inl (List.mem_singleton.mp hm)
    · exact nomatch hm
  · split at hm
    · exact .inr (.inl (List.mem_singleton.mp hm))
    · exact .inr (.inr (List.mem_singleton.mp hm))
  · exact nomatch hm
  · exact nomatch hm

section

variable {s : State}

/-- What the mode's work finds of the state before the step. -/
theorem supervised_mode (s : State) : (superviseStep s).1.mode = s.mode ∧ (superviseStep s).1.sessions = s.sessions ∧
    (superviseStep s).1.settings = s.settings ∧ (superviseStep s).1.seq = s.seq ∧ (superviseStep s).1.uptime = s.uptime := by
  rw [(supervises s).frame]
  exact ⟨rfl, rfl, rfl, rfl, rfl⟩

theorem supervised_off (s : State) (st : Stream) : ((superviseStep s).1.fans.get st).state = (s.fans.get st).state := by
  rw [(supervises s).fans st]

theorem supervised_bothOff (s : State) : bothOff (superviseStep s).1 = true ↔
    s.fans.supply.state = .off ∧ s.fans.extract.state = .off := by
  rw [bothOff_iff]
  exact iff_of_eq (congrArg₂ (fun a b => a = FanState.off ∧ b = FanState.off) (supervised_off s .supply) (supervised_off s .extract))

theorem supervised_airing (s : State) : (superviseStep s).1.demand.airing = s.demand.airing := by
  by_cases hlost : LosesHost s
  · obtain ⟨hdemand, -⟩ := (supervises s).loses hlost
    rw [hdemand]
  · obtain ⟨hdemand, -⟩ := (supervises s).keeps hlost
    rw [hdemand]

theorem supervised_legal (h : AiringLegal s) : AiringLegal (superviseStep s).1 := by
  obtain ⟨hmode, -⟩ := supervised_mode s
  unfold AiringLegal at *
  rwa [hmode, supervised_airing]

/-- Outside STANDBY the mode's work leaves the demand table. -/
theorem modeWork_demand {a : State} (h : a.mode.mode ≠ .standby) : (modeWork a).1.demand = a.demand := by
  unfold modeWork
  split
  · split <;> rfl
  · exact absurd ‹_› h
  · rfl
  · rfl

/-- The step's changes of the demand table and of the fans. -/
theorem modeStep_demand {s a t : State} (hlegal : AiringLegal a) (hsup : Supervises s a) (hwork : ModeWorks a t)
    (hairing : a.demand.airing = s.demand.airing) (hmode : a.mode = s.mode) {lost : Prop} (hlost : lost ↔ LosesHost s) :
    (∀ st, t.fans.get st = { s.fans.get st with qTarget := (t.fans.get st).qTarget }) ∧
    t.demand = { s.demand with
      airing := t.demand.airing, fallback := t.demand.fallback, changeCount := t.demand.changeCount } ∧
    (lost → t.demand.fallback = some ⟨s.settings.qFallback, none, false, s.uptime, 0⟩ ∧
      t.demand.changeCount = (s.demand.changeCount + if t.demand.airing = s.demand.airing then 1 else 2) % 256) ∧
    (¬lost → t.demand.fallback = s.demand.fallback ∧
      (t.demand.airing = s.demand.airing → t.demand = s.demand) ∧
      (t.demand.airing ≠ s.demand.airing → t.demand.changeCount = (s.demand.changeCount + 1) % 256) ∧
      (t.mode.mode = s.mode.mode → t.demand.airing = s.demand.airing → t.res = s.res ∧ t.fans = s.fans)) := by
  have hfans (st : Stream) : t.fans.get st = { s.fans.get st with qTarget := (t.fans.get st).qTarget } := by
    rw [hwork.fans st, hsup.fans st]
  rw [hlost]
  refine ⟨hfans, ?_, fun hl => ?_, fun hl => ?_⟩
  · have htable : a.demand = { s.demand with
        airing := a.demand.airing, fallback := a.demand.fallback, changeCount := a.demand.changeCount } := by
      by_cases hl : LosesHost s
      · obtain ⟨hdemand, -⟩ := hsup.loses hl
        rw [hdemand]
      · obtain ⟨hdemand, -⟩ := hsup.keeps hl
        rw [hdemand]
    obtain hsame | ⟨hsame, -⟩ := hwork.demand
    · rw [hsame]
      exact htable
    · rw [hsame, htable]
  · obtain ⟨hdemand, -⟩ := hsup.loses hl
    obtain hsame | ⟨hsame, hne⟩ := hwork.demand
    · rw [hsame, if_pos hairing, hdemand]
      exact ⟨rfl, rfl⟩
    · rw [if_neg (hairing ▸ hne hlegal), hsame, hdemand]
      refine ⟨rfl, ?_⟩
      show ((s.demand.changeCount + 1) % 256 + 1) % 256 = _
      omega
  · obtain ⟨hdemand, hres, hfan⟩ := hsup.keeps hl
    obtain hsame | ⟨hsame, hne⟩ := hwork.demand
    · refine ⟨by rw [hsame, hdemand], fun _ => hsame.trans hdemand, fun hne => absurd (by rw [hsame, hairing]) hne,
        fun hm _ => ?_⟩
      obtain ⟨hr, hf⟩ := hwork.still (by rw [hm, hmode]) hsame
      exact ⟨hr.trans hres, hf.trans hfan⟩
    · have hne' : t.demand.airing ≠ s.demand.airing := hairing ▸ hne hlegal
      exact ⟨by rw [hsame, hdemand], fun heq => absurd heq hne', fun _ => by rw [hsame, hdemand],
        fun _ heq => absurd heq hne'⟩

end

/-- Settles O49: the mode's work case by case, over the state that supervision leaves. -/
theorem standbyRows : Obligations.StandbyRows := by
  unfold Obligations.StandbyRows
  intro s hpower hlegal
  refine ⟨_, exec_modeStep hpower, fun wait hwait => ?_⟩
  have hrow {c : Instr} {m : ModeMark} (hc : exec c s = .next (whenRunning (whenMarked m modeStep) s))
      (hm : m ∈ (modeWork (superviseStep s).1).2) := exec_mode_marked hpower hc (.inr hm)
  have hsup := supervises s
  have hbothOff := supervised_bothOff s
  have hairing := supervised_airing s
  have hlegala := supervised_legal hlegal
  have hmarks (m : ModeMark) := superviseStep_marks (s := s) (m := m)
  obtain ⟨hmode, hsessions, hsettings, hseq, huptime⟩ := supervised_mode s
  have hstep : modeStep s = ((modeWork (superviseStep s).1).1, (superviseStep s).2 ++ (modeWork (superviseStep s).1).2) := rfl
  generalize (superviseStep s).1 = a at *
  have hwork := modeWorks a
  have hidle (hzero : a.mode.airing = 0) : a.demand.airing = none := by
    obtain ⟨-, hentry, -⟩ := hlegala
    rw [hzero] at hentry
    simpa using hentry
  rw [← hmode, ← hairing, ← huptime]
  rw [← hsettings, ← hseq] at hwait
  refine ⟨fun hentry hon => ?waits, fun lost hlost => ?demand, fun hstandby hmore hearly => ?lives, fun hother => ?other,
    fun hstandby hearly hzero hnext => ?quiet, fun hentry hs he => ?begins, fun hstandby hearly hzero n hnext => ?starts,
    fun hstandby hearly => ?ends, fun hstandby hlimit => ?limit, ?frame⟩
  case waits =>
    have hoff : ¬ bothOff a = true := fun h => not_or.mpr ⟨not_not.mpr (hbothOff.mp h).1, not_not.mpr (hbothOff.mp h).2⟩ hon
    have hwaits := modeWork_waits hentry hoff
    rw [hwaits] at hstep ⊢
    refine ⟨rfl, hsessions, exec_running hpower rfl (whenMarked_off ?_)⟩
    rw [hstep, List.append_nil]
    intro hm
    obtain h | h | h := hmarks _ hm <;> exact nomatch h
  case demand => 
    have h := modeStep_demand hlegala hsup hwork hairing hmode hlost
    rwa [← hmode, ← hairing, ← huptime] at h
  case lives =>
    rw [modeWork_airs hstandby hearly, airingStep_goesOn (a := standbyTimed a) hmore]
    rfl
  case other => rw [modeWork_demand hother]
  case quiet =>
    rw [modeWork_airs hstandby hearly]
    cases hdue : a.mode.nextAiring with
    | none =>
      rw [airingStep_unscheduled (a := standbyTimed a) hzero hdue]
      exact hidle hzero
    | some n =>
      rw [airingStep_waits (a := standbyTimed a) hzero hdue (hnext n hdue)]
      exact hidle hzero
  case begins =>
    have hbegins := modeWork_begins hentry (hbothOff.mpr ⟨hs, he⟩)
    rw [hbegins] at hrow ⊢
    refine ⟨hrow rfl (List.mem_singleton.mpr rfl), ?_, raise_hasEvent .modeChanged _, resolved_resolve _⟩
    rw [hwait]
    exact beginStandby_mode a
  case starts =>
    rw [modeWork_airs hstandby hearly] at hrow ⊢
    refine ⟨fun hdue => ?_, fun hlater => ?_⟩
    · rw [airingStep_starts (a := standbyTimed a) hzero hnext hdue] at hrow ⊢
      refine ⟨hrow rfl (List.mem_singleton.mpr rfl), ?_, by rw [← hsettings]; rfl, resolved_resolve _⟩
      rw [hwait, ← hstandby]
      rfl
    · rw [airingStep_waits (a := standbyTimed a) hzero hnext hlater, ← hstandby, ← hzero]
      rfl
  case ends =>
    rw [modeWork_airs hstandby hearly] at hrow ⊢
    refine ⟨fun hlast => ?_, fun hmore => ?_⟩
    · rw [airingStep_ends (a := standbyTimed a) hlast] at hrow ⊢
      refine ⟨hrow rfl (List.mem_singleton.mpr rfl), rfl, ?_, resolved_resolve _⟩
      rw [← hstandby]
      rfl
    · rw [airingStep_goesOn (a := standbyTimed a) hmore, ← hstandby]
      rfl
  case limit =>
    rw [modeWork_limit hstandby hlimit] at hrow ⊢
    obtain ⟨u, hu, hframe, hresolved, -, hdemand, -, hheld⟩ := leaveStandby_leaves .run (standbyTimed a)
    rw [hu] at hrow ⊢
    refine ⟨hrow rfl (List.mem_singleton.mpr rfl), ?_, ?_, raise_hasEvent .modeChanged u, resolved_raise _ hresolved,
      hheld.trans (congrArg _ hsessions)⟩
    · rw [raise_mode, hframe]
    · rw [raise_demand, hdemand]
      split
      · rfl
      · exact hidle (Nat.eq_zero_of_not_pos ‹_›)
  case frame =>
    have hsuperv : (modeWork a).1.superv = a.superv := by rw [hwork.frame]
    have hlink : (modeWork a).1.link = a.link := by rw [hwork.frame]
    rw [hsuperv, hlink]
    have h := hwork.frame
    generalize (modeWork a).1 = t at *
    rw [h, hsup.frame]

end Sys2Proof.Proofs
end

section
/-! SUPPORT. Proofs: the receiver, and what the link's checks make of a payload (O52, O53). -/

namespace Sys2Proof.Proofs

open Sys2Proof Sys2Proof.Machine

/-! ### The receiver (R157, R158) -/

theorem exec_byteReceived {s : State} (hpower : s.power = .running) {b : Byte} {l : Link} (hl : s.link.take b = l) :
    exec (.byteReceived b) s = .next { s with link := l } :=
  exec_running (f := fun s => s.setLink (s.link.take b)) hpower rfl (congrArg s.setLink hl)

section Take

variable {l : Link} {b : Byte}

theorem take_hunting (hrx : l.rx = .hunting) : l.take b = { l with
    rx := if b = 0x5A#8 then .length else .hunting, silence := 0
    afterSilence := if b = 0x5A#8 then decide (1000 ≤ l.silence) else l.afterSilence } := by
  unfold Link.take
  rw [hrx]
  dsimp only
  split
  · rfl
  · rw [← hrx]

theorem take_length (hrx : l.rx = .length) (hlow : 2 ≤ b.toNat) (hhigh : b.toNat ≤ 48) :
    l.take b = { l with rx := .body, len := b.toNat, body := [], silence := 0 } := by
  unfold Link.take
  rw [hrx]
  exact if_pos ⟨hlow, hhigh⟩

theorem take_body (hrx : l.rx = .body) : l.take b = { l with
    rx := if l.body.length + 1 < l.len then .body else .check, body := l.body ++ [b], silence := 0 } := by
  unfold Link.take
  rw [hrx]
  dsimp only
  by_cases hmore : l.body.length + 1 < l.len
  · rw [if_pos hmore, if_neg (by omega)]
  · rw [if_neg hmore, if_pos (by omega)]

end Take

/-- Settles O52: each row of the receiver in the state it acts in. -/
theorem receiverRows : Obligations.ReceiverRows := by
  unfold Obligations.ReceiverRows
  rintro s hpower l rfl k rfl
  refine ⟨fun b hrx => exec_byteReceived hpower (take_hunting hrx),
    fun b hrx hlow hhigh => exec_byteReceived hpower (take_length hrx hlow hhigh),
    fun b hrx => exec_byteReceived hpower (take_body hrx), fun b hrx hlen => ?_, fun b hrx hsum => ?_, fun hrx => ?_,
    fun hrx => ?_, exec_running hpower rfl rfl⟩
  · exact exec_running hpower rfl (if_pos ⟨hrx, hlen⟩)
  · exact exec_running hpower rfl (if_pos ⟨hrx, by simpa [Link.goodCheck] using hsum⟩)
  · exact exec_running hpower rfl (if_neg hrx)
  · exact exec_running hpower rfl (if_pos hrx)

/-! ### Fields (R172) -/

theorem fromLe_toNat (lo hi : Byte) : (fromLe lo hi).toNat = lo.toNat + 256 * hi.toNat := by
  unfold fromLe
  rw [BitVec.toNat_append, Nat.shiftLeft_eq, Nat.mul_comm, ← Nat.two_pow_add_eq_or_of_lt lo.isLt]
  omega

theorem word_toNat (a b c d : Byte) :
    (d ++ c ++ b ++ a).toNat = a.toNat + 256 * b.toNat + 65536 * c.toNat + 16777216 * d.toNat := by
  have hjoin {n : Nat} (hi : BitVec n) (lo : Byte) : (hi ++ lo).toNat = 256 * hi.toNat + lo.toNat := by
    rw [BitVec.toNat_append, Nat.shiftLeft_eq, Nat.mul_comm, ← Nat.two_pow_add_eq_or_of_lt lo.isLt]
  rw [hjoin, hjoin, hjoin]
  omega

theorem length_halves : ∀ l : List Byte, (halves l).length = l.length / 2
  | [] => rfl
  | [_] => by simp [halves]
  | _ :: _ :: rest => by
    simp only [halves, List.length_cons, length_halves rest]
    omega

theorem getElem?_halves : ∀ {l : List Byte} {i : Nat} {lo hi : Byte}, l[2 * i]? = some lo → l[2 * i + 1]? = some hi →
    (halves l)[i]? = some (fromLe lo hi)
  | [], _, _, _, h, _ => nomatch h
  | [_], i, _, _, _, h => by simp at h
  | a :: b :: rest, 0, lo, hi, hlo, hhi => by
    obtain rfl : a = lo := by simpa using hlo
    obtain rfl : b = hi := by simpa using hhi
    rfl
  | _ :: _ :: _, i + 1, _, _, hlo, hhi => getElem?_halves (i := i) hlo hhi

theorem length_pairs {α : Type} : ∀ l : List α, (pairs l).length = l.length / 2
  | [] => by simp [pairs]
  | [_] => by simp [pairs]
  | _ :: _ :: rest => by
    simp only [pairs, List.length_cons, length_pairs rest]
    omega

theorem getElem?_pairs {α : Type} : ∀ {l : List α} {i : Nat} {x y : α}, l[2 * i]? = some x → l[2 * i + 1]? = some y →
    (pairs l)[i]? = some (x, y)
  | [], _, _, _, h, _ => nomatch h
  | [_], i, _, _, _, h => by simp at h
  | a :: b :: rest, 0, x, y, hx, hy => by
    obtain rfl : a = x := by simpa using hx
    obtain rfl : b = y := by simpa using hy
    rfl
  | _ :: _ :: _, i + 1, _, _, hx, hy => getElem?_pairs (i := i) hx hy

/-! ### The checks of kind and length (R161, R173) -/

/-- The kinds of the catalogue with a payload of one length (11, "Requests and replies"). -/
def kindLengths : List (Nat × Nat) :=
  [(0x01, 0), (0x02, 1), (0x03, 0), (0x04, 4), (0x10, 7), (0x11, 2), (0x12, 1), (0x13, 0), (0x14, 1), (0x18, 0),
    (0x19, 0), (0x1A, 0), (0x1B, 0), (0x20, 1), (0x21, 1), (0x28, 1), (0x29, 3), (0x2A, 1), (0x2B, 1), (0x2C, 0),
    (0x30, 1), (0x31, 1), (0x32, 1), (0x38, 1), (0x3C, 1), (0x3D, 3), (0x48, 0), (0x49, 0), (0x4F, 0)]

/-- The catalogue's kinds by their length. -/
theorem kindLengths_groups : ∀ p ∈ kindLengths,
    (p.2 = 0 ∧ p.1 ∈ [0x01, 0x03, 0x13, 0x18, 0x19, 0x1A, 0x1B, 0x2C, 0x48, 0x49, 0x4F]) ∨
    (p.2 = 1 ∧ p.1 ∈ [0x02, 0x12, 0x14, 0x20, 0x21, 0x28, 0x2A, 0x2B, 0x30, 0x31, 0x32, 0x38, 0x3C]) ∨
    (p.2 = 2 ∧ p.1 = 0x11) ∨ (p.2 = 3 ∧ p.1 ∈ [0x29, 0x3D]) ∨ (p.2 = 4 ∧ p.1 = 0x04) ∨ (p.2 = 7 ∧ p.1 = 0x10) := by
  decide

theorem decodeRequest_beyond (n : Nat) (payload : List Byte) : decodeRequest (n + 80) payload = .refuse .unknownKind := rfl

/-- A kind that the catalogue lacks, whatever its payload: each below 80 is computed. -/
theorem decodeRequest_unlisted {kind : Nat} (payload : List Byte) (htable : kind ≠ 0x3E)
    (hno : ∀ n, (kind, n) ∉ kindLengths) : decodeRequest kind payload = .refuse .unknownKind := by
  by_cases hlt : kind < 80
  · simp only [kindLengths, List.mem_cons, Prod.mk.injEq, List.not_mem_nil, or_false, not_or, not_and] at hno
    interval_cases kind <;> simp at hno htable <;> rfl
  · obtain ⟨n, rfl⟩ := Nat.exists_eq_add_of_le' (Nat.le_of_not_lt hlt)
    exact decodeRequest_beyond n payload

section Lengths

variable {kind : Nat}

theorem decodeRequest_none (hk : kind ∈ [0x01, 0x03, 0x13, 0x18, 0x19, 0x1A, 0x1B, 0x2C, 0x48, 0x49, 0x4F]) (a : Byte)
    (rest : List Byte) : decodeRequest kind (a :: rest) = .refuse .badLength := by
  simp only [List.mem_cons, List.not_mem_nil, or_false] at hk
  rcases hk with rfl | rfl | rfl | rfl | rfl | rfl | rfl | rfl | rfl | rfl | rfl <;> rfl

theorem decodeRequest_one
    (hk : kind ∈ [0x02, 0x12, 0x14, 0x20, 0x21, 0x28, 0x2A, 0x2B, 0x30, 0x31, 0x32, 0x38, 0x3C]) :
    decodeRequest kind [] = .refuse .badLength ∧
      ∀ a b rest, decodeRequest kind (a :: b :: rest) = .refuse .badLength := by
  simp only [List.mem_cons, List.not_mem_nil, or_false] at hk
  rcases hk with rfl | rfl | rfl | rfl | rfl | rfl | rfl | rfl | rfl | rfl | rfl | rfl | rfl <;>
    exact ⟨rfl, fun _ _ _ => rfl⟩

theorem decodeRequest_three (hk : kind ∈ [0x29, 0x3D]) :
    ∀ payload : List Byte, payload.length ≠ 3 → decodeRequest kind payload = .refuse .badLength := by
  simp only [List.mem_cons, List.not_mem_nil, or_false] at hk
  intro payload hlen
  rcases hk with rfl | rfl <;> rcases payload with _ | ⟨a, _ | ⟨b, _ | ⟨c, _ | ⟨d, rest⟩⟩⟩⟩ <;>
    first | rfl | exact absurd rfl hlen

theorem decodeRequest_otherLength {n : Nat} (hmem : (kind, n) ∈ kindLengths) {payload : List Byte}
    (hlen : payload.length ≠ n) : decodeRequest kind payload = .refuse .badLength := by
  obtain ⟨hn, hk⟩ | ⟨hn, hk⟩ | ⟨hn, hk⟩ | ⟨hn, hk⟩ | ⟨hn, hk⟩ | ⟨hn, hk⟩ := kindLengths_groups _ hmem
  · obtain rfl : n = 0 := hn
    cases payload with
    | nil => exact absurd rfl hlen
    | cons a rest => exact decodeRequest_none hk a rest
  · obtain rfl : n = 1 := hn
    obtain ⟨hempty, hlong⟩ := decodeRequest_one hk
    rcases payload with _ | ⟨a, _ | ⟨b, rest⟩⟩
    · exact hempty
    · exact absurd rfl hlen
    · exact hlong a b rest
  · obtain rfl : n = 2 := hn
    obtain rfl : kind = 0x11 := hk
    rcases payload with _ | ⟨a, _ | ⟨b, _ | ⟨c, rest⟩⟩⟩
    · rfl
    · rfl
    · exact absurd rfl hlen
    · rfl
  · obtain rfl : n = 3 := hn
    exact decodeRequest_three hk payload hlen
  · obtain rfl : n = 4 := hn
    obtain rfl : kind = 0x04 := hk
    rcases payload with _ | ⟨a, _ | ⟨b, _ | ⟨c, _ | ⟨d, _ | ⟨e, rest⟩⟩⟩⟩⟩
    · rfl
    · rfl
    · rfl
    · rfl
    · exact absurd rfl hlen
    · rfl
  · obtain rfl : n = 7 := hn
    obtain rfl : kind = 0x10 := hk
    rcases payload with _ | ⟨a, _ | ⟨b, _ | ⟨c, _ | ⟨d, _ | ⟨e, _ | ⟨f, _ | ⟨g, _ | ⟨h, rest⟩⟩⟩⟩⟩⟩⟩⟩
    · rfl
    · rfl
    · rfl
    · rfl
    · rfl
    · rfl
    · rfl
    · exact absurd rfl hlen
    · rfl

end Lengths

/-! ### SET_TABLE's payload -/

theorem decodeRequest_table (id : Byte) (points : List Byte) : decodeRequest 0x3E (id :: points) =
    if id = 0 then if points.length = 34 then .request (.setTableTemperature (halves points)) else .refuse .badLength
    else if id = 1 then if points.length = 32 then .request (.setTableFeedforward .supply (pairs (halves points)))
      else .refuse .badLength
    else if id = 2 then if points.length = 32 then .request (.setTableFeedforward .extract (pairs (halves points)))
      else .refuse .badLength
    else .refuse .badValue := rfl

theorem decodeRequest_tableLength {payload : List Byte} (h : payload = [] ∨ (payload.head? = some 0 ∧ payload.length ≠ 35) ∨
    ((payload.head? = some 1 ∨ payload.head? = some 2) ∧ payload.length ≠ 33)) :
    decodeRequest 0x3E payload = .refuse .badLength := by
  cases payload with
  | nil => rfl
  | cons id points =>
    rw [decodeRequest_table]
    simp only [List.head?_cons, Option.some.injEq, List.length_cons, ne_eq, reduceCtorEq,
      Nat.reduceEqDiff, false_or] at h
    obtain ⟨rfl, hlen⟩ | ⟨rfl | rfl, hlen⟩ := h
    · exact (if_pos rfl).trans (if_neg hlen)
    · exact (if_neg (by decide)).trans ((if_pos rfl).trans (if_neg hlen))
    · exact (if_neg (by decide)).trans ((if_neg (by decide)).trans ((if_pos rfl).trans (if_neg hlen)))

theorem decodeRequest_tableId {payload : List Byte} (h : ∃ id ∈ payload.head?, 3 ≤ id.toNat) :
    decodeRequest 0x3E payload = .refuse .badValue := by
  obtain ⟨id, hid, hlarge⟩ := h
  cases payload with
  | nil => exact nomatch hid
  | cons a points =>
    obtain rfl : a = id := by simpa using hid
    have hne {k : Byte} (hk : k.toNat < 3) : a ≠ k := by
      rintro rfl
      omega
    rw [decodeRequest_table, if_neg (hne (by decide)), if_neg (hne (by decide)), if_neg (hne (by decide))]

theorem getElem?_points {points : List Byte} {i : Nat} {w x y z : Byte} (hw : points[4 * i]? = some w)
    (hx : points[4 * i + 1]? = some x) (hy : points[4 * i + 2]? = some y) (hz : points[4 * i + 3]? = some z) :
    (pairs (halves points))[i]? = some (fromLe w x, fromLe y z) := by
  have hfirst : (halves points)[2 * i]? = some (fromLe w x) := by
    refine getElem?_halves ?_ ?_
    · rwa [show 2 * (2 * i) = 4 * i by omega]
    · rwa [show 2 * (2 * i) + 1 = 4 * i + 1 by omega]
  have hsecond : (halves points)[2 * i + 1]? = some (fromLe y z) := by
    refine getElem?_halves ?_ ?_
    · rwa [show 2 * (2 * i + 1) = 4 * i + 2 by omega]
    · rwa [show 2 * (2 * i + 1) + 1 = 4 * i + 3 by omega]
  exact getElem?_pairs hfirst hsecond

theorem decodeRequest_points (points : List Byte) :
    (points.length = 34 → ∃ ts, decodeRequest 0x3E (0 :: points) = .request (.setTableTemperature ts) ∧
      ts.length = 17 ∧ ∀ i lo hi, points[2 * i]? = some lo → points[2 * i + 1]? = some hi →
        ts[i]? = some (fromLe lo hi)) ∧
    ∀ (id : Byte) (st : Stream), (id = 1 ∧ st = .supply) ∨ (id = 2 ∧ st = .extract) → points.length = 32 →
      ∃ ps, decodeRequest 0x3E (id :: points) = .request (.setTableFeedforward st ps) ∧ ps.length = 8 ∧
        ∀ i w x y z, points[4 * i]? = some w → points[4 * i + 1]? = some x → points[4 * i + 2]? = some y →
          points[4 * i + 3]? = some z → ps[i]? = some (fromLe w x, fromLe y z) := by
  refine ⟨fun hlen => ⟨halves points, if_pos hlen, by rw [length_halves, hlen], fun i lo hi => getElem?_halves⟩,
    fun id st hid hlen => ⟨pairs (halves points), ?_, by rw [length_pairs, length_halves, hlen],
      fun i w x y z => getElem?_points⟩⟩
  obtain ⟨rfl, rfl⟩ | ⟨rfl, rfl⟩ := hid
  · exact if_pos hlen
  · exact if_pos hlen

end Sys2Proof.Proofs
end

section
/-! SUPPORT. Proofs: good frames, frames that leave, and the event set's requests (O53, O54). -/

namespace Sys2Proof.Proofs

open Sys2Proof Sys2Proof.Machine

/-! ### A frame's arrival at supervision (R151) -/

section Arrival

variable {s : State}

theorem frameArrival_ok (h : s.superv.state = .ok) :
    frameArrival s = { s with superv := { s.superv with silence := 0 } } := by
  unfold frameArrival
  rw [h]

theorem frameArrival_probing (h : s.superv.state = .probing) : frameArrival s = { s with superv := ⟨.ok, 0, 0⟩ } := by
  unfold frameArrival
  rw [h]

theorem frameArrival_off (h : s.superv.state = .off) : frameArrival s = s := by
  unfold frameArrival
  rw [h]

theorem frameArrival_lost (h : s.superv.state = .lost) : frameArrival s = raise .hostReturned
    { writeDemand (fun d => { d with fallback := none }) s with superv := ⟨.ok, 0, 0⟩ } := by
  unfold frameArrival
  rw [h]

theorem frameArrival_returns (h : s.superv.state = .lost) : (frameArrival s).superv = ⟨.ok, 0, 0⟩ ∧
    (frameArrival s).demand.fallback = none ∧ (frameArrival s).events = s.events ||| Event.hostReturned.bit ∧
    HandedOn s (frameArrival s) := by
  rw [frameArrival_lost h]
  exact ⟨rfl, rfl, rfl, rfl, resolved_raise _ (resolved_writeDemand (fun d => { d with fallback := none }) s)⟩

theorem resolved_link (l : Link) (h : Resolved s) : Resolved { s with link := l } := h

theorem frameArrival_eq (s : State) : frameArrival s = { s with
    superv := (frameArrival s).superv, demand := (frameArrival s).demand, fans := (frameArrival s).fans
    res := (frameArrival s).res, events := (frameArrival s).events } := by
  unfold frameArrival
  split <;> rfl

theorem frameArrival_here (h : s.superv.state ≠ .lost) :
    frameArrival s = { s with superv := (frameArrival s).superv } := by
  unfold frameArrival
  split
  · rfl
  · rfl
  · exact absurd ‹_› h
  · rfl

end Arrival

/-! ### A frame's placement (R159 to R161) -/

section Place

variable {s : State} {kind tag : Byte} {payload : List Byte}

/-- What a frame's placement changes of the link. -/
structure Placed (s t : State) : Prop where
  frame : t = { s with link := t.link }
  rx : t.link.rx = s.link.rx
  silence : t.link.silence = s.link.silence
  good : t.link.counters.good = s.link.counters.good

theorem Placed.trans {t u : State} (h : Placed s t) (h' : Placed t u) : Placed s u where
  frame := by rw [h'.frame, h.frame]
  rx := h'.rx.trans h.rx
  silence := h'.silence.trans h.silence
  good := h'.good.trans h.good

theorem placed_enqueue (fr : TxFrame) (s : State) : Placed s (enqueue fr s) := ⟨rfl, rfl, rfl, rfl⟩

theorem placed_slot (x : Slot) (s : State) : Placed s (s.setLink { s.link with slot := some x }) := ⟨rfl, rfl, rfl, rfl⟩

theorem placed_counters {c : LinkCounters} (hc : c.good = s.link.counters.good) :
    Placed s { s with link := { s.link with counters := c } } := ⟨rfl, rfl, rfl, hc⟩

theorem placed_enqueueAnswer (body : List Byte) (s : State) : Placed s (enqueueAnswer body s) := by
  unfold enqueueAnswer
  split
  · exact placed_enqueue _ s
  · exact ⟨rfl, rfl, rfl, rfl⟩

theorem placed_answerBusy (kind tag : Byte) (s : State) : Placed s (answerBusy kind tag s) :=
  (placed_counters (c := { s.link.counters with busy := sat16 s.link.counters.busy }) rfl).trans (placed_enqueueAnswer _ _)

theorem placed_answerWaking (kind tag : Byte) (s : State) : Placed s (answerWaking kind tag s) :=
  (placed_counters (c := { s.link.counters with waking := sat16 s.link.counters.waking }) rfl).trans (placed_enqueueAnswer _ _)

theorem placed_enterSlot (kind tag : Byte) (payload : List Byte) (s : State) : Placed s (enterSlot kind tag payload s) := by
  unfold enterSlot
  split
  · exact (placed_slot ⟨tag, kind, none, .replied⟩ s).trans (placed_enqueue _ _)
  · exact placed_slot _ s

theorem placed_place (kind tag : Byte) (payload : List Byte) (s : State) :
    Placed s (place kind tag (enterSlot kind tag payload) s) := by
  unfold place
  split
  · exact placed_answerBusy kind tag s
  · split
    · exact placed_answerWaking kind tag s
    · exact placed_enterSlot kind tag payload s

theorem enqueueAnswer_room {body : List Byte} (h : waitingOf .answer s < 2) :
    enqueueAnswer body s = enqueue ⟨.answer, body⟩ s := if_pos h

theorem enqueueAnswer_full {body : List Byte} (h : 2 ≤ waitingOf .answer s) : enqueueAnswer body s =
    { s with link := { s.link with counters :=
      { s.link.counters with repliesLost := min (s.link.counters.repliesLost + 1) 65535 } } } :=
  if_neg (Nat.not_lt.mpr h)

/-- An answer that joins the queue, or is dropped, leaves the slot and the counts of answers made. -/
theorem enqueueAnswer_answers (body : List Byte) (s : State) : (enqueueAnswer body s).link.slot = s.link.slot ∧
    (enqueueAnswer body s).link.counters.busy = s.link.counters.busy ∧
    (enqueueAnswer body s).link.counters.waking = s.link.counters.waking ∧
    (waitingOf .answer s < 2 → (enqueueAnswer body s).link.tx = s.link.tx ++ [⟨.answer, body⟩]) ∧
    (2 ≤ waitingOf .answer s → (enqueueAnswer body s).link.tx = s.link.tx ∧
      (enqueueAnswer body s).link.counters.repliesLost = min (s.link.counters.repliesLost + 1) 65535) := by
  by_cases h : waitingOf .answer s < 2
  · rw [enqueueAnswer_room h]
    exact ⟨rfl, rfl, rfl, fun _ => rfl, fun hfull => absurd h (Nat.not_lt.mpr hfull)⟩
  · rw [enqueueAnswer_full (Nat.le_of_not_lt h)]
    exact ⟨rfl, rfl, rfl, fun hroom => absurd hroom h, fun _ => ⟨rfl, rfl⟩⟩

/-- BUSY and WAKING, by the slot and the waking condition. -/
theorem place_answers {enter : State → State} {r : Result} (h : (r = .busy ∧ s.link.slot.isSome = true) ∨
      (r = .waking ∧ s.link.slot = none ∧ s.mode.mode = .standby ∧ s.link.afterSilence = true)) :
    (place kind tag enter s).link.slot = s.link.slot ∧
    (place kind tag enter s).link.counters.busy =
      (if r = .busy then min (s.link.counters.busy + 1) 65535 else s.link.counters.busy) ∧
    (place kind tag enter s).link.counters.waking =
      (if r = .waking then min (s.link.counters.waking + 1) 65535 else s.link.counters.waking) ∧
    (waitingOf .answer s < 2 → (place kind tag enter s).link.tx = s.link.tx ++ [⟨.answer, replyBody kind tag r []⟩]) ∧
    (2 ≤ waitingOf .answer s → (place kind tag enter s).link.tx = s.link.tx ∧
      (place kind tag enter s).link.counters.repliesLost = min (s.link.counters.repliesLost + 1) 65535) := by
  obtain ⟨rfl, hslot⟩ | ⟨rfl, hslot, hmode, hsilence⟩ := h
  · rw [show place kind tag enter s = answerBusy kind tag s from if_pos hslot]
    exact enqueueAnswer_answers (replyBody kind tag .busy [])
      { s with link := { s.link with counters := { s.link.counters with busy := sat16 s.link.counters.busy } } }
  · have hwaking : waking s = true := by simp [waking, hmode, hsilence]
    have hplace : place kind tag enter s = answerWaking kind tag s := by
      unfold place
      rw [hslot, if_neg (by simp), if_pos hwaking]
    rw [hplace]
    exact enqueueAnswer_answers (replyBody kind tag .waking [])
      { s with link := { s.link with counters := { s.link.counters with waking := sat16 s.link.counters.waking } } }

theorem place_enters {enter : State → State} (hslot : s.link.slot = none)
    (hawake : ¬(s.mode.mode = .standby ∧ s.link.afterSilence = true)) : place kind tag enter s = enter s := by
  have hwaking : ¬ waking s = true := by simpa [waking] using hawake
  unfold place
  rw [hslot, if_neg (by simp), if_neg hwaking]

theorem enterSlot_request {q : Request} (h : decodeRequest kind.toNat payload = .request q) :
    enterSlot kind tag payload s = s.setLink { s.link with slot := some ⟨tag, kind, some q, .waiting⟩ } := by
  unfold enterSlot
  rw [h]

theorem enterSlot_refuse {r : Result} (h : decodeRequest kind.toNat payload = .refuse r) :
    enterSlot kind tag payload s = reply kind tag none r [] s := by
  unfold enterSlot
  rw [h]

end Place

/-! ### Good frames (R157, R159) -/

/-- The part with a good frame taken from its receiver and counted. -/
def frameCounted (s : State) : State := { s with link := { s.link with
  rx := .hunting, len := 0, body := [], silence := 0
  counters := { s.link.counters with good := min (s.link.counters.good + 1) 65535 } } }

theorem exec_goodFrame {s : State} {check kind tag : Byte} {payload : List Byte} (hpower : s.power = .running)
    (hrx : s.link.rx = .check) (hbody : s.link.body = kind :: tag :: payload)
    (hsum : BitVec.ofNat 8 s.link.len + byteSum s.link.body + check = 0) : exec (.goodFrame check) s =
      .next (place kind tag (enterSlot kind tag payload) (frameArrival (frameCounted s))) := by
  refine exec_running hpower rfl ((if_pos ⟨hrx, by simpa [Link.goodCheck] using hsum⟩).trans ?_)
  rw [hbody]
  rfl

/-- What a good frame's arrival does, wherever the frame is then placed. -/
theorem goodFrame_hands {s t : State} (h : Placed (frameArrival (frameCounted s)) t) :
    t = { s with superv := t.superv, link := t.link, demand := t.demand, fans := t.fans, res := t.res, events := t.events } ∧
    t.link.rx = .hunting ∧ t.link.silence = 0 ∧ t.link.counters.good = min (s.link.counters.good + 1) 65535 ∧
    (s.superv.state = .ok → t.superv = { s.superv with silence := 0 }) ∧
    (s.superv.state = .probing → t.superv = ⟨.ok, 0, 0⟩) ∧
    (s.superv.state = .off → t.superv = s.superv) ∧
    (s.superv.state = .lost → t.superv = ⟨.ok, 0, 0⟩ ∧ t.demand.fallback = none ∧
      t.events = s.events ||| Event.hostReturned.bit ∧ HandedOn s t) ∧
    (s.superv.state ≠ .lost → t = { s with superv := t.superv, link := t.link }) := by
  have harrives := frameArrival_eq (frameCounted s)
  have hlink : (frameArrival (frameCounted s)).link = (frameCounted s).link := by rw [harrives]
  have hsuperv : t.superv = (frameArrival (frameCounted s)).superv := by rw [h.frame]
  refine ⟨?_, by rw [h.rx, hlink]; rfl, by rw [h.silence, hlink]; rfl, by rw [h.good, hlink]; rfl, fun hok => ?_,
    fun hprobing => ?_, fun hoff => ?_, fun hlost => ?_, fun hhere => ?_⟩
  · rw [h.frame, harrives]
    rfl
  · rw [hsuperv, frameArrival_ok (s := frameCounted s) hok]
    rfl
  · rw [hsuperv, frameArrival_probing (s := frameCounted s) hprobing]
  · rw [hsuperv, frameArrival_off (s := frameCounted s) hoff]
    rfl
  · obtain ⟨hback, hfallback, hevent, hcount, hresolved⟩ := frameArrival_returns (s := frameCounted s) hlost
    rw [h.frame]
    exact ⟨hback, hfallback, hevent, hcount, resolved_link _ hresolved⟩
  · rw [h.frame, frameArrival_here (s := frameCounted s) hhere]
    rfl

/-- Settles O53: the fields, the checks by the catalogue, and a good frame counted, handed on and placed. -/
theorem goodFrames : Obligations.GoodFrames := by
  unfold Obligations.GoodFrames
  refine ⟨fromLe_toNat, fun kind payload lengths hlengths => ?checks, fun a b c d e f g => ?requests, decodeRequest_points,
    fun s check kind tag payload hpower hrx hbody hsum => ?frame⟩
  case checks =>
    obtain rfl : lengths = kindLengths := hlengths
    refine ⟨decodeRequest_unlisted payload, fun n hmem hlen => decodeRequest_otherLength hmem hlen, ?_, ?_⟩
    · rintro rfl h
      exact decodeRequest_tableLength h
    · rintro rfl h
      exact decodeRequest_tableId h
  case requests =>
    exact ⟨rfl, rfl, rfl, ⟨_, rfl, word_toNat a b c d⟩, rfl, rfl, rfl, rfl, rfl, rfl, rfl, rfl, rfl, rfl, rfl, rfl, rfl, rfl,
      rfl, rfl, rfl, rfl, rfl, rfl, rfl, rfl, rfl, rfl, rfl⟩
  case frame =>
    obtain ⟨hframe, hrx', hsilence, hgood, hok, hprobing, hoff, hlost, hhere⟩ :=
      goodFrame_hands (placed_place kind tag payload (frameArrival (frameCounted s)))
    have harrives := frameArrival_eq (frameCounted s)
    have hlink : (frameArrival (frameCounted s)).link = (frameCounted s).link := by rw [harrives]
    have hmode : (frameArrival (frameCounted s)).mode = s.mode := by rw [harrives]; rfl
    refine ⟨_, exec_goodFrame hpower hrx hbody hsum, hframe, hrx', hsilence, hgood, hok, hprobing, hoff, hlost, hhere,
      fun r hr => ?_, fun hslot hawake => ?_⟩
    · have hanswers := place_answers (s := frameArrival (frameCounted s)) (kind := kind) (tag := tag)
        (enter := enterSlot kind tag payload) (r := r)
      unfold waitingOf at hanswers
      rw [hlink, hmode] at hanswers
      exact hanswers hr
    · have henters := place_enters (s := frameArrival (frameCounted s)) (kind := kind) (tag := tag)
        (enter := enterSlot kind tag payload) (by rw [hlink]; exact hslot) (by rw [hlink, hmode]; exact hawake)
      rw [henters]
      refine ⟨fun q hq => ?_, fun r hr => ?_⟩
      · rw [enterSlot_request hq]
        exact ⟨rfl, (congrArg Link.tx hlink :)⟩
      · rw [enterSlot_refuse hr]
        exact ⟨rfl, (congrArg (fun l : Link => l.tx ++ _) hlink :)⟩

/-! ### Frames leave, and the event set (R159, R162 to R164) -/

theorem frameSent_plain {s : State} {fr : TxFrame} {rest : List TxFrame} (htx : s.link.tx = fr :: rest)
    (h : ¬(fr.cls = .slotReply ∧ s.store.closed = true)) : frameSent s = { s with link := { s.link with
      tx := rest, txMs := 0, slot := if fr.cls = .slotReply then none else s.link.slot } } := by
  unfold frameSent
  rw [htx]
  dsimp only
  cases hcls : fr.cls with
  | slotReply =>
    dsimp only
    rw [if_neg fun hclosed => h ⟨hcls, hclosed⟩]
    rfl
  | answer => rfl
  | notice => rfl

theorem events_raise (e : Event) (s : State) (i : Nat) :
    (raise e s).events.getLsbD i = (s.events.getLsbD i || i == e.num) := by
  have hnum : e.num < 30 := by cases e <;> decide
  have hbit : e.bit.getLsbD i = (i == e.num) := by
    unfold Event.bit
    rw [BitVec.getLsbD_ofNat, Nat.testBit_two_pow, Bool.eq_iff_iff, Bool.and_eq_true, decide_eq_true_eq, decide_eq_true_eq,
      beq_iff_eq]
    exact ⟨fun h => h.2.symm, fun h => ⟨h ▸ hnum, h.symm⟩⟩
  rw [raise_events, BitVec.getLsbD_or, hbit]

/-- An event whose enable is off leaves the alert line. -/
theorem alertLow_raise_masked {e : Event} {s : State} (hmask : s.mask.getLsbD e.num = false) :
    (raise e s).alertLow = s.alertLow := by
  rw [Bool.eq_iff_iff, alertLow_iff, alertLow_iff]
  refine and_congr_right fun _ => exists_congr fun i => and_congr_right fun _ => ?_
  rw [events_raise, raise_mask, Bool.or_eq_true, beq_iff_eq]
  refine ⟨fun ⟨hset, henable⟩ => ⟨hset.resolve_right ?_, henable⟩, fun ⟨hset, henable⟩ => ⟨.inl hset, henable⟩⟩
  rintro rfl
  rw [hmask] at henable
  exact nomatch henable

/-- Settles O54: the alert line by its definition, the queue's first frame, and the event set's owners. -/
theorem framesLeaveAndEvents : Obligations.FramesLeaveAndEvents := by
  unfold Obligations.FramesLeaveAndEvents
  refine ⟨fun s => ⟨alertLow_iff s, ?_, fun e => ⟨events_raise e s, fun hpower hmask => ?_, fun hmask => ?_⟩⟩,
    fun s hpower => ⟨fun htx => ?_, fun fr rest htx hcls => exec_running hpower rfl (frameSent_plain htx hcls)⟩,
    fun tag s q hacc h hh => ⟨?_, ?_⟩⟩
  · rw [Bool.eq_false_iff, ne_eq, alertLow_iff]
    rintro ⟨-, i, -, hi, -⟩
    exact nomatch (BitVec.getLsbD_zero (i := i)).symm.trans hi
  · refine (alertLow_iff _).mpr ⟨hpower, e.num, by cases e <;> decide, ?_, hmask⟩
    exact raise_hasEvent e s
  · exact alertLow_raise_masked hmask
  · refine exec_running hpower rfl ?_
    unfold frameSent
    rw [htx]
  · rintro rfl
    exact exec_heard_now hacc hh rfl
  · rintro mask rfl
    exact ⟨fun hsmall => exec_heard_now hacc hh (if_pos hsmall),
      fun hlarge => exec_heard_now hacc hh (if_neg (Nat.not_lt.mpr hlarge))⟩

end Sys2Proof.Proofs
end

section
/-! SUPPORT. Proofs: the tables, the asks for a save and the writes (O58, O59). -/

namespace Sys2Proof.Proofs

open Sys2Proof Sys2Proof.Machine

/-! ### The shapes of the tables (R10, R25) -/

/-- Every element stands so to the one after it. -/
def Steps {α : Type} (P : α → α → Prop) (l : List α) : Prop := ∀ i a b, l[i]? = some a → l[i + 1]? = some b → P a b

theorem steps_iff {α : Type} {P : α → α → Prop} {l : List α} : Steps P l ↔ ∀ p ∈ l.zip l.tail, P p.1 p.2 := by
  refine ⟨fun h p hp => ?_, fun h i a b ha hb => ?_⟩
  · obtain ⟨i, hi⟩ := List.mem_iff_getElem?.mp hp
    obtain ⟨ha, hb⟩ := List.getElem?_zip_eq_some.mp hi
    exact h i p.1 p.2 ha (by rwa [List.getElem?_tail] at hb)
  · exact h (a, b) (List.mem_iff_getElem?.mpr ⟨i, List.getElem?_zip_eq_some.mpr ⟨ha, by rwa [List.getElem?_tail]⟩⟩)

theorem steps_map {α β : Type} {f : α → β} {P : β → β → Prop} {l : List α} :
    Steps P (l.map f) ↔ Steps (fun a b => P (f a) (f b)) l := by
  unfold Steps
  simp only [List.getElem?_map, Option.map_eq_some_iff]
  refine ⟨fun h i a b ha hb => h i _ _ ⟨a, ha, rfl⟩ ⟨b, hb, rfl⟩, ?_⟩
  rintro h i _ _ ⟨a, ha, rfl⟩ ⟨b, hb, rfl⟩
  exact h i a b ha hb

theorem tempTableOk_iff {pts : List Half} (hlen : pts.length = 17) : tempTableOk (pts.map (·.toInt)) = true ↔
    (∀ x ∈ pts, -400 ≤ x.toInt ∧ x.toInt ≤ 800) ∧
      (Steps (fun a b => a.toInt < b.toInt) pts ∨ Steps (fun a b => b.toInt < a.toInt) pts) := by
  have hrise := (steps_iff (P := fun a b : Int => a < b) (l := pts.map (·.toInt))).symm.trans steps_map
  have hfall := (steps_iff (P := fun a b : Int => b < a) (l := pts.map (·.toInt))).symm.trans steps_map
  rw [← hrise, ← hfall]
  simp only [tempTableOk, List.length_map, hlen, Bool.or_eq_true, Bool.and_eq_true, List.all_eq_true, decide_eq_true_eq,
    beq_self_eq_true, true_and, List.forall_mem_map, and_or_left]

theorem feedforwardOk_iff {pts : List (Half × Half)} (hlen : pts.length = 8) :
    feedforwardOk (pts.map fun p => (p.1.toNat, p.2.toNat)) = true ↔
      (∀ p ∈ pts.head?, p.1 = 0) ∧ (∀ p ∈ pts, p.1.toNat ≤ 1200 ∧ p.2.toNat ≤ 1000) ∧
        Steps (fun a b => a.1.toNat < b.1.toNat ∧ a.2.toNat ≤ b.2.toNat) pts := by
  have hsteps := (steps_iff (P := fun a b : Nat × Nat => a.1 < b.1 ∧ a.2 ≤ b.2)
    (l := pts.map fun p => (p.1.toNat, p.2.toNat))).symm.trans steps_map
  have hhead : ((pts.map fun p => (p.1.toNat, p.2.toNat)).map (·.1)).head? = some 0 ↔ ∀ p ∈ pts.head?, p.1 = 0 := by
    cases pts with
    | nil => exact nomatch hlen
    | cons p rest => simp [← BitVec.toNat_inj]
  rw [← hsteps, ← hhead]
  simp only [feedforwardOk, List.length_map, hlen, Bool.and_eq_true, List.all_eq_true, decide_eq_true_eq, beq_iff_eq,
    List.forall_mem_map, and_assoc, true_and]

/-- Settles O58: each table by its length and its shape. -/
theorem setTables : Obligations.SetTables := by
  unfold Obligations.SetTables
  intro tag s q hacc h hh
  refine ⟨fun pts hq => ?_, fun st pts hq => ?_⟩
  · subst hq
    refine ⟨fun hlen => exec_heard_now hacc hh (if_pos hlen), fun shape hshape => ?_⟩
    have hok (hlen : pts.length = 17) : shape ↔ tempTableOk (pts.map (·.toInt)) = true :=
      hshape.trans (tempTableOk_iff hlen).symm
    refine ⟨hok, fun hlen hbad => exec_heard_now hacc hh ?_, fun hlen hgood => exec_heard_now hacc hh ?_⟩
    · exact (if_neg (not_not.mpr hlen)).trans (if_neg (mt (hok hlen).mpr hbad))
    · exact (if_neg (not_not.mpr hlen)).trans (if_pos ((hok hlen).mp hgood))
  · subst hq
    refine ⟨fun hlen => exec_heard_now hacc hh (if_pos hlen), fun shape hshape => ?_⟩
    have hok (hlen : pts.length = 8) : shape ↔ feedforwardOk (pts.map fun p => (p.1.toNat, p.2.toNat)) = true :=
      hshape.trans (feedforwardOk_iff hlen).symm
    refine ⟨hok, fun hlen hbad => exec_heard_now hacc hh ?_, fun hlen hgood => exec_heard_now hacc hh ?_⟩
    · exact (if_neg (not_not.mpr hlen)).trans (if_neg (mt (hok hlen).mpr hbad))
    · exact (if_neg (not_not.mpr hlen)).trans (if_pos ((hok hlen).mp hgood))

/-! ### Writes that complete (R168, R169) -/

section Writes

variable {s : State} {i : Image}

/-- The part with its write completed. -/
def written (i : Image) (s : State) : State := { s with store := { s.store with
  image := some i, writing := none, writeMs := 0, completed := min (s.store.completed + 1) 65535, releases := false } }

theorem writeComplete_idle (hw : s.store.writing = none) : writeComplete s = s := by
  unfold writeComplete
  rw [hw]

theorem writeComplete_of (hw : s.store.writing = some i) : writeComplete s =
    startPending (if s.store.releases then releaseReply (written i s) else written i s) := by
  unfold writeComplete
  rw [hw]
  rfl

theorem startPending_idle (h : s.store.savePending = false) : startPending s = s := if_neg (by rw [h]; exact nofun)

theorem releaseReply_of {x : Slot} (hx : s.link.slot = some x) (hphase : x.phase = .saving) :
    releaseReply s = reply x.kind x.tag x.request .ok [] s := by
  unfold releaseReply
  rw [hx]
  exact if_pos hphase

/-- A released reply changes the link alone. -/
theorem releaseReply_eq (s : State) : releaseReply s = { s with link := (releaseReply s).link } := by
  unfold releaseReply
  split
  · split <;> rfl
  · rfl

/-- A save that waited starts as a write completes. -/
theorem startPending_starts {u : State} (h : u.store.savePending = true) : (startPending u).store.image = none ∧
    (startPending u).store.writing.isSome = true ∧ (startPending u).store.savePending = false ∧
    (startPending u).store.completed = u.store.completed ∧ startPending u = { u with store := (startPending u).store } := by
  have hstart : startPending u = startSave (u.setStore { u.store with savePending := false }) := if_pos h
  rw [hstart]
  exact ⟨rfl, rfl, rfl, rfl, rfl⟩

end Writes

/-- Settles O59: an ask by the store's state, and a write's completion by what waits for it. -/
theorem savesAndWrites : Obligations.SavesAndWrites := by
  unfold Obligations.SavesAndWrites
  rintro s hpower x rfl
  refine ⟨?_, askSave_pends, askSave_closed, exec_running hpower rfl rfl,
    fun hw => exec_running hpower rfl (writeComplete_idle hw), ?_⟩
  · rintro c rfl hclosed hw
    exact askSave_starts hclosed hw
  · rintro i hw a rfl
    have hcomplete := writeComplete_of hw
    refine ⟨fun hidle hsilent => exec_running hpower rfl ?_, fun hidle hreleases y hy hphase => exec_running hpower rfl ?_,
      fun hpending => ⟨_, exec_running hpower rfl rfl, ?_⟩⟩
    · rw [hcomplete, hsilent, if_neg nofun]
      exact startPending_idle hidle
    · rw [hcomplete, hreleases, if_pos rfl, releaseReply_of (s := written i s) hy hphase]
      exact startPending_idle hidle
    · obtain ⟨u, hu⟩ : ∃ u, u = if s.store.releases then releaseReply (written i s) else written i s := ⟨_, rfl⟩
      have hframe : u = { written i s with link := u.link } := by
        rw [hu]
        split
        · exact releaseReply_eq _
        · rfl
      have hstore : u.store = (written i s).store := by rw [hframe]
      obtain ⟨himage, hwriting, hsave, hcount, hkeeps⟩ := startPending_starts (u := u) (by rw [hstore]; exact hpending)
      rw [hcomplete, ← hu]
      refine ⟨himage, hwriting, hsave, by rw [hcount, hstore]; rfl, ?_⟩
      generalize startPending u = t at hkeeps ⊢
      rw [hkeeps, hframe]
      rfl

end Sys2Proof.Proofs
end

section
/-! SUPPORT. Proofs: the requests that read (O56). -/

namespace Sys2Proof.Proofs

open Sys2Proof Sys2Proof.Machine

/-! ### Fields (R172) -/

theorem u32_eq (n : Nat) : u32 n =
    [BitVec.ofNat 8 n, BitVec.ofNat 8 (n / 256), BitVec.ofNat 8 (n / 65536), BitVec.ofNat 8 (n / 16777216)] := by
  simp only [u32, u16, Nat.div_div_eq_div_mul, List.cons_append, List.nil_append, Nat.reduceMul]

theorem s16_eq (i : Int) : s16 i = u16 (i % 65536).toNat := by
  unfold s16
  rw [BitVec.toNat_ofInt]
  rfl

theorem toNat_eq_ite (b : Bool) : b.toNat = if b then 1 else 0 := by cases b <;> rfl

theorem flagByte_two (a b : Bool) : flagByte [a, b] = (if a then 1 else 0) + if b then 2 else 0 := by
  cases a <;> cases b <;> rfl

theorem flagByte_three (a b c : Bool) :
    flagByte [a, b, c] = (if a then 1 else 0) + (if b then 2 else 0) + if c then 4 else 0 := by
  cases a <;> cases b <;> cases c <;> rfl

/-! ### Carried records (11, "Carried records") -/

theorem encodeFan_eq (f : FanRecord) : encodeFan f =
    u8 (f.state.code + 16 * f.retry) ++ u16 f.qCmd ++ u16 f.qMeas ++ u16 f.n ++ u16 f.applied ++ s16 f.trim ++
      u8 ((if f.satCap.isSome then 1 else 0) + (if f.loop = .openLoop then 2 else 0) +
        if f.state = .starting ∧ f.startKind = .spinTest then 4 else 0) ++ u16Opt f.satCap := by
  have hloop : (if (f.loop == .openLoop) = true then 2 else 0) = if f.loop = .openLoop then 2 else 0 :=
    if_congr beq_iff_eq rfl rfl
  have hspin : (if (f.state == .starting && f.startKind == .spinTest) = true then 4 else 0) =
      if f.state = .starting ∧ f.startKind = .spinTest then 4 else 0 := if_congr (by simp) rfl rfl
  unfold encodeFan
  rw [flagByte_three, hloop, hspin]
  rfl

theorem encodeSession_eq (x : Session) : encodeSession x = u8 x.room ++ u8 x.trigger.code ++ u8 x.urgency.code ++
    u8 (if x.held then 3 else x.phase.code) ++ (if x.held then u8 x.phase.code else u8 255) ++ u16 x.level ++
    u16Opt x.rhStart ++ u16Opt x.rhPeak ++ u16 x.age ++ u16Opt x.overrun ++ u16Opt x.callTime ++
    u8 ((if x.sensingLost then 1 else 0) + if x.servedShort then 2 else 0) ++ u8 x.shortCount := by
  unfold encodeSession Session.stateCode
  rw [flagByte_two]
  cases x.held <;> rfl

theorem signed_iff (x : Param) : x.signed = true ↔
    x ∈ [Param.calOffset .rhExt, .calOffset .dpFs, .calOffset .dpFe, .calOffset .dpXs, .calOffset .dpXe,
      .calOffset .vSupply, .tPs] := by
  cases x with
  | calGain c => simp [Param.signed]
  | calOffset c => cases c <;> simp [Param.signed]
  | _ => simp [Param.signed]

theorem streamOf_code {p : Byte} {st : Stream} (h : streamOf p = some st) : streamCode st = p.toNat := by
  unfold streamOf at h
  split at h
  next hp =>
    obtain rfl := Option.some.inj h
    rw [hp]
    rfl
  next =>
    split at h
    next hp =>
      obtain rfl := Option.some.inj h
      rw [hp]
      rfl
    next => exact nomatch h

theorem ofId_none {p : Nat} (h : 33 ≤ p) : Param.ofId p = none := List.getElem?_eq_none h

/-! ### The state a reading request finds (R151) -/

theorem heard_superv {tag : Byte} {q : Request} {s : State} (hslot : s.link.slot = none) :
    (heard tag q s).superv.state = .off ∨
      ((heard tag q s).superv.state = .ok ∧ (heard tag q s).superv.silence = 0) := by
  have harrived : heard tag q s = arrived s := if_neg (by rw [hslot]; exact nofun)
  rw [harrived]
  unfold arrived acceptFrame
  generalize hw : ({ s with link := _ } : State) = w
  cases hstate : w.superv.state with
  | ok => exact .inr (by rw [frameArrival_ok hstate]; exact ⟨hstate, rfl⟩)
  | probing => exact .inr (by rw [frameArrival_probing hstate]; exact ⟨rfl, rfl⟩)
  | lost =>
    obtain ⟨hback, -⟩ := frameArrival_returns hstate
    exact .inr (by rw [hback]; exact ⟨rfl, rfl⟩)
  | off => exact .inl (by rw [frameArrival_off hstate]; exact hstate)

/-! ### The owners' answers -/

section Owners

variable {h : State} {p : Byte}

theorem ownGetStatus_part (h : State) : ownGetStatus 1 h = report (u8 1 ++ u8 h.cause.code ++ u32 h.uptime ++
    u8 h.mode.mode.code ++ u16 h.mode.elapsed ++ u16Opt h.mode.nextAiring ++ u16 h.mode.airing ++ u8 h.superv.state.code ++
    u16 h.superv.silence ++ u8 h.superv.probes ++ u8 (if h.alertLow then 1 else 0) ++
    u8 (if h.store.writing.isSome then 1 else 0) ++
    u8 ((if h.store.savePending then 1 else 0) + if h.store.imageGood then 2 else 0) ++ u16 h.store.completed) h := by
  show report (u8 1 ++ statusPart h) h = _
  unfold statusPart
  rw [flagByte_two, toNat_eq_ite, toNat_eq_ite]
  simp only [List.append_assoc]

theorem ownGetStatus_channels (h : State) : ownGetStatus 0 h = report (u8 0 ++
    ([Channel.tOut, .tPre, .tSup, .tExt, .tExh, .rhExt, .dpFs, .dpFe, .dpXs, .dpXe, .vSupply].map fun ch =>
      s16Opt (h.seq.published.get ch).filtered ++
        u8 ((h.seq.published.get ch).validity.code + 4 * (h.seq.published.get ch).faultKind.code)).flatten ++
    u8 (if h.seq.supplyLow then 1 else 0)) h := by
  show report (u8 0 ++ statusChannels h) h = _
  unfold statusChannels
  rw [toNat_eq_ite]
  rfl

theorem ownGetStatus_link (h : State) : ownGetStatus 2 h = report (u8 2 ++ u16 h.link.counters.good ++
    u16 h.link.counters.checkErrors ++ u16 h.link.counters.gapAbandons ++ u16 h.link.counters.lengthErrors ++
    u16 h.link.counters.lineErrors ++ u16 h.link.counters.busy ++ u16 h.link.counters.waking ++
    u16 h.link.counters.repliesLost) h := by
  show report (u8 2 ++ statusLink h) h = _
  unfold statusLink
  simp only [List.append_assoc]

theorem ownGetFilter_of {st : Stream} (hst : streamOf p = some st) :
    ownGetFilter p h = report (encodeFilter st (h.filters.get st)) h := by
  unfold ownGetFilter
  rw [hst]

theorem ownGetParam_of {x : Param} (hx : Param.ofId p.toNat = some x) :
    ownGetParam p h = report (u8 p.toNat ++ x.bytes h.settings) h := by
  unfold ownGetParam
  rw [hx]

theorem ownGetStatus_refuses (hp : 3 ≤ p.toNat) : ownGetStatus p h = (.now .badValue [], h) := by
  have hne {k : Byte} (hk : k.toNat < 3) : p ≠ k := by
    rintro rfl
    omega
  exact (if_neg (hne (by decide))).trans ((if_neg (hne (by decide))).trans (if_neg (hne (by decide))))

theorem ownGetFilter_refuses (hp : 2 ≤ p.toNat) : ownGetFilter p h = (.now .badValue [], h) := by
  have hnone : streamOf p = none := by
    have hne {k : Byte} (hk : k.toNat < 2) : p ≠ k := by
      rintro rfl
      omega
    exact (if_neg (hne (by decide))).trans (if_neg (hne (by decide)))
  unfold ownGetFilter
  rw [hnone]
  rfl

theorem ownGetParam_refuses (hp : 33 ≤ p.toNat) : ownGetParam p h = (.now .badValue [], h) := by
  unfold ownGetParam
  rw [ofId_none hp]
  rfl

end Owners

/-- Settles O56: the fields, and each owner's answer by its record. -/
theorem readsChangeNothing : Obligations.ReadsChangeNothing := by
  unfold Obligations.ReadsChangeNothing
  refine ⟨fun n i => ⟨rfl, rfl, u32_eq n, s16_eq i, rfl, rfl, rfl, rfl, rfl, rfl⟩, fun tag q s hacc h hh =>
    ⟨fun hslot => hh ▸ heard_superv hslot, ?_, ?_⟩⟩
  · rintro fan hfan c rfl r rfl f rfl l rfl payload hread
    obtain rfl : fan = encodeFan := hfan.trans (funext fun f => (encodeFan_eq f).symm)
    refine exec_heard_now hacc hh ?_
    obtain ⟨rfl, rfl⟩ | ⟨rfl, rfl⟩ | ⟨rfl, rfl⟩ | ⟨rfl, rfl⟩ | ⟨p, hp, rfl, rfl⟩ | ⟨rfl, rfl⟩ | ⟨rfl, rfl⟩ |
      ⟨p, st, hst, rfl, hpayload⟩ | ⟨p, hlow, hhigh, rfl, rfl⟩ | ⟨p, hp, rfl, hpayload⟩ | ⟨p, hp, rfl, rfl⟩ |
      ⟨p, x, hx, rfl, rfl⟩ := hread
    case inl => rfl
    · exact ownGetStatus_channels h
    · exact ownGetStatus_part h
    · exact ownGetStatus_link h
    · exact if_neg (by omega)
    · rfl
    · rfl
    · rw [hpayload _ rfl, ← streamOf_code hst]
      exact ownGetFilter_of hst
    · refine (if_neg (by omega)).trans ?_
      unfold encodeLine
      rw [flagByte_two]
      rfl
    · refine (if_neg (by omega)).trans ?_
      rw [hpayload _ rfl]
      unfold encodeRoom
      rw [flagByte_three]
      rfl
    · refine (if_neg (by omega)).trans ?_
      simp only [← encodeSession_eq]
      rfl
    · simp only [← signed_iff]
      exact ownGetParam_of hx
  · intro hbad
    refine exec_heard_now hacc hh ?_
    obtain ⟨p, hp, rfl⟩ | ⟨p, hp, rfl⟩ | ⟨p, hp, rfl⟩ | ⟨p, hp, rfl⟩ | ⟨p, hp, rfl⟩ | ⟨p, hp, rfl⟩ | ⟨p, hp, rfl⟩ := hbad
    · exact ownGetStatus_refuses hp
    · exact if_pos (show 13 < p.toNat by omega)
    · exact ownGetFilter_refuses hp
    · refine if_pos ?_
      obtain rfl | hp := hp
      · exact .inl rfl
      · exact .inr (show 6 < p.toNat by omega)
    · exact if_pos (show 6 < p.toNat by omega)
    · exact if_pos (show 6 < p.toNat by omega)
    · exact ownGetParam_refuses hp

end Sys2Proof.Proofs
end

section
/-! SUPPORT. Proofs: the parameters, their values and what an accepted one does (O57, O60). -/

namespace Sys2Proof.Proofs

open Sys2Proof Sys2Proof.Machine

/-! ### Values (R167) -/

theorem lin_setLin (x : Calibration) (c : LinChannel) (l : LinCal) : (x.setLin c l).lin c = l := by cases c <;> rfl

theorem lin_setLin_ne (x : Calibration) {c c' : LinChannel} (l : LinCal) (hne : c' ≠ c) : (x.setLin c l).lin c' = x.lin c' := by
  cases c <;> cases c' <;> first | rfl | exact absurd rfl hne

/-- A parameter's value in settings where it was put: one carried unsigned is put from 0 up, and q_fan_min is fixed. -/
theorem get_put {p : Param} {v : Int} (x : Settings) (hsigned : p.signed = false → 0 ≤ v) (hfixed : p ≠ .qFanMin)
    (hflag : p = .preheatFitted → v ≤ 1) : p.get (p.put v x) = v := by
  cases p with
  | calGain c =>
    refine (congrArg (fun l : LinCal => (l.gain : Int)) (lin_setLin x.cal c _)).trans ?_
    exact Int.toNat_of_nonneg (hsigned rfl)
  | calOffset c => exact congrArg LinCal.offset (lin_setLin x.cal c _)
  | qFanMin => exact absurd rfl hfixed
  | preheatFitted =>
    have hlow := hsigned rfl
    have hhigh := hflag rfl
    obtain rfl | rfl : v = 0 ∨ v = 1 := by omega
    · rfl
    · rfl
  | tPs => rfl
  | _ => exact Int.toNat_of_nonneg (hsigned rfl)

/-- A linear channel's other value stands where one is put. -/
theorem offset_putGain (x : Settings) (c c' : LinChannel) (v : Int) :
    (Param.calOffset c').get ((Param.calGain c).put v x) = (Param.calOffset c').get x := by
  cases c <;> cases c' <;> rfl

theorem gain_putOffset (x : Settings) (c c' : LinChannel) (v : Int) :
    (Param.calGain c').get ((Param.calOffset c).put v x) = (Param.calGain c').get x := by
  cases c <;> cases c' <;> rfl

/-- A parameter put leaves every other. -/
theorem get_put_ne {p p' : Param} (v : Int) (x : Settings) (hne : p' ≠ p) : p'.get (p.put v x) = p'.get x := by
  cases p with
  | calGain c =>
    cases p' with
    | calGain c' =>
      have hc : c' ≠ c := fun h => hne (h ▸ rfl)
      exact congrArg (fun l : LinCal => (l.gain : Int)) (lin_setLin_ne x.cal _ hc)
    | calOffset c' => exact offset_putGain x c c' v
    | _ => rfl
  | calOffset c =>
    cases p' with
    | calGain c' => exact gain_putOffset x c c' v
    | calOffset c' =>
      have hc : c' ≠ c := fun h => hne (h ▸ rfl)
      exact congrArg LinCal.offset (lin_setLin_ne x.cal _ hc)
    | _ => rfl
  | _ => cases p' <;> first | rfl | exact absurd rfl hne

theorem put_tables (p : Param) (v : Int) (x : Settings) :
    (p.put v x).cal.temps = x.cal.temps ∧ (p.put v x).feedforward = x.feedforward := by
  cases p with
  | calGain c => cases c <;> exact ⟨rfl, rfl⟩
  | calOffset c => cases c <;> exact ⟨rfl, rfl⟩
  | _ => exact ⟨rfl, rfl⟩

/-! ### Clamping -/

theorem clampI_cases (v : Int) {lo hi : Int} (h : lo ≤ hi) :
    clampI v lo hi = if v < lo then lo else if hi < v then hi else v := by
  unfold clampI
  split_ifs <;> omega

theorem range_le (p : Param) : p.range.1 ≤ p.range.2 := by
  cases p <;> simp [Param.range]

/-- A parameter carried unsigned has no negative value. -/
theorem range_nonneg {p : Param} (h : p.signed = false) : 0 ≤ p.range.1 := by
  cases p with
  | calOffset c => exact nomatch h
  | tPs => exact nomatch h
  | _ => simp [Param.range]

theorem clampI_bounds (v : Int) {lo hi : Int} (h : lo ≤ hi) : lo ≤ clampI v lo hi ∧ clampI v lo hi ≤ hi := by
  unfold clampI
  omega

theorem clamp_plain {p : Param} (hp : p ∉ [Param.qRated, .qMinRun, .supervisionInterval]) (v : Int) (x : Settings) :
    p.clamp v x = clampI v p.range.1 p.range.2 := by
  cases p with
  | qRated => exact absurd (by simp) hp
  | qMinRun => exact absurd (by simp) hp
  | supervisionInterval => exact absurd (by simp) hp
  | _ => rfl

theorem clamp_qRated (v : Int) (x : Settings) : Param.qRated.clamp v x = max (clampI v 300 1200) x.qMinRun := rfl

theorem clamp_qMinRun (v : Int) (x : Settings) : Param.qMinRun.clamp v x = min (clampI v 60 600) x.qRated := rfl

theorem clamp_supervisionInterval (v : Int) (x : Settings) : Param.supervisionInterval.clamp v x =
    if 0 < clampI v 0 3600 ∧ clampI v 0 3600 < 30 then 30 else clampI v 0 3600 := rfl

/-- A value that is put is none below 0 where it is carried unsigned. -/
theorem clamp_nonneg {p : Param} (v : Int) (x : Settings) (h : p.signed = false) : 0 ≤ p.clamp v x := by
  have hlow := (clampI_bounds v (range_le p)).1
  have hzero := range_nonneg h
  by_cases hp : p ∈ [Param.qRated, .qMinRun, .supervisionInterval]
  · simp only [List.mem_cons, List.not_mem_nil, or_false] at hp
    obtain rfl | rfl | rfl := hp
    · rw [clamp_qRated]
      omega
    · rw [clamp_qMinRun]
      have := (clampI_bounds v (lo := 60) (hi := 600) (by omega)).1
      omega
    · rw [clamp_supervisionInterval]
      have := (clampI_bounds v (lo := 0) (hi := 3600) (by omega)).1
      split <;> omega
  · rw [clamp_plain hp]
    omega

/-! ### The ceilings formed anew (R62, R99) -/

section Reform

variable {s : State}

theorem reformCeilings_eq (s : State) : reformCeilings s = { s with
    filters := (reformCeilings s).filters, fans := (reformCeilings s).fans, res := (reformCeilings s).res } := by
  unfold reformCeilings
  rw [formCeiling_eq .extract, formCeiling_eq .supply]
  rfl

theorem reformCeilings_filter (s : State) (st : Stream) : (reformCeilings s).filters.get st =
    { s.filters.get st with ceiling := ceilingOf s.settings (s.filters.get st) } := by
  unfold reformCeilings
  cases st with
  | supply =>
    obtain ⟨-, hother, -⟩ := filterFrame_formCeiling .extract (formCeiling .supply (resolve s))
    exact hother.trans (formCeiling_record .supply (resolve s))
  | extract =>
    obtain ⟨-, hother, -⟩ := filterFrame_formCeiling .supply (resolve s)
    rw [formCeiling_record, formCeiling_settings, show (formCeiling .supply (resolve s)).filters.get .extract =
      (resolve s).filters.get .extract from hother]
    rfl

theorem reformCeilings_fan (s : State) (st : Stream) : (reformCeilings s).fans.get st =
    { s.fans.get st with qTarget := ((reformCeilings s).fans.get st).qTarget } := by
  obtain ⟨-, -, hextract⟩ := filterFrame_formCeiling .extract (formCeiling .supply (resolve s))
  obtain ⟨-, -, hsupply⟩ := filterFrame_formCeiling .supply (resolve s)
  unfold reformCeilings
  rw [hextract st, hsupply st, resolve_fan]

theorem resolved_formCeiling (st : Stream) (h : Resolved s) : Resolved (formCeiling st s) := by
  by_cases hc : ceilingOf s.settings (s.filters.get st) = (s.filters.get st).ceiling
  · rw [formCeiling_stays hc]
    exact h
  · rw [formCeiling_changes hc]
    exact resolved_resolve _

theorem resolved_reformCeilings (s : State) : Resolved (reformCeilings s) :=
  resolved_formCeiling .extract (resolved_formCeiling .supply (resolved_resolve s))

end Reform

/-! ### What an accepted value does (R167) -/

/-- The parameters that act at once. -/
def actingParams : List Param := [.dutyMin, .qRated, .qMinRun, .qQuiet, .preheatFitted, .supervisionInterval]

theorem paramEffect_quiet {p : Param} (hp : p ∉ actingParams) (s : State) : paramEffect p s = s := by
  simp only [actingParams, List.mem_cons, List.not_mem_nil, or_false, not_or] at hp
  cases p <;> first | rfl | simp at hp

theorem paramEffect_preheatFitted (s : State) : paramEffect .preheatFitted s = { s with
    frost := if s.settings.preheatFitted then s.frost else { s.frost with duty := 0, output := false } } := by
  unfold paramEffect
  dsimp only
  split
  · rfl
  · rw [setDuty_zero_eq]
    rfl

/-- Supervision under an interval in force, while the host is not LOST with supervision switched off. -/
theorem setSupervision_eq {s : State} (h : s.settings.supervisionInterval ≠ 0 ∨ s.superv.state ≠ .lost) :
    setSupervision s = { s with superv := superviseFor s.settings.supervisionInterval s.superv } := by
  have hno : ¬ (s.settings.supervisionInterval = 0 ∧ s.superv.state = .lost) := by
    rintro ⟨h0, hlost⟩
    obtain h | h := h
    · exact h h0
    · exact h hlost
  unfold setSupervision
  dsimp only
  rw [if_neg hno]

theorem paramEffect_settings (p : Param) (s : State) : (paramEffect p s).settings = s.settings := by
  by_cases hp : p ∈ actingParams
  · simp only [actingParams, List.mem_cons, List.not_mem_nil, or_false] at hp
    obtain rfl | rfl | rfl | rfl | rfl | rfl := hp
    · rfl
    · exact (congrArg State.settings (reformCeilings_eq s) :)
    · exact (congrArg State.settings (reformCeilings_eq s) :)
    · rfl
    · rw [paramEffect_preheatFitted]
    · show (setSupervision s).settings = _
      unfold setSupervision
      dsimp only
      split <;> rfl
  · rw [paramEffect_quiet hp]

theorem applyParam_settings (p : Param) (v : Int) (s : State) : (applyParam p v s).settings = p.put v s.settings :=
  paramEffect_settings p _

end Sys2Proof.Proofs
end

section
/-! SUPPORT. Proofs: SET_PARAM (O57). -/

namespace Sys2Proof.Proofs

open Sys2Proof Sys2Proof.Machine

/-- The parameters with their ids, ranges and defaults (10, "Parameters"). -/
def paramTable : List (Nat × Param × Int × Int × Int) :=
  [(0, Param.calGain .rhExt, 0, 65535, 1000), (1, .calOffset .rhExt, -1000, 1000, 0),
    (2, .calGain .dpFs, 0, 65535, 5000), (3, .calOffset .dpFs, -1000, 1000, 0), (4, .calGain .dpFe, 0, 65535, 5000),
    (5, .calOffset .dpFe, -1000, 1000, 0), (6, .calGain .dpXs, 0, 65535, 5000),
    (7, .calOffset .dpXs, -1000, 1000, 0), (8, .calGain .dpXe, 0, 65535, 5000),
    (9, .calOffset .dpXe, -1000, 1000, 0), (10, .calGain .vSupply, 0, 65535, 400),
    (11, .calOffset .vSupply, -1000, 1000, 0), (12, .fanKn, 1, 255, 40), (13, .fanKp, 0, 64, 6),
    (14, .fanKi, 1, 32, 4), (15, .dutyMin, 60, 300, 120), (16, .dutyStart, 120, 1000, 300),
    (17, .qFanMin, 60, 60, 60), (18, .qRated, 300, 1200, 900), (19, .qMinRun, 60, 600, 150),
    (20, .qQuiet, 150, 1200, 350), (21, .demandBase, 0, 1200, 300), (22, .preheatFitted, 0, 1, 0),
    (23, .tPs, -200, 100, -30), (24, .aNormal, 50, 300, 100), (25, .aShed, 100, 400, 200),
    (26, .aDefrost, 100, 400, 250), (27, .doseLimit, 100, 65535, 45000), (28, .hoursLimit, 100, 65535, 4380),
    (29, .airingInterval, 1200, 7200, 3600), (30, .qAiring, 60, 1200, 250),
    (31, .supervisionInterval, 0, 3600, 300), (32, .qFallback, 0, 1200, 300)]

theorem paramTable_holds : ∀ t ∈ paramTable,
    Param.ofId t.1 = some t.2.1 ∧ t.2.1.range = (t.2.2.1, t.2.2.2.1) ∧ t.2.1.get .default = t.2.2.2.2 := by decide

theorem ofId_qFanMin {n : Nat} (h : Param.ofId n = some .qFanMin) : n = 17 := by
  have hn : n < 33 := (List.getElem?_eq_some_iff.mp h).1
  have hall : ∀ k < 33, Param.ofId k = some .qFanMin → k = 17 := by decide
  exact hall n hn h

theorem ownSetParam_of {id : Byte} {p : Param} (value : Half) (h : State) (hp : Param.ofId id.toNat = some p)
    (hfixed : p ≠ .qFanMin) : ownSetParam id value h = acceptParam p id value h := by
  unfold ownSetParam
  rw [hp]
  split
  next he => exact absurd (Option.some.inj he) hfixed
  next _ _ he => rw [Option.some.inj he]
  next he => exact nomatch he

theorem ownSetParam_refuses {id : Byte} (value : Half) (h : State) (hid : id = 17 ∨ 33 ≤ id.toNat) :
    ownSetParam id value h = (.now .badValue [], h) := by
  obtain rfl | hlarge := hid
  · rfl
  · unfold ownSetParam
    rw [ofId_none hlarge]
    rfl

section Effects

variable {h : State} {p : Param} {v w : Int}

/-- The resolutions of a changed flow. -/
theorem applyParam_flows (hp : p = .qRated ∨ p = .qMinRun ∨ p = .qQuiet) : Resolved (applyParam p w h) ∧
    applyParam p w h = { h with
      settings := (applyParam p w h).settings, filters := (applyParam p w h).filters, fans := (applyParam p w h).fans
      res := (applyParam p w h).res } ∧
    ∀ st, (applyParam p w h).fans.get st =
      { h.fans.get st with qTarget := ((applyParam p w h).fans.get st).qTarget } := by
  have hreform (x : Settings) : Resolved (reformCeilings { h with settings := x }) ∧
      reformCeilings { h with settings := x } = { h with
        settings := (reformCeilings { h with settings := x }).settings
        filters := (reformCeilings { h with settings := x }).filters
        fans := (reformCeilings { h with settings := x }).fans, res := (reformCeilings { h with settings := x }).res } ∧
      ∀ st, (reformCeilings { h with settings := x }).fans.get st =
        { h.fans.get st with qTarget := ((reformCeilings { h with settings := x }).fans.get st).qTarget } := by
    refine ⟨resolved_reformCeilings _, ?_, reformCeilings_fan _⟩
    rw [reformCeilings_eq]
  obtain rfl | rfl | rfl := hp
  · exact hreform _
  · exact hreform _
  · exact ⟨resolved_resolve _, rfl, fun st => resolve_fan _ st⟩

theorem applyParam_ceilings (hp : p = .qRated ∨ p = .qMinRun) (st : Stream) : (applyParam p w h).filters.get st =
    { h.filters.get st with ceiling := ceilingOf (p.put w h.settings) (h.filters.get st) } := by
  obtain rfl | rfl := hp
  · exact reformCeilings_filter _ st
  · exact reformCeilings_filter _ st

theorem applyParam_supervision (hw : 0 ≤ w) (hhost : h.superv.state = .ok ∨ h.superv.state = .off) :
    applyParam .supervisionInterval w h = { h with
      settings := Param.supervisionInterval.put w h.settings
      superv := if w = 0 then ⟨.off, 0, 0⟩ else if h.superv.state = .off then ⟨.ok, 0, 0⟩
        else { h.superv with silence := 0 } } := by
  refine (setSupervision_eq (.inr ?_)).trans ?_
  · show h.superv.state ≠ .lost
    obtain hs | hs := hhost <;> (rw [hs]; exact nofun)
  · have hinterval : (Param.supervisionInterval.put w h.settings).supervisionInterval = w.toNat := rfl
    have hzero : w.toNat = 0 ↔ w = 0 := by omega
    rw [hinterval]
    unfold superviseFor
    simp only [hzero]
    by_cases h0 : w = 0
    · rw [if_pos h0, if_pos h0]
    · rw [if_neg h0, if_neg h0]
      obtain hs | hs := hhost
      · rw [if_neg (by rw [hs]; exact nofun)]
        simp only [hs]
      · rw [if_pos hs]
        simp only [hs]

theorem applyParam_preheat (h : State) (w : Int) : applyParam .preheatFitted w h = { h with
    settings := Param.preheatFitted.put w h.settings
    frost := if w = 0 then { h.frost with duty := 0, output := false } else h.frost } := by
  refine (paramEffect_preheatFitted _).trans ?_
  have hfitted : (Param.preheatFitted.put w h.settings).preheatFitted = (w != 0) := rfl
  rw [hfitted]
  by_cases h0 : w = 0
  · rw [if_pos h0, h0]
    rfl
  · rw [if_neg h0, if_pos (by simpa using h0)]

end Effects

/-! ### The value (R11, R62, R154) -/

theorem read_eq (p : Param) (value : Half) : p.read value =
    (if p ∈ [Param.calOffset .rhExt, .calOffset .dpFs, .calOffset .dpFe, .calOffset .dpXs, .calOffset .dpXe,
      .calOffset .vSupply, .tPs] then value.toInt else value.toNat) := by
  unfold Param.read
  exact if_congr (signed_iff p) rfl rfl

theorem read_nonneg {p : Param} (value : Half) (h : p.signed = false) : 0 ≤ p.read value := by
  unfold Param.read
  rw [h, if_neg nofun]
  exact Int.natCast_nonneg _

/-- A value within the range stands, and one outside is brought to its nearer end. -/
theorem clamp_range {p : Param} (hp : p ∉ [Param.qRated, .qMinRun, .supervisionInterval]) (v : Int) (x : Settings) :
    (p.range.1 ≤ v → v ≤ p.range.2 → p.clamp v x = v) ∧ (v < p.range.1 → p.clamp v x = p.range.1) ∧
      (p.range.2 < v → p.clamp v x = p.range.2) := by
  have hle := range_le p
  rw [clamp_plain hp, clampI_cases v hle]
  refine ⟨fun hlow hhigh => ?_, fun hbelow => if_pos hbelow, fun habove => ?_⟩
  · rw [if_neg (by omega), if_neg (by omega)]
  · rw [if_neg (by omega), if_pos habove]

/-- Settles O57: the table of parameters, the refusals, and the value put with what it does at once. -/
theorem setParam : Obligations.SetParam := by
  unfold Obligations.SetParam
  intro tag id value s q hq hacc h hh
  subst hq
  refine ⟨fun n p lo hi default hmem => paramTable_holds _ hmem,
    fun hid => exec_heard_now hacc hh (ownSetParam_refuses value h hid), fun p hp hid v hv w hw => ?_⟩
  have hfixed : p ≠ .qFanMin := by
    rintro rfl
    exact hid (BitVec.eq_of_toNat_eq (ofId_qFanMin hp))
  have hnonneg (hs : p.signed = false) : 0 ≤ w := hw ▸ clamp_nonneg v h.settings hs
  have hsettings : (applyParam p w h).settings = p.put w h.settings := applyParam_settings p w h
  have hexec : exec (.setParam tag id value) s = .next (replied tag (.setParam id value) (if w = v then .ok else .clamped)
      (u8 id.toNat ++ p.bytes (applyParam p w h).settings) (applyParam p w h)) := by
    refine exec_heard_now hacc hh ((ownSetParam_of value h hp hfixed).trans ?_)
    subst hw hv
    rfl
  obtain ⟨htemps, hfeedforward⟩ := put_tables p w h.settings
  refine ⟨applyParam p w h, hexec, hv.trans (read_eq p value), hsettings, ?value, ?others, ?temps, ?feedforward,
    fun hplain => hw ▸ clamp_range hplain v h.settings, ?rated, ?minRun, ?interval, ?quiet, applyParam_flows, ?filters,
    ?ceilings, ?dutyMin, ?preheat, ?supervision⟩
  case value =>
    rw [hsettings]
    refine get_put _ hnonneg hfixed ?_
    rintro rfl
    rw [hw, clamp_plain (by simp)]
    exact (clampI_bounds v (range_le .preheatFitted)).2
  case others =>
    intro p' hne
    rw [hsettings]
    exact get_put_ne w h.settings hne
  case temps => rw [hsettings, htemps]
  case feedforward => rw [hsettings, hfeedforward]
  case rated =>
    rintro rfl c rfl
    rw [hw, clamp_qRated, clampI_cases v (by omega)]
    split_ifs <;> omega
  case minRun =>
    rintro rfl c rfl
    rw [hw, clamp_qMinRun, clampI_cases v (by omega)]
    split_ifs <;> omega
  case interval =>
    rintro rfl
    have hvalue : 0 ≤ v := hv ▸ read_nonneg value rfl
    rw [hw, clamp_supervisionInterval, clampI_cases v (by omega)]
    split_ifs <;> omega
  case quiet =>
    intro hplain
    have hquiet : applyParam p w h = { h with settings := p.put w h.settings } := paramEffect_quiet hplain _
    rw [hquiet]
  case filters =>
    rintro rfl
    rfl
  case ceilings =>
    intro hflow st
    rw [applyParam_ceilings hflow, hsettings]
    rfl
  case dutyMin =>
    rintro rfl
    exact ⟨rfl, fun st => by cases st <;> rfl⟩
  case preheat =>
    rintro rfl
    rw [applyParam_preheat]
  case supervision =>
    rintro rfl hhost
    rw [applyParam_supervision (hnonneg rfl) hhost]

end Sys2Proof.Proofs
end

section
/-! SUPPORT. Proofs: the defaults restored (O60). -/

namespace Sys2Proof.Proofs

open Sys2Proof Sys2Proof.Machine

/-! ### The settings restored (R169) -/

theorem mem_all (p : Param) : p ∈ Param.all := by
  cases p with
  | calGain c => cases c <;> simp [Param.all]
  | calOffset c => cases c <;> simp [Param.all]
  | _ => simp [Param.all]

/-- Settings are their parameters and their tables. -/
theorem settings_ext {x y : Settings} (hget : ∀ p, Param.get p x = Param.get p y) (htemps : x.cal.temps = y.cal.temps)
    (hfeedforward : x.feedforward = y.feedforward) : x = y := by
  have hgain (c : LinChannel) : (x.cal.lin c).gain = (y.cal.lin c).gain := Int.ofNat_inj.mp (hget (.calGain c))
  have hoffset (c : LinChannel) : (x.cal.lin c).offset = (y.cal.lin c).offset := hget (.calOffset c)
  have hlin (c : LinChannel) : x.cal.lin c = y.cal.lin c := by
    have hg := hgain c
    have ho := hoffset c
    generalize x.cal.lin c = a at *
    generalize y.cal.lin c = b at *
    cases a
    cases b
    obtain rfl := hg
    obtain rfl := ho
    rfl
  have hcal : x.cal = y.cal := by
    have h1 := hlin .rhExt
    have h2 := hlin .dpFs
    have h3 := hlin .dpFe
    have h4 := hlin .dpXs
    have h5 := hlin .dpXe
    have h6 := hlin .vSupply
    generalize x.cal = a at *
    generalize y.cal = b at *
    cases a
    cases b
    simp only [Calibration.lin] at *
    simp only [*]
  have hfitted : x.preheatFitted = y.preheatFitted := by
    have h := hget .preheatFitted
    simp only [Param.get] at h
    cases hx : x.preheatFitted <;> cases hy : y.preheatFitted <;> simp [hx, hy] at h <;> rfl
  have hnat {f : Settings → Nat} (h : (f x : Int) = f y) : f x = f y := Int.ofNat_inj.mp h
  have h1 := hnat (f := Settings.fanKn) (hget .fanKn)
  have h2 := hnat (f := Settings.fanKp) (hget .fanKp)
  have h3 := hnat (f := Settings.fanKi) (hget .fanKi)
  have h4 := hnat (f := Settings.dutyMin) (hget .dutyMin)
  have h5 := hnat (f := Settings.dutyStart) (hget .dutyStart)
  have h6 := hnat (f := Settings.qRated) (hget .qRated)
  have h7 := hnat (f := Settings.qMinRun) (hget .qMinRun)
  have h8 := hnat (f := Settings.qQuiet) (hget .qQuiet)
  have h9 := hnat (f := Settings.demandBase) (hget .demandBase)
  have h10 : x.tPs = y.tPs := hget .tPs
  have h11 := hnat (f := Settings.aNormal) (hget .aNormal)
  have h12 := hnat (f := Settings.aShed) (hget .aShed)
  have h13 := hnat (f := Settings.aDefrost) (hget .aDefrost)
  have h14 := hnat (f := Settings.doseLimit) (hget .doseLimit)
  have h15 := hnat (f := Settings.hoursLimit) (hget .hoursLimit)
  have h16 := hnat (f := Settings.airingInterval) (hget .airingInterval)
  have h17 := hnat (f := Settings.qAiring) (hget .qAiring)
  have h18 := hnat (f := Settings.supervisionInterval) (hget .supervisionInterval)
  have h19 := hnat (f := Settings.qFallback) (hget .qFallback)
  clear hget hgain hoffset hlin hnat htemps
  cases x
  cases y
  simp only at *
  simp only [*]

theorem restoreParam_cases (s : State) (p : Param) : restoreParam s p = s ∨
    restoreParam s p = applyParam p (p.get .default) s := by
  unfold restoreParam
  split
  · exact .inl rfl
  · exact .inr rfl

/-- A parameter restored stands at its default. -/
theorem restoreParam_self (s : State) (p : Param) : p.get (restoreParam s p).settings = p.get .default := by
  unfold restoreParam
  split
  next h => exact h.1
  next =>
    rw [applyParam_settings]
    by_cases hfixed : p = .qFanMin
    · subst hfixed
      rfl
    · refine get_put _ (fun hs => ?_) hfixed ?_
      · cases p with
        | calGain c => exact Int.natCast_nonneg _
        | calOffset c => exact nomatch hs
        | tPs => exact nomatch hs
        | preheatFitted => exact le_rfl
        | _ => exact Int.natCast_nonneg _
      · rintro rfl
        exact Int.zero_le_ofNat 1

theorem restoreParam_other (s : State) {p p' : Param} (hne : p' ≠ p) :
    p'.get (restoreParam s p).settings = p'.get s.settings := by
  obtain h | h := restoreParam_cases s p
  · rw [h]
  · rw [h, applyParam_settings]
    exact get_put_ne _ _ hne

theorem restoreParam_tables (s : State) (p : Param) :
    (restoreParam s p).settings.cal.temps = s.settings.cal.temps ∧
      (restoreParam s p).settings.feedforward = s.settings.feedforward := by
  obtain h | h := restoreParam_cases s p
  · rw [h]
    exact ⟨rfl, rfl⟩
  · rw [h, applyParam_settings]
    exact put_tables _ _ _

/-- The parameters of a list restored, and the others left. -/
theorem foldl_restore_get (p : Param) : ∀ (l : List Param) (s : State),
    p.get (l.foldl restoreParam s).settings = if p ∈ l then p.get .default else p.get s.settings
  | [], s => by simp
  | q :: l, s => by
    rw [List.foldl_cons, foldl_restore_get p l]
    by_cases hmem : p ∈ l
    · simp [hmem]
    · rw [if_neg hmem]
      by_cases hq : p = q
      · subst hq
        simp [restoreParam_self]
      · rw [restoreParam_other s hq, if_neg (by simp [hq, hmem])]

/-- What restoring each parameter of a list keeps, restoring them all keeps. -/
theorem foldl_restore_keeps {α : Sort*} (f : State → α) : ∀ (l : List Param) (s : State),
    (∀ p ∈ l, ∀ u, f (restoreParam u p) = f u) → f (l.foldl restoreParam s) = f s
  | [], _, _ => rfl
  | p :: l, s, h => (foldl_restore_keeps f l _ fun q hq u => h q (List.mem_cons_of_mem p hq) u).trans
      (h p List.mem_cons_self s)

/-- Every parameter and table at its default. -/
theorem restoreAll_settings (s : State) : (restoreAll s).settings = .default := by
  have hget (p : Param) : p.get (Param.all.foldl restoreParam s).settings = p.get .default := by
    rw [foldl_restore_get, if_pos (mem_all p)]
  unfold restoreAll restoreTables
  generalize Param.all.foldl restoreParam s = u at hget
  refine settings_ext (fun p => ?_) rfl rfl
  rw [← hget p]
  cases p with
  | calGain c => cases c <;> rfl
  | calOffset c => cases c <;> rfl
  | _ => rfl

/-! ### What each parameter restored acts on (log 18) -/

/-- What a parameter restored leaves. -/
structure Restores (p : Param) (u t : State) : Prop where
  frame : t = { u with
    settings := t.settings, fans := t.fans, filters := t.filters, res := t.res, superv := t.superv, frost := t.frost }
  frost : p ≠ .preheatFitted → t.frost = u.frost
  superv : p ≠ .supervisionInterval → t.superv = u.superv
  filters : p ≠ .qRated → p ≠ .qMinRun → t.filters = u.filters
  fans : p ≠ .dutyMin → ∀ st, t.fans.get st = { u.fans.get st with qTarget := (t.fans.get st).qTarget }
  flows : p ≠ .qRated → p ≠ .qMinRun → p ≠ .qQuiet →
    t.res = u.res ∧ ∀ st, (t.fans.get st).qTarget = (u.fans.get st).qTarget
  resolved : Resolved u → Resolved t

section Acts

variable {u : State} {p : Param}

theorem restores_self (p : Param) (u : State) : Restores p u u :=
  ⟨rfl, fun _ => rfl, fun _ => rfl, fun _ _ => rfl, fun _ _ => rfl, fun _ _ _ => ⟨rfl, fun _ => rfl⟩, id⟩

/-- What the stages read alike, they resolve alike (R52 to R60). -/
theorem SameInputs.resolved {s u : State} (h : SameInputs s u) (hdemand : u.demand = s.demand) (hres : u.res = s.res)
    (hfans : ∀ st, (u.fans.get st).qTarget = (s.fans.get st).qTarget) (hr : Resolved s) : Resolved u := by
  have hcap : capOf u = capOf s := by
    funext st
    unfold capOf
    rw [h.qRated, h.ceilings, h.satCaps]
  have hflow : demandFlow u = demandFlow s := by
    unfold demandFlow
    rw [h.mode, h.qQuiet, h.qMinRun, h.qRated, hdemand]
  have hbefore : extractBefore u = extractBefore s := by unfold extractBefore; rw [hflow, hcap]
  have hsupply : supplyFlow u = supplyFlow s := by unfold supplyFlow; rw [hbefore, hcap, h.window]
  have hextract : extractFlow u = extractFlow s := by unfold extractFlow; rw [hbefore, hsupply, h.allowance]
  have hfault : fanFault u = fanFault s := by
    have hs : u.fans.supply.state = s.fans.supply.state := h.states .supply
    have he : u.fans.extract.state = s.fans.extract.state := h.states .extract
    unfold fanFault
    rw [hs, he]
  have hcapReason : capReason u = capReason s := by
    funext st
    unfold capReason
    rw [hcap, h.satCaps]
  have hpre : preReason u = preReason s := by
    unfold preReason
    rw [hbefore, hflow, hcapReason, h.mode, h.qQuiet, hdemand]
  have hstop : stopReason u = stopReason s := by unfold stopReason; rw [h.stage, hfault]
  have hext : extReason u = extReason s := by unfold extReason; rw [hstop, hextract, hbefore, hpre]
  have hsup : supReason u = supReason s := by
    unfold supReason
    rw [hstop, hsupply, hextract, hbefore, hpre, hcap, hcapReason, h.window]
  have hresolution : resolution u = resolution s := by
    unfold resolution
    rw [h.targets, hext, hsup, h.allowance, h.window, h.mode, h.qQuiet, hdemand, hres]
  obtain ⟨hre, hrs, hrr⟩ := hr
  refine ⟨?_, ?_, ?_⟩
  · rw [h.targets, ← hre]
    exact hfans .extract
  · rw [h.targets, ← hrs]
    exact hfans .supply
  · rw [hresolution, hres]
    exact hrr

/-- A parameter restored that starts no resolution keeps one in force. -/
theorem resolved_restored {x : Settings} {fans : PerStream FanRecord} {frost : FrostRecord} {v : Supervision}
    (h1 : x.qRated = u.settings.qRated) (h2 : x.qMinRun = u.settings.qMinRun) (h3 : x.qQuiet = u.settings.qQuiet)
    (hfans : ∀ st, (fans.get st).state = (u.fans.get st).state ∧ (fans.get st).satCap = (u.fans.get st).satCap ∧
      (fans.get st).qTarget = (u.fans.get st).qTarget)
    (hstage : frost.stage = u.frost.stage) (hw : frost.w = u.frost.w) (ha : frost.allowance = u.frost.allowance)
    (h : Resolved u) : Resolved { u with settings := x, fans := fans, frost := frost, superv := v } :=
  SameInputs.resolved { states := fun st => (hfans st).1, satCaps := fun st => (hfans st).2.1, stage := hstage
                        window := hw, allowance := ha, qQuiet := h3, qMinRun := h2, qRated := h1 }
    rfl rfl (fun st => (hfans st).2.2) h

theorem put_flows (v : Int) (x : Settings) (hp : p ≠ .qRated ∧ p ≠ .qMinRun ∧ p ≠ .qQuiet) :
    (p.put v x).qRated = x.qRated ∧ (p.put v x).qMinRun = x.qMinRun ∧ (p.put v x).qQuiet = x.qQuiet := by
  obtain ⟨h1, h2, h3⟩ := hp
  exact ⟨Int.ofNat_inj.mp (get_put_ne (p' := .qRated) v x h1.symm), Int.ofNat_inj.mp (get_put_ne (p' := .qMinRun) v x h2.symm),
    Int.ofNat_inj.mp (get_put_ne (p' := .qQuiet) v x h3.symm)⟩

theorem restores_settings (v : Int) (hp : p ∉ actingParams) : Restores p u (applyParam p v u) := by
  have hquiet : applyParam p v u = { u with settings := p.put v u.settings } := paramEffect_quiet hp _
  have hne {q : Param} (hq : q ∈ actingParams) : p ≠ q := fun h => hp (h ▸ hq)
  obtain ⟨h1, h2, h3⟩ := put_flows (p := p) v u.settings
    ⟨hne (by simp [actingParams]), hne (by simp [actingParams]), hne (by simp [actingParams])⟩
  rw [hquiet]
  exact { restores_self p u with
    frame := rfl
    resolved := resolved_restored (v := u.superv) h1 h2 h3 (fun _ => ⟨rfl, rfl, rfl⟩) rfl rfl rfl }

theorem restores_dutyMin (v : Int) (u : State) : Restores .dutyMin u (applyParam .dutyMin v u) where
  frame := rfl
  frost _ := rfl
  superv _ := rfl
  filters _ _ := rfl
  fans h := absurd rfl h
  flows _ _ _ := ⟨rfl, fun st => by cases st <;> rfl⟩
  resolved := resolved_restored (v := u.superv) rfl rfl rfl (fun st => by cases st <;> exact ⟨rfl, rfl, rfl⟩) rfl rfl rfl

theorem restores_flows (v : Int) (hp : p = .qRated ∨ p = .qMinRun ∨ p = .qQuiet) : Restores p u (applyParam p v u) := by
  obtain ⟨hresolved, hframe, hfans⟩ := applyParam_flows (h := u) (w := v) hp
  have hfrost : (applyParam p v u).frost = u.frost := by rw [hframe]
  have hsuperv : (applyParam p v u).superv = u.superv := by rw [hframe]
  refine { frame := ?_, frost := fun _ => hfrost, superv := fun _ => hsuperv, filters := fun h1 h2 => ?_
           fans := fun _ => hfans, flows := fun h1 h2 h3 => ?_, resolved := fun _ => hresolved }
  · rw [hfrost, hsuperv]
    exact hframe
  · obtain rfl | rfl | rfl := hp
    · exact absurd rfl h1
    · exact absurd rfl h2
    · rfl
  · obtain rfl | rfl | rfl := hp
    · exact absurd rfl h1
    · exact absurd rfl h2
    · exact absurd rfl h3

theorem restores_preheat (v : Int) (u : State) : Restores .preheatFitted u (applyParam .preheatFitted v u) := by
  rw [applyParam_preheat]
  exact { restores_self .preheatFitted u with
    frame := rfl
    frost := fun h => absurd rfl h
    resolved := resolved_restored (v := u.superv) rfl rfl rfl (fun _ => ⟨rfl, rfl, rfl⟩) (by split <;> rfl) (by split <;> rfl)
      (by split <;> rfl) }

/-- The default supervision_interval is not 0, and takes no FALLBACK entry. -/
theorem applyParam_interval (u : State) : applyParam .supervisionInterval (Param.supervisionInterval.get .default) u =
    { u with settings := Param.supervisionInterval.put 300 u.settings, superv := superviseFor 300 u.superv } :=
  setSupervision_eq (s := { u with settings := Param.supervisionInterval.put 300 u.settings })
    (.inl (show (300 : Nat) ≠ 0 by decide))

theorem restores_interval (u : State) : Restores .supervisionInterval u
    (applyParam .supervisionInterval (Param.supervisionInterval.get .default) u) := by
  rw [applyParam_interval]
  exact { restores_self .supervisionInterval u with
    frame := rfl
    superv := fun h => absurd rfl h
    resolved := resolved_restored rfl rfl rfl (fun _ => ⟨rfl, rfl, rfl⟩) rfl rfl rfl }

theorem restores (p : Param) (u : State) : Restores p u (restoreParam u p) := by
  obtain h | h := restoreParam_cases u p
  · rw [h]
    exact restores_self p u
  · rw [h]
    by_cases hp : p ∈ actingParams
    · simp only [actingParams, List.mem_cons, List.not_mem_nil, or_false] at hp
      obtain rfl | rfl | rfl | rfl | rfl | rfl := hp
      · exact restores_dutyMin _ u
      · exact restores_flows _ (.inl rfl)
      · exact restores_flows _ (.inr (.inl rfl))
      · exact restores_flows _ (.inr (.inr rfl))
      · exact restores_preheat _ u
      · exact restores_interval u
    · exact restores_settings _ hp

end Acts

end Sys2Proof.Proofs
end

section
/-! SUPPORT. Proofs: the parameters restored in their order (O60). -/

namespace Sys2Proof.Proofs

open Sys2Proof Sys2Proof.Machine

/-- R99: a ceiling under the default flows. -/
def defaultCeiling (f : FilterRecord) : Nat :=
  if f.state = .blocked then min (max (180000 / f.loading.getD 100) 150) 900 else 900

theorem ceilingOf_default {x : Settings} (h1 : x.qRated = 900) (h2 : x.qMinRun = 150) (f : FilterRecord) :
    ceilingOf x f = defaultCeiling f := by
  unfold ceilingOf
  rw [h1, h2]
  rfl

section Folds

variable {u h : State} {p : Param}

theorem restoreParam_kept (hp : p ≠ .supervisionInterval) (hd : p.get u.settings = p.get .default) :
    restoreParam u p = u := if_pos ⟨hd, hp⟩

theorem restoreParam_applied (hd : p.get u.settings ≠ p.get .default) :
    restoreParam u p = applyParam p (p.get .default) u := if_neg fun h => hd h.1

/-! ### The flows (R62, R99) -/

/-- q_rated and q_min_run restored: each that changes forms the ceilings anew, the later under both defaults. -/
theorem restored_ceilings (hflow : u.settings.qRated ≠ 900 ∨ u.settings.qMinRun ≠ 150) :
    Resolved (restoreParam (restoreParam u .qRated) .qMinRun) ∧
      ∀ st, (restoreParam (restoreParam u .qRated) .qMinRun).filters.get st =
        { u.filters.get st with ceiling := defaultCeiling (u.filters.get st) } := by
  obtain ⟨a, ha⟩ : ∃ a, a = restoreParam u .qRated := ⟨_, rfl⟩
  have hrated : a.settings.qRated = 900 := Int.ofNat_inj.mp (ha ▸ restoreParam_self u .qRated)
  have hrun : a.settings.qMinRun = u.settings.qMinRun :=
    Int.ofNat_inj.mp (ha ▸ restoreParam_other u (p := .qRated) (p' := .qMinRun) nofun)
  have hreformed (hne : u.settings.qRated ≠ 900) : Resolved a ∧ ∀ st, a.filters.get st =
      { u.filters.get st with ceiling := ceilingOf (Param.qRated.put 900 u.settings) (u.filters.get st) } := by
    have happlied : a = applyParam .qRated 900 u := ha.trans (restoreParam_applied fun he => hne (Int.ofNat_inj.mp he))
    rw [happlied]
    exact ⟨(applyParam_flows (.inl rfl)).1, applyParam_ceilings (.inl rfl)⟩
  have hfilter (st : Stream) : a.filters.get st = { u.filters.get st with ceiling := (a.filters.get st).ceiling } := by
    by_cases hne : u.settings.qRated = 900
    · have hkept : a = u := ha.trans (restoreParam_kept nofun (congrArg Nat.cast hne))
      rw [hkept]
    · rw [(hreformed hne).2 st]
  rw [← ha]
  by_cases hmin : u.settings.qMinRun = 150
  · have hkept : restoreParam a .qMinRun = a := restoreParam_kept nofun (congrArg Nat.cast (hrun.trans hmin))
    obtain ⟨hresolved, hfilters⟩ := hreformed (hflow.resolve_right (not_not.mpr hmin))
    rw [hkept]
    refine ⟨hresolved, fun st => ?_⟩
    rw [hfilters st, ceilingOf_default (x := Param.qRated.put 900 u.settings) rfl hmin]
  · have happlied : restoreParam a .qMinRun = applyParam .qMinRun 150 a :=
      restoreParam_applied fun he => hmin (hrun.symm.trans (Int.ofNat_inj.mp he))
    rw [happlied]
    refine ⟨(applyParam_flows (.inr (.inl rfl))).1, fun st => ?_⟩
    rw [applyParam_ceilings (.inr rfl), ceilingOf_default (x := Param.qMinRun.put 150 a.settings) hrated rfl, hfilter st]
    rfl

/-- The three flows restored. -/
def restoreFlows (u : State) : State := restoreParam (restoreParam (restoreParam u .qRated) .qMinRun) .qQuiet

theorem restoreFlows_settings (u : State) (hp : p ≠ .qRated ∧ p ≠ .qMinRun) :
    p.get (restoreParam (restoreParam u .qRated) .qMinRun).settings = p.get u.settings := by
  rw [restoreParam_other _ hp.2, restoreParam_other _ hp.1]

theorem restoreFlows_filters (u : State) :
    (restoreFlows u).filters = (restoreParam (restoreParam u .qRated) .qMinRun).filters :=
  (restores .qQuiet _).filters nofun nofun

theorem restoreFlows_resolved
    (hflow : (u.settings.qRated ≠ 900 ∨ u.settings.qMinRun ≠ 150) ∨ u.settings.qQuiet ≠ 350) : Resolved (restoreFlows u) := by
  obtain hflow | hquiet := hflow
  · exact (restores .qQuiet _).resolved (restored_ceilings hflow).1
  · have hsame := restoreFlows_settings (p := .qQuiet) u ⟨nofun, nofun⟩
    have happlied : restoreFlows u = applyParam .qQuiet 350 (restoreParam (restoreParam u .qRated) .qMinRun) :=
      restoreParam_applied fun he => hquiet (Int.ofNat_inj.mp (hsame.symm.trans he))
    rw [happlied]
    exact (applyParam_flows (.inr (.inr rfl))).1

theorem restoredRun_kept (h1 : u.settings.qRated = 900) (h2 : u.settings.qMinRun = 150) :
    restoreParam (restoreParam u .qRated) .qMinRun = u := by
  have hfirst : restoreParam u .qRated = u := restoreParam_kept nofun (congrArg Nat.cast h1)
  rw [hfirst]
  exact restoreParam_kept nofun (congrArg Nat.cast h2)

theorem restoreFlows_kept (h1 : u.settings.qRated = 900) (h2 : u.settings.qMinRun = 150) (h3 : u.settings.qQuiet = 350) :
    restoreFlows u = u := by
  unfold restoreFlows
  rw [restoredRun_kept h1 h2]
  exact restoreParam_kept nofun (congrArg Nat.cast h3)

/-! ### The parameters in their order -/

/-- The parameters before the three flows, and those after. -/
theorem all_eq : Param.all = Param.all.take 18 ++ ([.qRated, .qMinRun, .qQuiet] ++ Param.all.drop 21) := rfl

theorem take_noFlow : ∀ p ∈ Param.all.take 18, p ≠ .qRated ∧ p ≠ .qMinRun ∧ p ≠ .qQuiet := by decide

theorem drop_noFlow : ∀ p ∈ Param.all.drop 21, p ≠ .qRated ∧ p ≠ .qMinRun ∧ p ≠ .qQuiet := by decide

theorem restoreAll_eq (h : State) : Param.all.foldl restoreParam h =
    (Param.all.drop 21).foldl restoreParam (restoreFlows ((Param.all.take 18).foldl restoreParam h)) := by
  conv_lhs => rw [all_eq, List.foldl_append, List.foldl_append, List.foldl_cons, List.foldl_cons, List.foldl_cons, List.foldl_nil]
  unfold restoreFlows
  with_reducible rfl

/-- The parameters but the flows leave the filters, the resolution and the targets, and keep a resolution in force. -/
theorem foldl_noFlow {l : List Param} (hl : ∀ p ∈ l, p ≠ .qRated ∧ p ≠ .qMinRun ∧ p ≠ .qQuiet) (u : State) :
    (l.foldl restoreParam u).filters = u.filters ∧ (l.foldl restoreParam u).res = u.res ∧
      (∀ st, ((l.foldl restoreParam u).fans.get st).qTarget = (u.fans.get st).qTarget) ∧
      (Resolved u → Resolved (l.foldl restoreParam u)) := by
  refine ⟨foldl_restore_keeps State.filters l u fun p hp v => ?_, foldl_restore_keeps State.res l u fun p hp v => ?_,
    fun st => foldl_restore_keeps (fun s => (s.fans.get st).qTarget) l u fun p hp v => ?_, ?_⟩
  · obtain ⟨h1, h2, -⟩ := hl p hp
    exact (restores p v).filters h1 h2
  · obtain ⟨h1, h2, h3⟩ := hl p hp
    exact ((restores p v).flows h1 h2 h3).1
  · obtain ⟨h1, h2, h3⟩ := hl p hp
    exact ((restores p v).flows h1 h2 h3).2 st
  · clear hl
    induction l generalizing u with
    | nil => exact id
    | cons p l ih => exact fun hr => ih _ ((restores p u).resolved hr)

theorem foldl_frame (l : List Param) (u : State) : l.foldl restoreParam u = { u with
    settings := (l.foldl restoreParam u).settings, fans := (l.foldl restoreParam u).fans
    filters := (l.foldl restoreParam u).filters, res := (l.foldl restoreParam u).res
    superv := (l.foldl restoreParam u).superv, frost := (l.foldl restoreParam u).frost } := by
  induction l generalizing u with
  | nil => rfl
  | cons p l ih =>
    have hrest := ih (restoreParam u p)
    rw [List.foldl_cons]
    generalize l.foldl restoreParam (restoreParam u p) = t at *
    rw [hrest, (restores p u).frame]

/-- A parameter that alone acts on something finds it, and its own value, as before the restore, and leaves it as after. -/
theorem restored_once (p : Param) (h : State) : ∃ pre post : List Param, Param.all.foldl restoreParam h =
    post.foldl restoreParam (restoreParam (pre.foldl restoreParam h) p) ∧ p ∉ pre ∧ p ∉ post := by
  obtain ⟨pre, post, hall⟩ := List.append_of_mem (mem_all p)
  have hnodup : (pre ++ p :: post).Nodup := hall ▸ (by decide : Param.all.Nodup)
  obtain ⟨-, hpost, hdisjoint⟩ := List.nodup_append.mp hnodup
  refine ⟨pre, post, ?_, fun hmem => hdisjoint p hmem p List.mem_cons_self rfl, (List.nodup_cons.mp hpost).1⟩
  rw [hall, List.foldl_append, List.foldl_cons]

theorem foldl_get_kept {l : List Param} (hp : p ∉ l) (u : State) : p.get (l.foldl restoreParam u).settings = p.get u.settings := by
  rw [foldl_restore_get, if_neg hp]

theorem restored_frost (h : State) : (Param.all.foldl restoreParam h).frost =
    if h.settings.preheatFitted = true then { h.frost with duty := 0, output := false } else h.frost := by
  obtain ⟨pre, post, hfold, hpre, hpost⟩ := restored_once .preheatFitted h
  have hkeeps {l : List Param} (hl : .preheatFitted ∉ l) (u : State) : (l.foldl restoreParam u).frost = u.frost :=
    foldl_restore_keeps State.frost l u fun p hp v => (restores p v).frost fun he => hl (he ▸ hp)
  have hvalue := foldl_get_kept hpre h
  rw [hfold, hkeeps hpost, ← hkeeps hpre h]
  generalize pre.foldl restoreParam h = u at hvalue ⊢
  cases hfitted : h.settings.preheatFitted with
  | false =>
    have hget : Param.preheatFitted.get u.settings = Param.preheatFitted.get .default := by
      rw [hvalue]
      simp [Param.get, hfitted, Settings.default]
    rw [restoreParam_kept (p := .preheatFitted) nofun hget]
    rfl
  | true =>
    have hget : Param.preheatFitted.get u.settings ≠ Param.preheatFitted.get .default := by
      rw [hvalue]
      simp [Param.get, hfitted, Settings.default]
    rw [restoreParam_applied hget, applyParam_preheat]
    rfl

theorem restored_superv (h : State) : (Param.all.foldl restoreParam h).superv = superviseFor 300 h.superv := by
  obtain ⟨pre, post, hfold, hpre, hpost⟩ := restored_once .supervisionInterval h
  have hkeeps {l : List Param} (hl : .supervisionInterval ∉ l) (u : State) : (l.foldl restoreParam u).superv = u.superv :=
    foldl_restore_keeps State.superv l u fun p hp v => (restores p v).superv fun he => hl (he ▸ hp)
  rw [hfold, hkeeps hpost, ← hkeeps hpre h]
  generalize pre.foldl restoreParam h = u
  have happlied : restoreParam u .supervisionInterval =
      applyParam .supervisionInterval (Param.supervisionInterval.get .default) u := if_neg fun he => he.2 rfl
  rw [happlied, applyParam_interval]

/-- Fan records alike but for the target. -/
theorem eq_of_untargeted {f g : FanRecord} (hfg : { f with qTarget := 0 } = { g with qTarget := 0 }) :
    f = { g with qTarget := f.qTarget } := by
  cases f
  cases g
  simp only [FanRecord.mk.injEq] at hfg ⊢
  simpa using hfg

/-- R20: a fan record under a restored duty_min. -/
def dutyRestored (x : Settings) (f : FanRecord) : FanRecord := { f with
  absence := if x.dutyMin = 120 then f.absence else if 120 ≤ f.applied then some (f.absence.getD 0) else none }

theorem restored_fan (h : State) (st : Stream) : (Param.all.foldl restoreParam h).fans.get st =
    { dutyRestored h.settings (h.fans.get st) with
      qTarget := ((Param.all.foldl restoreParam h).fans.get st).qTarget } := by
  obtain ⟨pre, post, hfold, hpre, hpost⟩ := restored_once .dutyMin h
  have hkeeps {l : List Param} (hl : .dutyMin ∉ l) (u : State) :
      ({ (l.foldl restoreParam u).fans.get st with qTarget := 0 } : FanRecord) = { u.fans.get st with qTarget := 0 } := by
    refine foldl_restore_keeps (fun s => ({ s.fans.get st with qTarget := 0 } : FanRecord)) l u fun p hp v => ?_
    dsimp only
    rw [(restores p v).fans (fun he => hl (he ▸ hp)) st]
  have hvalue : (pre.foldl restoreParam h).settings.dutyMin = h.settings.dutyMin := Int.ofNat_inj.mp (foldl_get_kept hpre h)
  have hfan := eq_of_untargeted (hkeeps hpre h)
  refine eq_of_untargeted ?_
  rw [hfold, hkeeps hpost]
  generalize pre.foldl restoreParam h = u at hvalue hfan ⊢
  by_cases hd : h.settings.dutyMin = 120
  · rw [restoreParam_kept (p := .dutyMin) nofun (congrArg Nat.cast (hvalue.trans hd)), dutyRestored, if_pos hd, hfan]
  · have happlied : restoreParam u .dutyMin = applyParam .dutyMin 120 u :=
      restoreParam_applied fun he => hd (hvalue.symm.trans (Int.ofNat_inj.mp he))
    have hadjust : (applyParam .dutyMin 120 u).fans.get st = adjustAbsence 120 (u.fans.get st) := by cases st <;> rfl
    rw [happlied, dutyRestored, if_neg hd, hadjust, hfan]
    rfl

end Folds

end Sys2Proof.Proofs
end

section
/-! SUPPORT. Proofs: SAVE_SETTINGS, RESTORE_DEFAULTS and RESET_PART (O60). -/

namespace Sys2Proof.Proofs

open Sys2Proof Sys2Proof.Machine

/-! ### Every default restored (R169) -/

section Restored

variable {h : State}

/-- The flows that the restore finds are those in force. -/
theorem take_flows (h : State) : ((Param.all.take 18).foldl restoreParam h).settings.qRated = h.settings.qRated ∧
    ((Param.all.take 18).foldl restoreParam h).settings.qMinRun = h.settings.qMinRun ∧
    ((Param.all.take 18).foldl restoreParam h).settings.qQuiet = h.settings.qQuiet :=
  ⟨Int.ofNat_inj.mp (foldl_get_kept (p := .qRated) (by decide) h),
    Int.ofNat_inj.mp (foldl_get_kept (p := .qMinRun) (by decide) h),
    Int.ofNat_inj.mp (foldl_get_kept (p := .qQuiet) (by decide) h)⟩

/-- The tables' part of the restore changes the settings alone. -/
theorem restoreAll_blocks (h : State) : (restoreAll h).fans = (Param.all.foldl restoreParam h).fans ∧
    (restoreAll h).filters = (Param.all.foldl restoreParam h).filters ∧
    (restoreAll h).res = (Param.all.foldl restoreParam h).res := by
  unfold restoreAll
  generalize Param.all.foldl restoreParam h = u
  exact ⟨rfl, rfl, rfl⟩

theorem restoreAll_frame (h : State) : restoreAll h = { h with
    settings := .default, fans := (restoreAll h).fans, filters := (restoreAll h).filters, res := (restoreAll h).res
    superv := superviseFor 300 h.superv
    frost := if h.settings.preheatFitted = true then { h.frost with duty := 0, output := false } else h.frost } := by
  have hframe := foldl_frame Param.all h
  rw [restored_frost, restored_superv] at hframe
  rw [← restoreAll_settings h]
  unfold restoreAll
  generalize Param.all.foldl restoreParam h = u at *
  unfold restoreTables
  rw [hframe]

theorem restoreAll_fan (h : State) (st : Stream) : (restoreAll h).fans.get st =
    { dutyRestored h.settings (h.fans.get st) with qTarget := ((restoreAll h).fans.get st).qTarget } := by
  obtain ⟨hfans, -, -⟩ := restoreAll_blocks h
  rw [hfans]
  exact restored_fan h st

theorem restoreAll_ceilings (hflow : h.settings.qRated ≠ 900 ∨ h.settings.qMinRun ≠ 150) (st : Stream) :
    (restoreAll h).filters.get st = { h.filters.get st with ceiling := defaultCeiling (h.filters.get st) } := by
  obtain ⟨hrated, hrun, -⟩ := take_flows h
  obtain ⟨hbefore, -⟩ := foldl_noFlow take_noFlow h
  obtain ⟨hafter, -⟩ := foldl_noFlow drop_noFlow (restoreFlows ((Param.all.take 18).foldl restoreParam h))
  obtain ⟨-, hfilters, -⟩ := restoreAll_blocks h
  rw [hfilters, restoreAll_eq, hafter, restoreFlows_filters, (restored_ceilings (by rwa [hrated, hrun])).2 st, hbefore]

theorem restoreAll_filters_kept (h1 : h.settings.qRated = 900) (h2 : h.settings.qMinRun = 150) :
    (restoreAll h).filters = h.filters := by
  obtain ⟨hrated, hrun, -⟩ := take_flows h
  obtain ⟨hbefore, -⟩ := foldl_noFlow take_noFlow h
  obtain ⟨hafter, -⟩ := foldl_noFlow drop_noFlow (restoreFlows ((Param.all.take 18).foldl restoreParam h))
  obtain ⟨-, hfilters, -⟩ := restoreAll_blocks h
  rw [hfilters, restoreAll_eq, hafter, restoreFlows_filters, restoredRun_kept (hrated.trans h1) (hrun.trans h2), hbefore]

theorem resolved_restoreAll (hflow : (h.settings.qRated ≠ 900 ∨ h.settings.qMinRun ≠ 150) ∨ h.settings.qQuiet ≠ 350) :
    Resolved (restoreAll h) := by
  obtain ⟨hrated, hrun, hquiet⟩ := take_flows h
  have hflows := restoreFlows_resolved (u := (Param.all.take 18).foldl restoreParam h) (by rwa [hrated, hrun, hquiet])
  obtain ⟨-, -, -, hafter⟩ := foldl_noFlow drop_noFlow (restoreFlows ((Param.all.take 18).foldl restoreParam h))
  have hall := hafter hflows
  rw [← restoreAll_eq] at hall
  unfold restoreAll
  generalize Param.all.foldl restoreParam h = u at hall ⊢
  exact SameInputs.resolved (s := u) {} rfl rfl (fun _ => rfl) hall

theorem restoreAll_targets_kept (h1 : h.settings.qRated = 900) (h2 : h.settings.qMinRun = 150)
    (h3 : h.settings.qQuiet = 350) : (restoreAll h).res = h.res ∧
      ∀ st, ((restoreAll h).fans.get st).qTarget = (h.fans.get st).qTarget := by
  obtain ⟨hrated, hrun, hquiet⟩ := take_flows h
  obtain ⟨-, hres, htargets, -⟩ := foldl_noFlow take_noFlow h
  have hkept := restoreFlows_kept (hrated.trans h1) (hrun.trans h2) (hquiet.trans h3)
  obtain ⟨-, hres', htargets', -⟩ := foldl_noFlow drop_noFlow (restoreFlows ((Param.all.take 18).foldl restoreParam h))
  obtain ⟨hfans, -, hresolution⟩ := restoreAll_blocks h
  rw [hresolution, hfans, restoreAll_eq]
  rw [hkept] at hres' htargets' ⊢
  exact ⟨hres'.trans hres, fun st => (htargets' st).trans (htargets st)⟩

theorem restoreAll_stored (h : State) (st : Stream) :
    ((restoreAll h).filters.get st).stored = (h.filters.get st).stored := by
  by_cases hflow : h.settings.qRated ≠ 900 ∨ h.settings.qMinRun ≠ 150
  · rw [restoreAll_ceilings hflow]
    rfl
  · obtain ⟨h1, h2⟩ := not_or.mp hflow
    rw [restoreAll_filters_kept (not_not.mp h1) (not_not.mp h2)]

end Restored

/-! ### A request held until its save completes (R169) -/

/-- The part once a request's save is asked for and the request holds the slot. -/
def heldBy (tag : Byte) (q : Request) (u : State) : State :=
  { commitAndSave u with link := { (commitAndSave u).link with slot := some ⟨tag, requestKind q, some q, .saving⟩ } }

theorem exec_heard_saves {tag : Byte} {q : Request} {s h u : State} (hacc : Accepts tag q s) (hh : h = heard tag q s)
    (ho : ownerOf q h = (.afterSave, commitAndSave u)) : exec (q.toInstr tag) s = .next (heldBy tag q u) := by
  rw [exec_accepted hacc, ← hh]
  unfold serveRequest
  rw [ho]
  rfl

theorem heldBy_eq (tag : Byte) (q : Request) (u : State) : heldBy tag q u = { u with
    link := { u.link with slot := some ⟨tag, requestKind q, some q, .saving⟩ }, store := (heldBy tag q u).store } := by
  unfold heldBy commitAndSave
  rw [askSave_eq]
  rfl

theorem heldBy_starts (tag : Byte) (q : Request) {u : State} (hclosed : u.store.closed = false)
    (hidle : u.store.writing = none) : (heldBy tag q u).store.committed = u.settings ∧
      (heldBy tag q u).store.writing.map (·.settings) = some u.settings ∧ (heldBy tag q u).store.releases = true ∧
      (heldBy tag q u).store.commitPending = false ∧ (heldBy tag q u).store.image = none := by
  unfold heldBy commitAndSave
  rw [askSave_starts (s := u.setStore { u.store with commitPending := true }) hclosed hidle]
  exact ⟨rfl, rfl, rfl, rfl, rfl⟩

theorem heldBy_waits (tag : Byte) (q : Request) {u : State} (hclosed : u.store.closed = false)
    (hwrites : u.store.writing.isSome = true) :
    (heldBy tag q u).store = { u.store with commitPending := true, savePending := true } := by
  unfold heldBy commitAndSave
  rw [askSave_pends (s := u.setStore { u.store with commitPending := true }) hclosed hwrites]
  rfl

theorem ownResetPart_refuses {h : State} (hbusy : h.store.writing.isSome = true ∨ h.store.savePending = true) :
    ownResetPart h = (.now .notNow [], h) := if_pos hbusy

theorem ownResetPart_accepts {h : State} (hidle : h.store.writing = none) (hno : h.store.savePending = false) :
    ownResetPart h = (.now .ok [], { h with store := { h.store with closed := true } }) :=
  if_neg (by rw [hidle, hno]; exact nofun)

/-- What RESTORE_DEFAULTS leaves, with its save asked for. -/
theorem restored_held (tag : Byte) (q : Request) (h : State) : ∀ t, t = heldBy tag q (restoreAll h) →
    t.settings = .default ∧ t.nodes = h.nodes ∧ t.frost.rx0 = h.frost.rx0 ∧
    (∀ st, (t.filters.get st).stored = (h.filters.get st).stored) ∧
    t.settings.cal.temps = [800, 640, 510, 410, 330, 260, 200, 145, 95, 50, 5, -40, -90, -145, -210, -290, -400] ∧
    (∀ st, t.settings.feedforward.get st =
      [(0, 0), (150, 180), (300, 300), (450, 420), (600, 540), (750, 670), (900, 800), (1200, 1000)]) ∧
    ∀ x, x = h.settings → ∀ reformed : Prop, (reformed ↔ x.qRated ≠ 900 ∨ x.qMinRun ≠ 150) →
    t = { h with
      settings := t.settings, fans := t.fans, filters := t.filters, res := t.res, superv := t.superv, link := t.link
      store := t.store
      frost := if x.preheatFitted = true then { h.frost with duty := 0, output := false } else h.frost } ∧
    (∀ st, ∀ f, f = h.fans.get st → t.fans.get st = { f with
      qTarget := (t.fans.get st).qTarget
      absence := if x.dutyMin = 120 then f.absence else if 120 ≤ f.applied then some (f.absence.getD 0) else none }) ∧
    (reformed → ∀ st, ∀ f, f = h.filters.get st → t.filters.get st = { f with
      ceiling := if f.state = .blocked then min (max (180000 / f.loading.getD 100) 150) 900 else 900 }) ∧
    (¬reformed → t.filters = h.filters) ∧
    (reformed ∨ x.qQuiet ≠ 350 → Resolved t) ∧
    (¬reformed → x.qQuiet = 350 → t.res = h.res ∧ ∀ st, (t.fans.get st).qTarget = (h.fans.get st).qTarget) ∧
    (h.superv.state = .off → t.superv = ⟨.ok, 0, 0⟩) ∧
    (h.superv.state = .ok → t.superv = { h.superv with silence := 0 }) ∧
    (h.superv.state = .probing ∨ h.superv.state = .lost → t.superv = h.superv) := by
  intro t ht
  have hheld := heldBy_eq tag q (restoreAll h)
  rw [← ht] at hheld
  have hframe := restoreAll_frame h
  have hfilters : t.filters = (restoreAll h).filters := by rw [hheld]
  have hfans : t.fans = (restoreAll h).fans := by rw [hheld]
  have hsettings : t.settings = .default := by rw [hheld, hframe]
  have hsuperv : t.superv = superviseFor 300 h.superv := by rw [hheld, hframe]
  have hfrost : t.frost = if h.settings.preheatFitted = true then { h.frost with duty := 0, output := false } else h.frost := by
    rw [hheld, hframe]
  refine ⟨hsettings, by rw [hheld, hframe], ?rx0, fun st => ?stored, by rw [hsettings]; rfl,
    fun st => by rw [hsettings]; cases st <;> rfl, ?_⟩
  case rx0 =>
    rw [hfrost]
    split <;> rfl
  case stored =>
    rw [hfilters]
    exact restoreAll_stored h st
  rintro x rfl reformed hreformed
  have hkept (hno : ¬ reformed) : h.settings.qRated = 900 ∧ h.settings.qMinRun = 150 := by
    obtain ⟨h1, h2⟩ := not_or.mp (mt hreformed.mpr hno)
    exact ⟨not_not.mp h1, not_not.mp h2⟩
  refine ⟨?frame, ?fans, ?ceilings, fun hno => ?filters, fun hflow => ?resolved, fun hno hquiet => ?targets, fun hoff => ?off,
    fun hok => ?ok, fun hother => ?other⟩
  case frame =>
    have hblocks : t = { restoreAll h with link := t.link, store := t.store } := by rw [hheld]
    have hres : t.res = (restoreAll h).res := by rw [hheld]
    rw [hfilters, hfans, hres, hsettings, hsuperv]
    generalize t.link = l at *
    generalize t.store = x at *
    rw [hblocks, hframe]
  case fans =>
    rintro st f rfl
    rw [hfans]
    exact restoreAll_fan h st
  case ceilings =>
    rintro hr st f rfl
    rw [hfilters]
    exact restoreAll_ceilings (hreformed.mp hr) st
  case filters =>
    obtain ⟨h1, h2⟩ := hkept hno
    rw [hfilters]
    exact restoreAll_filters_kept h1 h2
  case resolved =>
    have hr := resolved_restoreAll (h := h) (hflow.imp hreformed.mp id)
    rw [hheld]
    generalize restoreAll h = u at hr ⊢
    exact SameInputs.resolved (s := u) {} rfl rfl (fun _ => rfl) hr
  case targets =>
    obtain ⟨h1, h2⟩ := hkept hno
    have hres : t.res = (restoreAll h).res := by rw [hheld]
    rw [hfans, hres]
    exact restoreAll_targets_kept h1 h2 hquiet
  case off =>
    rw [hsuperv]
    unfold superviseFor
    simp [hoff]
  case ok =>
    rw [hsuperv]
    unfold superviseFor
    simp [hok]
  case other =>
    rw [hsuperv]
    unfold superviseFor
    obtain hs | hs := hother <;> simp [hs]

/-- Settles O60: the saves held, the defaults restored, and RESET_PART by what runs or waits. -/
theorem saveRestoreAndReset : Obligations.SaveRestoreAndReset := by
  unfold Obligations.SaveRestoreAndReset
  intro tag s q hacc h hh
  refine ⟨fun hq => ?_, ?_, ?_⟩
  · obtain ⟨u, hu⟩ : ∃ u, u = if q = .saveSettings then h else restoreAll h := ⟨_, rfl⟩
    have howner : ownerOf q h = (.afterSave, commitAndSave u) := by
      rw [hu]
      obtain rfl | rfl := hq <;> rfl
    have hlink : u.link = h.link := by
      rw [hu]
      split
      · rfl
      · rw [restoreAll_frame]
    have hstore : u.store = h.store := by
      rw [hu]
      split
      · rfl
      · rw [restoreAll_frame]
    have hheld := heldBy_eq tag q u
    have hsettings : (heldBy tag q u).settings = u.settings := by rw [hheld]
    refine ⟨heldBy tag q u, exec_heard_saves hacc hh howner, ?_, ?_, ?_, fun hclosed hidle => ?_, fun hclosed hwrites => ?_⟩
    · rw [← hlink, hheld]
    · intro hsave
      obtain rfl : u = h := hu.trans (if_pos hsave)
      rw [hheld]
    · rintro rfl
      exact restored_held tag _ h _ (congrArg _ (hu.trans (if_neg nofun)))
    · rw [hsettings]
      exact heldBy_starts tag q (hstore ▸ hclosed) (hstore ▸ hidle)
    · rw [← hstore]
      exact heldBy_waits tag q (hstore ▸ hclosed) (hstore ▸ hwrites)
  · rintro rfl hbusy
    exact exec_heard_now hacc hh (ownResetPart_refuses hbusy)
  · rintro rfl hidle hno
    exact exec_heard_now hacc hh (ownResetPart_accepts hidle hno)

end Sys2Proof.Proofs
end
